-- ==== Sys2Proof/Word.lean ====
section
/-! DEFINITION. The few words the manual treats as bits, and two plain synonyms. -/

namespace Sys2Proof

/-- One byte of a frame or of a coded image. -/
abbrev Byte := BitVec 8

/-- A 48-bit hardware address (file 08, "Frames and segments"). -/
abbrev HwAddr := BitVec 48

/-- A 32-bit network address (file 08, "Frames and segments"). -/
abbrev NetAddr := BitVec 32

/-- A text: its character codes in order. -/
abbrev Text := List Nat

/-- A field that carries one of a set of names on the wire: `none` is any value that is not one of
the names, which the owner's range check refuses with FIELD_RANGE. -/
abbrev Coded (α : Type) := Option α

end Sys2Proof
end

