-- ==== Sys2Proof/Syntax.lean ====
section
/-! DEFINITION. The commands of the 4860: one constructor of `Instr` for each row of spec/opcode_table.json, and the
operands they carry. An operand holds what arrives, in range or not; the owners' checks refuse what is out of range. -/

namespace Sys2Proof

/-! ## Names of the mode controller (file 01) -/

/-- R1: the store mode. -/
inductive Mode where
  | trading | closing | closed
  deriving DecidableEq, Repr

/-- R8: the seven weekdays. -/
inductive Weekday where
  | monday | tuesday | wednesday | thursday | friday | saturday | sunday
  deriving DecidableEq, Repr

/-- R11: the actions of a schedule entry. -/
inductive ScheduleAction where
  | openStore | closeBegin | windowOpen | windowClose
  deriving DecidableEq, Repr

/-- R14: the exchange window state. -/
inductive WindowState where
  | opened | shut
  deriving DecidableEq, Repr

/-! ## Names of the price evaluator (file 02) -/

/-- R18: the rounding modes of a PERCENT promotion. -/
inductive Rounding where
  | nearest | down | up
  deriving DecidableEq, Repr

/-- The unit codes of "Inputs of a price version". -/
inductive UnitCode where
  | perKg | perL | per100g | per100ml | perPiece | perM
  deriving DecidableEq, Repr

/-- R16: the decimal mark. -/
inductive Mark where
  | dot | comma
  deriving DecidableEq, Repr

/-- R40: when a PRICE takes effect. -/
inductive Effect where
  | nextOpen | immediate
  deriving DecidableEq, Repr

/-- A promotion as a PRICE record carries it, before its range check (R17). -/
inductive RawPromotion where
  | absent
  | percent (p : Nat) (rounding : Coded Rounding)
  | amount (a : Nat)
  | fixed (p : Nat)
  | unknown
  deriving DecidableEq, Repr

/-- R40: a PRICE change record. -/
structure PriceRecord where
  code : Nat
  base : Nat
  promotion : RawPromotion
  badge : Option Text
  floor : Option Nat
  pack : Option Nat
  unit : Option (Coded UnitCode)
  description : Text
  effect : Coded Effect
  deriving DecidableEq, Repr

/-- R16: a write of the price settings record; a mask is MASKED (`some true`), UNMASKED (`some false`) or neither. -/
structure PriceSettingsWrite where
  promoAboveBase : Coded Bool
  floor : Coded Bool
  zeroPrice : Coded Bool
  unitOverflow : Coded Bool
  decimals : Nat
  mark : Coded Mark
  glyph : Option Nat
  deriving DecidableEq, Repr

/-! ## Names of the label directory and the composer (files 04 and 05) -/

/-- R53, R76: the display classes. -/
inductive DisplayClass where
  | small | medium | large
  deriving DecidableEq, Repr

/-- R76: what a template field draws. -/
inductive FieldSource where
  | effectivePrice | basePrice | unitPrice | description | promoBadge | itemCode
  deriving DecidableEq, Repr

/-- R76: the orientations of a field. -/
inductive Orientation where
  | deg0 | deg90 | deg180 | deg270
  deriving DecidableEq, Repr

/-- R76: the alignments of a field. -/
inductive Alignment where
  | left | centre | right
  deriving DecidableEq, Repr

/-- R76: the planes of a field. -/
inductive Plane where
  | black | accent
  deriving DecidableEq, Repr

/-- R76: a field of a template as a write carries it. -/
structure RawField where
  source : Coded FieldSource
  xStart : Nat
  xEnd : Nat
  yStart : Nat
  yEnd : Nat
  orientation : Coded Orientation
  font : Nat
  alignment : Coded Alignment
  plane : Coded Plane
  deriving DecidableEq, Repr

/-- R76: a write of a template record; no fields is the field count 0. -/
structure TemplateWrite where
  cls : Coded DisplayClass
  planes : Nat
  fields : List RawField
  deriving DecidableEq, Repr

/-- R78: a write of a glyph record: a width and a pattern of rows of pixels, ink or clear. -/
structure GlyphWrite where
  width : Nat
  pattern : List (List Bool)
  deriving DecidableEq, Repr

/-- R92: a write of the radio settings record. -/
structure RadioSettingsWrite where
  channel : Nat
  tradingBudget : Nat
  closedBudget : Nat
  retryLimit : Nat
  deriving DecidableEq, Repr

/-- R98, R99: what a label answers in a reply window. -/
inductive RadioReply where
  | ack (tag : Nat)
  | nakBase
  | nakCheck
  | report (tag : Nat)
  deriving DecidableEq, Repr

/-- R99, R100: a radio transmission taken as a reply: whether it passes its integrity check, the label id it
carries, and the reply. -/
structure ReplyTransmission where
  sound : Bool
  label : Nat
  reply : RadioReply
  deriving DecidableEq, Repr

/-- R102: a check-in or wake check-in. -/
structure CheckIn where
  sound : Bool
  label : Nat
  tag : Nat
  battery : Nat
  check : Nat
  deriving DecidableEq, Repr

/-! ## Names of the till service (file 07) -/

/-- R116: the kinds of a sale line. -/
inductive SaleKind where
  | sale | returned | voided
  deriving DecidableEq, Repr

/-- R116: a line of a SALE_RECORD. -/
structure SaleLine where
  kind : Coded SaleKind
  code : Nat
  quantity : Int
  price : Nat
  version : Nat
  deriving DecidableEq, Repr

/-- A LAN port, L0 to L7. -/
abbrev Port := Fin 8

/-- What the forwarder hands the till service with a till frame (R137): its source addresses and arrival port. -/
structure TillSender where
  hw : HwAddr
  net : NetAddr
  port : Port
  deriving DecidableEq, Repr

/-- The content of a SERVICE frame read as a till service frame (R110, R192); a malformed one has the kind and till
number it carries, and `empty` not even a kind. -/
inductive TillFrame where
  | hello (till : Nat)
  | priceQuery (till : Nat) (code : Nat)
  | saleRecord (till : Nat) (sequence : Nat) (time : Nat) (lines : List SaleLine)
  | unknownKind (kind : Nat) (till : Nat)
  | malformed (kind : Nat) (till : Nat)
  | empty
  deriving DecidableEq, Repr

/-! ## Names of the forwarder and the guest service (files 08 and 09) -/

/-- R128: the roles of a port. -/
inductive PortRole where
  | till | office | accessPoint | unused
  deriving DecidableEq, Repr

/-- R132: the segments of the LAN side, in their order. -/
inductive Segment where
  | till | office | staff | guest
  deriving DecidableEq, Repr

/-- R128: a write of a port record; a link state carried in it is not taken. -/
structure PortWrite where
  role : Coded PortRole
  staffTag : Nat
  guestTag : Nat
  deriving DecidableEq, Repr

/-- R131: a write of a gateway record. -/
structure GatewayWrite where
  address : NetAddr
  prefixLength : Nat
  deriving DecidableEq, Repr

/-- R144: a write of the guest profile. -/
structure GuestProfileWrite where
  quotaMiB : Nat
  timeLimit : Nat
  idleLimit : Nat
  cooldown : Nat
  rateCap : Nat
  maximum : Nat
  deriving DecidableEq, Repr

/-- R11: a write of a schedule entry; the weekday set as the weekdays it names. -/
structure ScheduleWrite where
  weekdays : List (Coded Weekday)
  time : Nat
  action : Coded ScheduleAction
  enabled : Coded Bool
  deriving DecidableEq, Repr

/-- R8: a write of the mode settings record. -/
structure ModeSettingsWrite where
  drainPeriod : Nat
  epochWeekday : Coded Weekday
  deriving DecidableEq, Repr

/-! ## Management messages (file 12) -/

/-- R185: the management tables. -/
inductive TableName where
  | ports | policy | schedule | priceSettings | templates | glyphs | radioSettings | guestProfile
  | tills | items | labels | addresses | guestSessions | notices | counters
  deriving DecidableEq, Repr

/-- R185: the direction of a window's cursor. -/
inductive Direction where
  | increment | decrement
  deriving DecidableEq, Repr

/-- R166: the loopback states. -/
inductive Loopback where
  | off | localLoop | remoteLoop
  deriving DecidableEq, Repr

/-- R169: the error insertion setting a QUALIFY_LINE carries: OFF, or a number. -/
inductive Insertion where
  | off
  | every (n : Nat)
  deriving DecidableEq, Repr

/-- R186: one record of a WRITE, as it stands in the message. -/
inductive WriteRecord where
  | port (r : PortWrite)
  | gateway (r : GatewayWrite)
  | forwarder (aging : Nat)
  | collector (address : Option NetAddr)
  | policyCell (allow : Coded Bool)
  | scheduleEntry (r : ScheduleWrite)
  | modeSettings (r : ModeSettingsWrite)
  | priceSettings (r : PriceSettingsWrite)
  | template (r : TemplateWrite)
  | font (height : Nat)
  | glyph (r : GlyphWrite)
  | radioSettings (r : RadioSettingsWrite)
  | guestProfile (r : GuestProfileWrite)
  | price (r : PriceRecord)
  | description (code : Nat) (text : Text)
  | withdraw (code : Nat)
  | label (id : Nat) (cls : Coded DisplayClass)
  | bind (id : Nat) (code : Nat) (template : Nat)
  | unbind (id : Nat)
  | templateChange (id : Nat) (template : Nat)
  | other
  deriving DecidableEq, Repr

/-- R188: the commands of a COMMAND message. -/
inductive MgmtCommand where
  | openStore
  | closeStore
  | closeNow
  | windowOpen
  | windowClose
  | setClock (value : Nat)
  | release (code : Nat)
  | forceLabel (id : Nat)
  | qualifyLine (length : Option Nat) (insertion : Option Insertion)
  | loopback (mode : Coded Loopback) (duration : Option Nat)
  | endGuest (hw : HwAddr)
  | clearNotices
  | saveSettings
  | warmRestart
  | coldRestart
  | unknown
  deriving DecidableEq, Repr

/-- R184: what a management message asks for, by kind. -/
inductive MgmtBody where
  | window (table : Coded TableName) (first last : Nat) (direction : Coded Direction)
  | write (records : List WriteRecord)
  | read (count : Nat)
  | command (c : MgmtCommand)
  | status
  | unknownKind
  | malformed
  deriving DecidableEq, Repr

/-- R184: a management message: station number, tag and body. -/
structure MgmtMessage where
  station : Nat
  tag : Nat
  body : MgmtBody
  deriving DecidableEq, Repr

/-- R184: the source of a management message, with what an answer needs to find its way back (R137). -/
inductive MgmtSource where
  | storeServer (hw : HwAddr) (net : NetAddr) (port : Port)
  | headOffice
  deriving DecidableEq, Repr

/-- R184: the source and header of a management message that carries a command of its own row. -/
structure MgmtHeader where
  source : MgmtSource
  station : Nat
  tag : Nat
  deriving DecidableEq, Repr

/-- How a record write arrives (logs 8 and 9): as the only record of a WRITE message, taken at the cursor of its
source's window and answered (R186); as record `index`, from 1, of a WRITE of `count` records whose records are taken
one by one, other events between them; or as the record's own event at the table's owner, at a named position. -/
inductive Via where
  | message (h : MgmtHeader)
  | part (h : MgmtHeader) (index count : Nat)
  | event (position : Nat)
  deriving DecidableEq, Repr

/-! ## Frames (files 08, 10, 11) -/

/-- The content of a SERVICE frame under its two readings (log 34): a till service frame on the TILL segment, a
management message on the OFFICE segment. -/
structure ServiceContent where
  till : TillFrame
  mgmt : MgmtMessage
  deriving DecidableEq, Repr

/-- What a LAN frame carries, by frame type (file 08, "Frames and segments"). -/
inductive LanPayload where
  | network (src dst : NetAddr) (content : List Byte)
  | service (src dst : NetAddr) (content : ServiceContent)
  | other (content : List Byte)
  deriving DecidableEq, Repr

/-- A LAN frame as the forwarder takes it (file 08, "Frames and segments"). -/
structure LanFrame where
  dst : HwAddr
  src : HwAddr
  tag : Option Nat
  payload : LanPayload
  deriving DecidableEq, Repr

/-- R181: a record of an exchange batch, by kind. -/
inductive StagedRecord where
  | price (r : PriceRecord)
  | description (code : Nat) (text : Text)
  | withdraw (code : Nat)
  | label (id : Nat) (cls : Coded DisplayClass)
  | bind (id : Nat) (code : Nat) (template : Nat)
  | unbind (id : Nat)
  | templateChange (id : Nat) (template : Nat)
  | time (value : Option Nat)
  | exchangeClose
  | unknown
  deriving DecidableEq, Repr

/-- R179: a record of an EXCHANGE_RECORDS frame: its kind and content bytes, which the byte sum runs over, and what
they say (log 13). -/
structure ExchangeRecord where
  bytes : List Byte
  record : StagedRecord
  deriving DecidableEq, Repr

/-- R174, R192: a frame of the nightly exchange as head office sends it; `unknown` carries the kind byte, `empty` is a
frame that ends before it (logs 48 and 49). -/
inductive ExchangeFrame where
  | empty
  | exchangeOpen
  | batchStart (n k : Nat)
  | exchangeRecords (records : List ExchangeRecord)
  | batchEnd (check : Nat)
  | unknown (kind : Byte)
  | malformed (kind : Byte)
  deriving DecidableEq, Repr

/-- The content of a line frame by its kind (R159, R192). -/
inductive LineContent where
  | alive
  | data (src dst : NetAddr) (content : List Byte)
  | management (m : MgmtMessage)
  | exchange (f : ExchangeFrame)
  | journalBlock
  | journalAck (number : Nat)
  | testLoop
  | testPattern (number : Nat) (bits : List Bool)
  | malformed
  | unknownKind
  deriving DecidableEq, Repr

/-- R159: a frame arriving on the receive input: the length of its content, whether a kind and CRC are complete,
whether the CRC matches, and its content. -/
structure LineInput where
  length : Nat
  complete : Bool
  crcOk : Bool
  content : LineContent
  deriving DecidableEq, Repr

/-- R159, R167: what the receive input takes: a frame from the line, or the next frame that LOCAL loopback
returns (log 24). -/
inductive LineArrival where
  | fromLine (f : LineInput)
  | returned
  deriving DecidableEq, Repr

/-! ## The commands -/

/-- One constructor for each row of spec/opcode_table.json, in the table's order. -/
inductive Instr where
  | openCmd (h : MgmtHeader)
  | closeCmd (h : MgmtHeader)
  | closeNow (h : MgmtHeader)
  | drainTimerExpiry
  | setClock (h : MgmtHeader) (value : Nat)
  | clockAdvance
  | windowOpen (h : MgmtHeader)
  | windowClose (h : MgmtHeader)
  | release (h : MgmtHeader) (code : Nat)
  | price (via : Via) (r : PriceRecord)
  | description (via : Via) (code : Nat) (text : Text)
  | withdraw (via : Via) (code : Nat)
  | label (via : Via) (id : Nat) (cls : Coded DisplayClass)
  | bind (via : Via) (id : Nat) (code : Nat) (template : Nat)
  | unbind (via : Via) (id : Nat)
  | templateRecord (via : Via) (id : Nat) (template : Nat)
  | itemRetarget
  | templateRetarget
  | sweepVisit
  | forceLabel (h : MgmtHeader) (id : Nat)
  | beacon
  | labelReply (t : ReplyTransmission)
  | replyWindowClose
  | checkIn (c : CheckIn)
  | hello (sender : TillSender) (till : Nat)
  | priceQuery (sender : TillSender) (till : Nat) (code : Nat)
  | saleRecord (sender : TillSender) (till : Nat) (sequence : Nat) (time : Nat) (lines : List SaleLine)
  | silenceTimerExpiry (till : Nat)
  | journalBlock
  | journalAck (number : Nat)
  | acknowledgementTimerExpiry
  | lanFrame (port : Port) (f : LanFrame)
  | linkUp (port : Port)
  | linkDown (port : Port)
  | addressAgingExpiry (segment : Segment) (hw : HwAddr)
  | timeLimitExpiry (hw : HwAddr)
  | idleLimitExpiry (hw : HwAddr)
  | cooldownEnd (hw : HwAddr)
  | endGuest (h : MgmtHeader) (hw : HwAddr)
  | governorReading
  | lineFrame (a : LineArrival)
  | lossTimerExpiry
  | aliveTimerExpiry
  | transmitStart
  | loopback (h : MgmtHeader) (mode : Coded Loopback) (duration : Option Nat)
  | loopbackTimerExpiry
  | qualifyLine (h : MgmtHeader) (length : Option Nat) (insertion : Option Insertion)
  | qualifyTimeout
  | exchangeOpen
  | batchStart (n k : Nat)
  | exchangeRecords (records : List ExchangeRecord)
  | batchEnd (check : Nat)
  | reopenHoldExpiry
  | window (h : MgmtHeader) (table : Coded TableName) (first last : Nat) (direction : Coded Direction)
  | read (h : MgmtHeader) (count : Nat)
  | status (h : MgmtHeader)
  | portWrite (via : Via) (r : PortWrite)
  | gatewayRecordWrite (via : Via) (r : GatewayWrite)
  | agingTimeWrite (via : Via) (aging : Nat)
  | collectorRecordWrite (via : Via) (address : Option NetAddr)
  | policyCellWrite (via : Via) (allow : Coded Bool)
  | scheduleEntryWrite (via : Via) (r : ScheduleWrite)
  | modeSettingsWrite (via : Via) (r : ModeSettingsWrite)
  | priceSettingsWrite (via : Via) (r : PriceSettingsWrite)
  | templateWrite (via : Via) (r : TemplateWrite)
  | fontWrite (via : Via) (height : Nat)
  | glyphWrite (via : Via) (r : GlyphWrite)
  | radioSettingsWrite (via : Via) (r : RadioSettingsWrite)
  | guestProfileWrite (via : Via) (r : GuestProfileWrite)
  | readOnlyWrite (h : MgmtHeader) (records : List WriteRecord)
  | clearNotices (h : MgmtHeader)
  | noticeSend
  | saveSettings (h : MgmtHeader)
  | saveComplete
  | warmRestart (h : MgmtHeader)
  | coldRestart (h : MgmtHeader)
  | resetLine (retain : Bool)
  | powerUp
  deriving DecidableEq, Repr

end Sys2Proof
end

