-- ==== Sys2Proof/Decode.lean ====
section
/-! DEFINITION. The commands that words spell by the bits of spec/opcode_table.json. No row of the table has bits: the
commands are events, messages and frames, so no word spells one (log 2). -/

namespace Sys2Proof

/-- The command a word spells by the table's bits: none of the 78 rows gives any. -/
def decodeTableWord (_nbits _w : Nat) : Option Instr := none

end Sys2Proof
end

