-- ==== Sys2Proof/Config.lean ====
section
/-! DEFINITION. What one 4860 is fixed at: the capacities the manual states, and the free values: constants
without a body, for what the manual leaves open (notes/assumptions 10, 11, 12, 36, 49, 50). -/

namespace Sys2Proof

/-- R33: at most 65,536 item records. -/
def Config.maxItems : Nat := 65536
/-- R53: at most 65,536 label records. -/
def Config.maxLabels : Nat := 65536
/-- R33: at most 8 labels bound to one item. -/
def Config.maxBound : Nat := 8
/-- R119: the sales journal holds at most 262,144 entries. -/
def Config.journalCapacity : Nat := 262144
/-- R120: the journal's high-water mark. -/
def Config.journalHigh : Nat := 196608
/-- R132: the address table holds at most 4,096 entries. -/
def Config.maxAddresses : Nat := 4096
/-- R145: the guest session table holds at most 1,024 sessions. -/
def Config.maxSessions : Nat := 1024
/-- R189: the notice queue holds at most 64 keyed entries. -/
def Config.maxNotices : Nat := 64
/-- R164: the EXCHANGE wait list holds at most 64 frames. -/
def Config.maxWaiting : Nat := 64
/-- R174: the exchange engine holds at most 64 replies. -/
def Config.maxHeld : Nat := 64
/-- R179: the staging area stores at most 256 records. -/
def Config.maxStaged : Nat := 256
/-- R87: a coded update of more than 96 fragments is OVERSIZE. -/
def Config.maxFragments : Nat := 96
/-- R93: no more than 16 labels are addressed in a slot. -/
def Config.maxSelected : Nat := 16
/-- The largest 32-bit count: where counters stop (R75, R106, R125, R142, R157, R172, R183), where the store
clock stops (R9), and the last batch number, sequence and entry number. -/
def Config.max32 : Nat := 4294967295
/-- Scope, "Money": the largest amount of money. -/
def Config.maxMoney : Nat := 9999999
/-- R33: the largest item code. -/
def Config.maxItemCode : Nat := 9999999999999

/-- R149: depth of a session bucket, 16,384 bytes, in bits (log 5). -/
def Config.sessionDepth : Nat := 131072
/-- R155: depth of the aggregate bucket, 65,536 bytes, in bits (log 5). -/
def Config.aggregateDepth : Nat := 524288

/-- Free value (log 12): the revision number a STATUS answer carries (R187); the manual states none. -/
opaque Config.revision : Nat

/-- Free value (log 11): the bytes a TEST_LOOP marker takes in the EXCHANGE class. R192 states no size; it is the
content of a line frame, so at most 4,608 (R159). -/
opaque Config.testLoopBytes : Fin 4609

/-- Free value (log 10): the bytes of the body of a management message the 4860 sends, as a function of what the
body carries. R192 gives the header's layout and no body's. -/
opaque Config.bodyBytes (α : Type) : α → Nat

/-- Free value (log 36): the 2-bit code of a display class in the image header, 0 SMALL, 1 MEDIUM, 2 LARGE as the
argument; R192 names the bits and not the codes. -/
opaque Config.classCode : Fin 3 → Fin 4

/-- Free value (log 50): whether the settings flash image passes its check, for each check made (R190). -/
opaque Config.imagePasses : Nat → Bool

/-- Free value (log 49): the byte that stands for one of a set of names on the wire, where the manual gives the name a
field and no number: result and refusal codes, qualification results, the store mode, the flags of an answer. -/
opaque Config.nameByte (α : Type) : α → Byte

/-- Free value (log 49): what bytes say where the manual names the fields and lays out no bytes: the bodies of
management messages, the records of an exchange batch, the kind of a sale line. -/
opaque Config.readAs (α : Type) : List Byte → Option α

/-- Free value (log 49): the 16-bit CRC over a line frame's kind and content (R192), whose polynomial the manual does
not give. -/
opaque Config.crc : List Byte → BitVec 16

end Sys2Proof
end

