-- ==== Sys2Proof/Machine/Table.lean ====
section
/-! DEFINITION. A keyed table: the one form every table of records with a key takes (items, labels, addresses,
sessions), a list of key and record with keys strictly rising. Equal tables are equal lists, and the record at window
position n is the record with n lower keys (R50, R73, R132, R145). -/

namespace Sys2Proof.Machine

/-- A table of records of type `α` by a natural-number key, keys strictly rising. -/
abbrev Table (α : Type) := List (Nat × α)

/-- The canonical form: keys strictly rising. -/
abbrev tableSorted {α : Type} (t : Table α) : Prop := (t.map Prod.fst).Pairwise (· < ·)

/-- The record under key `k`, if there is one. -/
def tableFind {α : Type} (t : Table α) (k : Nat) : Option α :=
  match t with
  | [] => none
  | (j, v) :: rest => if j = k then some v else tableFind rest k

/-- The table with `v` under key `k`, in place of what was there. -/
def tableInsert {α : Type} (t : Table α) (k : Nat) (v : α) : Table α :=
  match t with
  | [] => [(k, v)]
  | (j, w) :: rest =>
    if k < j then (k, v) :: (j, w) :: rest
    else if k = j then (k, v) :: rest
    else (j, w) :: tableInsert rest k v

/-- The table without key `k`. -/
def tableErase {α : Type} (t : Table α) (k : Nat) : Table α := t.filter (fun p => decide (p.1 ≠ k))

/-- The table with `f` applied to the record under `k`, if there is one. -/
def tableModify {α : Type} (t : Table α) (k : Nat) (f : α → α) : Table α :=
  t.map (fun p => if p.1 = k then (p.1, f p.2) else p)

/-- The table with `f` applied to every record. -/
def tableMapValues {α : Type} (t : Table α) (f : α → α) : Table α := t.map (fun p => (p.1, f p.2))

/-- The record at window position `n`: the one with `n` lower keys. -/
def tableAt {α : Type} (t : Table α) (n : Nat) : Option (Nat × α) := t[n]?

/-- A set of keys as a list without duplicates, with `k` added. -/
def setAdd (l : List Nat) (k : Nat) : List Nat := if l.contains k then l else l ++ [k]

/-- A list without the entry `k`. -/
def listRemove (l : List Nat) (k : Nat) : List Nat := l.filter (fun j => decide (j ≠ k))

end Sys2Proof.Machine
end

