-- ==== Sys2Proof/Machine/Records.lean ====
section
/-! DEFINITION. The records the twelve blocks hold, the messages and frames they send, and `Block`: everything the
manual gives the 4860. Plain data throughout. -/

namespace Sys2Proof.Machine

/-! ## Codes and notices -/

/-- The refusal codes of R188, and those of the exchange engine (R175, R178). -/
inductive Code where
  | unknownKind | badTable | windowRange | fieldRange | readOnly | notInMode | already | busy | notFound
  | tableFull | slotsFull | boundLabels | labelLimit | labelExists | windowClosed | linePoor | outOfOrder
  deriving DecidableEq, Repr

/-- The result of a change record or of a record write: `none` is success, `some c` a refusal (R39, R186). -/
abbrev Verdict := Option Code

/-- R171: the qualification results. -/
inductive QualClass where
  | classA | classB | classC | poor | noResult
  deriving DecidableEq, Repr

/-- R189: the kinds of a notice. -/
inductive NoticeKind where
  | uplinkDown | itemHeld | journalFull | settingsDefaulted
  | labelFailed | exchangeAborted | priceDiffers | journalHigh | tillSilent
  | labelLost | labelOversize | qualifyResult | addressTableFull | guestFull
  | modeChanged | windowChanged | labelFound | labelTruncated | bindDropped | uplinkUp | loopbackChanged
  | batchCommitted | settingsSaved
  deriving DecidableEq, Repr

/-- The subject of a notice, as the rule that queues it names it. -/
inductive NoticeSubject where
  | mode (m : Mode)
  | windowState (w : WindowState)
  | item (code : Nat)
  | label (id : Nat)
  | till (n : Nat)
  | journal
  | line
  | exchange
  | flash
  | addressTable
  | sessionTable
  | loopback (l : Loopback)
  deriving DecidableEq, Repr

/-- R189: an entry of the notice queue: a keyed entry, or the OVERFLOW entry with its count of folded notices. -/
inductive NoticeEntry where
  | keyed (kind : NoticeKind) (subject : NoticeSubject) (count : Nat) (first last : Option Nat)
      (result : Option QualClass)
  | overflow (count : Nat)
  deriving DecidableEq, Repr

/-! ## Mode controller (file 01) -/

/-- R8: the mode settings record. -/
structure ModeSettings where
  drainPeriod : Nat
  epochWeekday : Weekday
  deriving DecidableEq, Repr

/-- R11: a schedule entry. -/
structure ScheduleEntry where
  weekdays : List Weekday
  time : Nat
  action : ScheduleAction
  enabled : Bool
  deriving DecidableEq, Repr

/-- What the mode controller holds. Timers hold the remaining milliseconds, or none when stopped. -/
structure ModeBlock where
  mode : Mode
  drain : Option Nat
  settings : ModeSettings
  clock : Option Nat
  schedule : Vector ScheduleEntry 16
  window : WindowState
  deriving DecidableEq, Repr

/-! ## Price evaluator (file 02) -/

/-- R16: the mask flags; `true` is MASKED. -/
structure PriceMasks where
  promoAboveBase : Bool
  floor : Bool
  zeroPrice : Bool
  unitOverflow : Bool
  deriving DecidableEq, Repr

/-- R22: a fault set; `true` is raised. -/
structure PriceFaults where
  promoAboveBase : Bool
  floor : Bool
  zeroPrice : Bool
  unitOverflow : Bool
  deriving DecidableEq, Repr

/-- R16: the price settings record. -/
structure PriceSettings where
  masks : PriceMasks
  decimals : Nat
  mark : Mark
  glyph : Option Nat
  deriving DecidableEq, Repr

/-- A promotion that passed its range check (R17). -/
inductive Promotion where
  | percent (p : Nat) (rounding : Rounding)
  | amount (a : Nat)
  | fixed (p : Nat)
  deriving DecidableEq, Repr

/-- The inputs of a price version as stored (R34). -/
structure PriceInputs where
  base : Nat
  promotion : Option Promotion
  badge : Option Text
  floor : Option Nat
  pack : Option Nat
  unit : Option UnitCode
  description : Text
  deriving DecidableEq, Repr

/-- R21: the unit price: an amount, BLANK, or absent. -/
inductive UnitPrice where
  | amount (n : Nat)
  | blank
  | absent
  deriving DecidableEq, Repr

/-- R15: the results of an evaluation. -/
structure PriceResults where
  e : Nat
  u : UnitPrice
  faults : PriceFaults
  deriving DecidableEq, Repr

/-- R22: the status of a version. -/
inductive VersionStatus where
  | valid | held
  deriving DecidableEq, Repr

/-! ## Item table (file 03) -/

/-- R34: the roles of a filled slot; an EMPTY slot is an absent version. -/
inductive Role where
  | pending | active | retired
  deriving DecidableEq, Repr

/-- R34: the content of a filled version slot. -/
structure Version where
  role : Role
  status : VersionStatus
  number : Nat
  inputs : PriceInputs
  results : PriceResults
  refs : Nat
  deriving DecidableEq, Repr

/-- A version slot number, 0 to 3. -/
abbrev Slot := Fin 4

/-- R33: an item record; its code is its key, its pending field is membership in the pending list. -/
structure Item where
  last : Nat
  slots : Vector (Option Version) 4
  bound : List Nat
  deriving DecidableEq, Repr

/-- What the item table holds. -/
structure ItemBlock where
  table : Table Item
  pending : List Nat
  deriving DecidableEq, Repr

/-! ## Label directory (file 04) -/

/-- R53: the binding kinds. -/
inductive BindingKind where
  | normal | foreign
  deriving DecidableEq, Repr

/-- R61: a deferred BIND or UNBIND. -/
inductive NextBinding where
  | bind (code template : Nat)
  | unbind
  deriving DecidableEq, Repr

/-- R56: a label's target, where it has one. -/
inductive Target where
  | blank
  | version (code : Nat) (slot : Slot) (number : Nat)
  deriving DecidableEq, Repr

/-- R53: what a reference names: no item, or a version and the template its image was drawn with. -/
inductive RefWhat where
  | blank
  | version (code : Nat) (slot : Slot) (number : Nat) (template : Nat)
  deriving DecidableEq, Repr

/-- R53: a reference with its image tag and check value. -/
structure LabelRef where
  what : RefWhat
  tag : Nat
  check : Nat
  deriving DecidableEq, Repr

/-- R83: the kinds of an update. -/
inductive UpdateKind where
  | full | partialUpdate
  deriving DecidableEq, Repr

/-- R53: the three marks of a label. -/
structure Marks where
  redraw : Bool
  force : Bool
  fullRequired : Bool
  deriving DecidableEq, Repr

/-- R53, R63: an in-flight reference with its kind and the marks its selection cleared. -/
structure InFlight where
  ref : LabelRef
  kind : UpdateKind
  carried : Marks
  deriving DecidableEq, Repr

/-- R55: the update states. -/
inductive UpdateState where
  | unbound | current | stale | inFlight | uncertain | failed
  deriving DecidableEq, Repr

/-- R58: the priority classes, URGENT first. -/
inductive PriorityClass where
  | urgent | increase | decrease | cosmetic
  deriving DecidableEq, Repr

/-- R59: a label's place in its wake-slot queue: its class and its joining order. -/
structure QueuePlace where
  cls : PriorityClass
  order : Nat
  deriving DecidableEq, Repr

/-- R53: a label record; its id is its key and its wake group is the id modulo 64. -/
structure Label where
  cls : DisplayClass
  item : Option Nat
  template : Option Nat
  binding : BindingKind
  next : Option NextBinding
  target : Option Target
  confirmed : Option LabelRef
  inFlight : Option InFlight
  displayKnown : Bool
  state : UpdateState
  marks : Marks
  oversize : Bool
  queued : Option QueuePlace
  retry : Nat
  present : Bool
  heard : Option Nat
  candidate : Option Nat
  lostCount : Nat
  battery : Option Nat
  lastTag : Nat
  deriving DecidableEq, Repr

/-- R44, R46: an item handed to the label directory, as changed by PRICE or RELEASE, or by DESCRIPTION with the
slots whose description was replaced. -/
structure Handoff where
  code : Nat
  redrawn : List Slot
  deriving DecidableEq, Repr

/-- R72: a retarget sweep: its list and cursor. -/
structure Sweep where
  items : List Nat
  cursor : Nat
  deriving DecidableEq, Repr

/-- What the label directory holds. -/
structure LabelBlock where
  table : Table Label
  nextJoin : Nat
  handoffs : List Handoff
  templateHandoffs : List Nat
  sweep : Option Sweep
  deriving DecidableEq, Repr

/-! ## Image composer (file 05) -/

/-- R76: a field of a defined template. -/
structure TemplateField where
  source : FieldSource
  xStart : Nat
  xEnd : Nat
  yStart : Nat
  yEnd : Nat
  orientation : Orientation
  font : Fin 4
  alignment : Alignment
  plane : Plane
  deriving DecidableEq, Repr

/-- R76: a defined template. -/
structure Template where
  cls : DisplayClass
  planes : Nat
  fields : List TemplateField
  deriving DecidableEq, Repr

/-- R78: a glyph: a width and 48 rows of pixels, `true` is ink. -/
structure Glyph where
  width : Nat
  pattern : List (List Bool)
  deriving DecidableEq, Repr

/-- R88: a coded update held in the composition buffer. -/
structure BufferedUpdate where
  label : Nat
  bytes : List Byte
  deriving DecidableEq, Repr

/-- What the image composer holds (R75). -/
structure ComposerBlock where
  templates : Vector (Option Template) 32
  fonts : Vector Nat 4
  glyphs : Vector Glyph 384
  buffer : List BufferedUpdate
  style : List Nat
  deriving DecidableEq, Repr

/-! ## Radio scheduler (file 06) -/

/-- R92: the radio settings record. -/
structure RadioSettings where
  channel : Nat
  tradingBudget : Nat
  closedBudget : Nat
  retryLimit : Nat
  deriving DecidableEq, Repr

/-- R96: the kinds of a plan entry. -/
inductive EntryKind where
  | full | partialUpdate | query
  deriving DecidableEq, Repr

/-- R96, R99: an outcome of a transaction. -/
inductive RadioOutcome where
  | ack (tag : Nat)
  | nakBase
  | nakCheck
  | report (tag : Nat)
  | noReply
  deriving DecidableEq, Repr

/-- R96: an entry of the slot plan; no outcome is AWAITED. -/
structure PlanEntry where
  label : Nat
  kind : EntryKind
  newTag : Nat
  baseTag : Nat
  fragments : Nat
  outcome : Option RadioOutcome
  deriving DecidableEq, Repr

/-- What the radio scheduler holds. -/
structure RadioBlock where
  settings : RadioSettings
  channel : Nat
  slot : Nat
  cycle : Nat
  fresh : Bool
  budget : Nat
  plan : List PlanEntry
  cursor : Nat
  taken : Option RadioReply
  deriving DecidableEq, Repr

/-! ## Till service (file 07) -/

/-- R109: the states of a till record. -/
inductive TillState where
  | unregistered | active | silent
  deriving DecidableEq, Repr

/-- R109: a till record. -/
structure TillRecord where
  state : TillState
  hw : Option HwAddr
  port : Option Port
  lastSequence : Option Nat
  queries : Nat
  timer : Option Nat
  deriving DecidableEq, Repr

/-- R119: the flags of a journal entry. -/
structure EntryFlags where
  gap : Bool
  priceDiffers : Bool
  unverified : Bool
  deriving DecidableEq, Repr

/-- R119: a journal entry; its position is SENT when it stands among the first `sent` of the journal. -/
structure JournalEntry where
  number : Nat
  till : Nat
  sequence : Nat
  time : Nat
  kind : SaleKind
  code : Nat
  quantity : Int
  price : Nat
  version : Nat
  flags : EntryFlags
  deriving DecidableEq, Repr

/-- What the till service holds. -/
structure TillBlock where
  records : Vector TillRecord 96
  journal : List JournalEntry
  sent : Nat
  nextNumber : Nat
  ackTimer : Option Nat
  fullFlag : Bool
  highFlag : Bool
  deriving DecidableEq, Repr

/-! ## Forwarder (file 08) -/

/-- R128: the settings of a port record. -/
structure PortSettings where
  role : PortRole
  staffTag : Nat
  guestTag : Nat
  deriving DecidableEq, Repr

/-- R128: a port record with its link state. -/
structure PortRecord where
  settings : PortSettings
  up : Bool
  deriving DecidableEq, Repr

/-- R131: a gateway record. -/
structure Gateway where
  address : NetAddr
  prefixLength : Nat
  deriving DecidableEq, Repr

/-- R132: an address entry; its segment and hardware address are its key, its age runs from `heardAt`. -/
structure AddressEntry where
  port : Port
  net : Option NetAddr
  heardAt : Nat
  deriving DecidableEq, Repr

/-- What the forwarder holds; `policy` is `true` for ALLOW. -/
structure ForwarderBlock where
  ports : Vector PortRecord 8
  gateways : Vector Gateway 4
  aging : Nat
  hwAddress : HwAddr
  policy : Vector Bool 25
  addresses : Table AddressEntry
  full : Bool
  deriving DecidableEq, Repr

/-! ## Guest service (file 09) -/

/-- R144: the guest profile. -/
structure GuestProfile where
  quotaMiB : Nat
  timeLimit : Nat
  idleLimit : Nat
  cooldown : Nat
  rateCap : Nat
  maximum : Nat
  deriving DecidableEq, Repr

/-- R145: the states of a session. -/
inductive SessionState where
  | active | exhausted | cooldown
  deriving DecidableEq, Repr

/-- R145: a session record; its hardware address is its key. Times are milliseconds of the time base, tokens are
eighths of a byte (log 5). -/
structure Session where
  state : SessionState
  start : Nat
  used : Nat
  lastTraffic : Nat
  cooldownStart : Option Nat
  tokens : Nat
  deriving DecidableEq, Repr

/-- What the guest service holds. -/
structure GuestBlock where
  profile : GuestProfile
  sessions : Table Session
  full : Bool
  level : Nat
  tokens : Nat
  deriving DecidableEq, Repr

/-! ## What the management interface reads and answers (file 12) -/

/-- R96, R106: the radio status record. -/
structure RadioStatus where
  slot : Nat
  cycle : Nat
  budget : Nat
  used : Nat
  selected : Nat
  queries : Nat
  plan : List PlanEntry
  deriving DecidableEq, Repr

/-- R157: the guest status record; tokens in bytes. -/
structure GuestStatus where
  level : Nat
  ceiling : Nat
  tokens : Nat
  active : Nat
  exhausted : Nat
  cooldown : Nat
  full : Bool
  deriving DecidableEq, Repr

/-- R145: a session as a READ returns it: times in seconds, tokens in bytes. -/
structure SessionView where
  hw : Nat
  state : SessionState
  age : Nat
  used : Nat
  idle : Nat
  cooldownTime : Option Nat
  tokens : Nat
  deriving DecidableEq, Repr

/-- R187: a record a READ returns, by table. -/
inductive ReadRecord where
  | empty
  | port (r : PortRecord)
  | gateway (g : Gateway)
  | forwarder (aging : Nat) (hw : HwAddr)
  | collector (a : Option NetAddr)
  | policyCell (allow : Bool)
  | scheduleEntry (e : ScheduleEntry)
  | modeSettings (m : ModeSettings)
  | priceSettings (p : PriceSettings)
  | template (t : Option Template)
  | font (height : Nat)
  | glyph (g : Glyph)
  | radioSettings (r : RadioSettings)
  | radioStatus (r : RadioStatus)
  | guestProfile (g : GuestProfile)
  | guestStatus (g : GuestStatus)
  | till (t : TillRecord)
  | item (code : Nat) (i : Item) (pending : Bool)
  | label (id : Nat) (wakeGroup : Nat) (l : Label)
  | address (segment : Segment) (hw : Nat) (port : Port) (net : Option NetAddr) (age : Nat)
  | session (s : SessionView)
  | notice (e : NoticeEntry)
  | counter (n : Nat)
  | qualClass (c : Option QualClass)
  deriving DecidableEq, Repr

/-- R173: the exchange states. -/
inductive ExchangeState where
  | idle | qualifying | ready | receiving
  deriving DecidableEq, Repr

/-- R187: what the answer to STATUS carries. -/
structure StatusReport where
  identification : Text
  revision : Nat
  mode : Mode
  lineUp : Bool
  exchange : ExchangeState
  window : WindowState
  clock : Option Nat
  items : Nat
  labels : Nat
  tills : Nat
  sessions : Nat
  journal : Nat
  deriving DecidableEq, Repr

/-- The bodies of the management messages the 4860 sends: what an ANSWER carries, a REFUSAL, or a NOTICE. -/
inductive ReplyBody where
  | mode (m : Mode)
  | windowState (w : WindowState)
  | clock (value : Nat)
  | released (valid held : Nat)
  | done
  | loopback (l : Loopback)
  | cursor (position : Nat)
  | written (count cursor : Nat)
  | records (rs : List ReadRecord) (cursor : Nat)
  | status (r : StatusReport)
  | refusal (code : Code) (index : Option Nat)
  | notice (e : NoticeEntry)
  deriving DecidableEq, Repr

/-- A management message the 4860 sends. A NOTICE answers no message and carries tag 0. -/
structure MgmtReply where
  tag : Nat
  body : ReplyBody
  deriving DecidableEq, Repr

/-- R184, R185: a source's window. -/
structure TableWindow where
  table : TableName
  first : Nat
  last : Nat
  direction : Direction
  cursor : Nat
  deriving DecidableEq, Repr

/-! ## Exchange engine (file 11) -/

/-- R180: the result of a committed batch. -/
structure BatchResult where
  n : Nat
  applied : Nat
  refusals : List (Nat × Code)
  deriving DecidableEq, Repr

/-- R174: the replies of the exchange engine. -/
inductive ExchangeReply where
  | opened (last journal : Nat) (result : QualClass) (blockSize : Nat) (mode : Mode)
  | batchResult (r : BatchResult)
  | batchRejected (n : Nat) (byCount : Bool)
  | refused (kind : Byte) (code : Code)
  deriving DecidableEq, Repr

/-- R173, R179: a staging area in use. -/
structure Staging where
  records : List StagedRecord
  n : Nat
  k : Nat
  received : Nat
  sum : Nat
  deriving DecidableEq, Repr

/-- What the exchange engine holds (R173). -/
structure ExchangeBlock where
  state : ExchangeState
  staging : Option Staging
  last : Nat
  stored : Option BatchResult
  hold : Option Nat
  held : List ExchangeReply
  deriving DecidableEq, Repr

/-! ## Uplink line (file 10) -/

/-- R163: the six classes of the uplink queue, in draining order (R165). -/
inductive UplinkClass where
  | tillAuth | management | exchange | office | journal | guest
  deriving DecidableEq, Repr

/-- What a frame of the uplink queue carries. A pattern frame stands for the pattern bits of its number under its
run's error insertion (R169). -/
inductive UplinkContent where
  | data (src dst : NetAddr) (content : List Byte)
  | management (m : MgmtReply)
  | exchange (r : ExchangeReply)
  | testLoop
  | testPattern (run number insertion : Nat)
  | journalBlock (first : Nat) (entries : List JournalEntry)
  deriving DecidableEq, Repr

/-- A frame the transmitter sends: an ALIVE, or one of the queue. -/
inductive SentFrame where
  | alive
  | queued (c : UplinkContent)
  deriving DecidableEq, Repr

/-- R164: the two senders that hold refused frames of the EXCHANGE class. -/
inductive ExchangeSender where
  | engine | pattern
  deriving DecidableEq, Repr

/-- R170: the examiner of echoed pattern bits: in search with the most recent received bits (oldest first, at most
15) and the run of correct predictions, or in sync with the reference register and the last 64 comparisons. -/
inductive Examiner where
  | search (recent : List Bool) (run : Nat)
  | sync (reference : List Bool) (window : List Bool)
  deriving DecidableEq, Repr

/-- R169, R170: a qualification in progress. `nextOffer` 0 is the TEST_LOOP request, `i + 1` pattern frame `i`. -/
structure Qualification where
  run : Nat
  length : Nat
  insertion : Nat
  nextOffer : Nat
  expected : Nat
  examiner : Examiner
  bits : Nat
  errors : Nat
  timer : Option Nat
  deriving DecidableEq, Repr

/-- R171: a held result. -/
structure QualResult where
  result : QualClass
  bits : Nat
  errors : Nat
  deriving DecidableEq, Repr

/-- What the uplink line holds. -/
structure LineBlock where
  up : Bool
  loss : Option Nat
  kept : List Nat
  classes : Vector (List UplinkContent) 6
  wait : List UplinkContent
  refused : List ExchangeSender
  loopback : Loopback
  loopTimer : Option Nat
  aliveTimer : Nat
  aliveDue : Bool
  returning : List SentFrame
  qual : Option Qualification
  result : Option QualResult
  runs : Nat
  deriving DecidableEq, Repr

/-! ## Management interface (file 12) -/

/-- R190: one image of the stored settings. -/
structure StoredSettings where
  ports : Vector PortSettings 8
  gateways : Vector Gateway 4
  aging : Nat
  collector : Option NetAddr
  policy : Vector Bool 25
  schedule : Vector ScheduleEntry 16
  modeSettings : ModeSettings
  decimals : Nat
  mark : Mark
  glyph : Option Nat
  templates : Vector (Option Template) 32
  fonts : Vector Nat 4
  glyphs : Vector Glyph 384
  radio : RadioSettings
  guest : GuestProfile
  deriving DecidableEq, Repr

/-- R190: a save in progress: the copy and the remaining milliseconds. -/
structure SaveInProgress where
  copy : StoredSettings
  remaining : Nat
  deriving DecidableEq, Repr

/-- R186: a WRITE whose records are taken one by one: its header, its record count and the records accepted so far. -/
structure WriteProgress where
  header : MgmtHeader
  count : Nat
  written : Nat
  deriving DecidableEq, Repr

/-- What the management interface holds; the flash image is INVALID when absent, and `flashSound` says that it has failed
no check since it was written; `checks` counts the checks made (the model's own, log 50). `writes` are the WRITEs taken and not
yet answered, the first taken first. -/
structure MgmtBlock where
  storeWindow : Option TableWindow
  officeWindow : Option TableWindow
  writes : List WriteProgress
  notices : List NoticeEntry
  collector : Option NetAddr
  flash : Option StoredSettings
  flashSound : Bool
  checks : Nat
  save : Option SaveInProgress
  deriving DecidableEq, Repr

/-! ## Outputs -/

/-- R114, R116, R110: the answers of the till service. -/
inductive TillResult where
  | accepted
  | acceptedSequence (s : Nat)
  | inUse
  | notFound (code : Nat)
  | notActive (code : Nat)
  | held (code : Nat)
  | priced (code price version : Nat) (lowestApplied promotion labelUncertain : Bool) (description : Text)
  | staleSequence
  | journalFull
  | notRegistered
  | fieldRange
  | unknownKind
  deriving DecidableEq, Repr

/-- R192: the answer frame of the till service: the request's kind plus 128, the till number and the result. -/
structure TillAnswer where
  kind : Nat
  till : Nat
  result : TillResult
  deriving DecidableEq, Repr

/-- What a LAN frame sent by the 4860 carries. -/
inductive LanOut where
  | switched (p : LanPayload)
  | network (src dst : NetAddr) (content : List Byte)
  | till (src dst : NetAddr) (a : TillAnswer)
  | mgmt (src dst : NetAddr) (m : MgmtReply)
  deriving DecidableEq, Repr

/-- What leaves the part, in the order it leaves. -/
inductive Output where
  | lan (port : Port) (dst src : HwAddr) (tag : Option Nat) (payload : LanOut)
  | line (f : SentFrame)
  | lineEcho (f : LineInput)
  | beacon (channel slot cycle : Nat)
  | announce (channel : Nat) (label : Nat) (kind : EntryKind) (newTag baseTag fragments : Nat)
  | fragment (channel : Nat) (number : Nat) (bytes : List Byte)
  | recordResult (v : Verdict)
  deriving DecidableEq, Repr

/-! ## The part -/

/-- The time base and the milliseconds left to the periodic events (logs 5 and 6). -/
structure TimeBlock where
  now : Nat
  toSecond : Nat
  toGovernor : Nat
  toBeacon : Nat
  deriving DecidableEq, Repr

/-- The input pins. -/
structure Pins where
  straps : Fin 16
  retain : Bool
  deriving DecidableEq, Repr

/-- Everything the 4860 holds, but the queue of waiting commands. -/
structure Block where
  mode : ModeBlock
  price : PriceSettings
  items : ItemBlock
  labels : LabelBlock
  composer : ComposerBlock
  radio : RadioBlock
  till : TillBlock
  fwd : ForwarderBlock
  guest : GuestBlock
  line : LineBlock
  exch : ExchangeBlock
  mgmt : MgmtBlock
  counts : Vector Nat 61
  time : TimeBlock
  pins : Pins
  out : List Output
  deriving DecidableEq, Repr

end Sys2Proof.Machine
end

