-- ==== Sys2Proof/Machine/Defaults.lean ====
section
/-! DEFINITION. The default of every stored setting, and the part as a cold restart makes it from given settings. -/

namespace Sys2Proof.Machine

/-- A network address written as four numbers, the first the most significant (file 08). -/
def netAddr (a b c d : Nat) : NetAddr := BitVec.ofNat 32 (((a * 256 + b) * 256 + c) * 256 + d)

/-- R8. -/
def defaultModeSettings : ModeSettings where
  drainPeriod := 900
  epochWeekday := .monday

/-- R11. -/
def defaultScheduleEntry : ScheduleEntry where
  weekdays := []
  time := 0
  action := .openStore
  enabled := false

/-- R16: the mask flags' defaults, set at every cold restart. -/
def defaultMasks : PriceMasks where
  promoAboveBase := true
  floor := false
  zeroPrice := false
  unitOverflow := true

/-- R75: the default glyph: width 1, no ink. -/
def defaultGlyph : Glyph where
  width := 1
  pattern := List.replicate 48 [false]

/-- R92. -/
def defaultRadioSettings : RadioSettings where
  channel := 0
  tradingBudget := 24
  closedBudget := 96
  retryLimit := 4

/-- R128: the default of a port: OFFICE for L0, UNUSED for the others. -/
def defaultPort (role : PortRole) : PortSettings where
  role := role
  staffTag := 10
  guestTag := 20

/-- R128. -/
def defaultPorts : Vector PortSettings 8 :=
  #v[defaultPort .office, defaultPort .unused, defaultPort .unused, defaultPort .unused,
     defaultPort .unused, defaultPort .unused, defaultPort .unused, defaultPort .unused]

/-- R131: the gateway records' defaults, in the order TILL, OFFICE, STAFF_WIRELESS, GUEST. -/
def defaultGateways : Vector Gateway 4 :=
  #v[Gateway.mk (netAddr 10 0 1 1) 24, Gateway.mk (netAddr 10 0 2 1) 24, Gateway.mk (netAddr 10 0 3 1) 24,
     Gateway.mk (netAddr 10 64 0 1) 21]

/-- R140: the policy matrix's defaults, row by row; `true` is ALLOW. -/
def defaultPolicy : Vector Bool 25 :=
  #v[true, true, false, false, true,
     true, true, true, false, true,
     false, true, true, false, true,
     false, false, false, false, true,
     true, true, true, true, false]

/-- R144. -/
def defaultGuestProfile : GuestProfile where
  quotaMiB := 200
  timeLimit := 3600
  idleLimit := 600
  cooldown := 1800
  rateCap := 2048
  maximum := 4096

/-- R190: every stored setting at its default. -/
def defaultSettings : StoredSettings where
  ports := defaultPorts
  gateways := defaultGateways
  aging := 300
  collector := none
  policy := defaultPolicy
  schedule := Vector.replicate 16 defaultScheduleEntry
  modeSettings := defaultModeSettings
  decimals := 2
  mark := .dot
  glyph := none
  templates := Vector.replicate 32 none
  fonts := Vector.replicate 4 8
  glyphs := Vector.replicate 384 defaultGlyph
  radio := defaultRadioSettings
  guest := defaultGuestProfile

/-- R109: a till record after a cold restart. -/
def freshTill : TillRecord where
  state := .unregistered
  hw := none
  port := none
  lastSequence := none
  queries := 0
  timer := none

/-- R1, R9, R14: the mode controller after a cold restart. -/
def coldMode (s : StoredSettings) : ModeBlock where
  mode := .closed
  drain := none
  settings := s.modeSettings
  clock := none
  schedule := s.schedule
  window := .shut

/-- R16, R32: the price settings after a cold restart: masks at their defaults, the rest as stored. -/
def coldPrice (s : StoredSettings) : PriceSettings where
  masks := defaultMasks
  decimals := s.decimals
  mark := s.mark
  glyph := s.glyph

/-- R52: the item table after a cold restart. -/
def coldItems : ItemBlock where
  table := []
  pending := []

/-- R74: the label directory after a cold restart. -/
def coldLabels : LabelBlock where
  table := []
  nextJoin := 0
  handoffs := []
  templateHandoffs := []
  sweep := none

/-- R75: the image composer after a cold restart. -/
def coldComposer (s : StoredSettings) : ComposerBlock where
  templates := s.templates
  fonts := s.fonts
  glyphs := s.glyphs
  buffer := []
  style := []

/-- R108: the radio scheduler after a cold restart. -/
def coldRadio (s : StoredSettings) : RadioBlock where
  settings := s.radio
  channel := s.radio.channel
  slot := 0
  cycle := 0
  fresh := true
  budget := 0
  plan := []
  cursor := 0
  taken := none

/-- R127: the till service after a cold restart. -/
def coldTill : TillBlock where
  records := Vector.replicate 96 freshTill
  journal := []
  sent := 0
  nextNumber := 1
  ackTimer := none
  fullFlag := false
  highFlag := false

/-- R143: the forwarder after a cold restart; the hardware address is the part's own (R131). -/
def coldForwarder (s : StoredSettings) (hw : HwAddr) : ForwarderBlock where
  ports := s.ports.map (fun p => PortRecord.mk p false)
  gateways := s.gateways
  aging := s.aging
  hwAddress := hw
  policy := s.policy
  addresses := []
  full := false

/-- R158: the guest service after a cold restart. -/
def coldGuest (s : StoredSettings) : GuestBlock where
  profile := s.guest
  sessions := []
  full := false
  level := 4
  tokens := Config.aggregateDepth

/-- R172: the uplink line after either restart; an ALIVE that was due is dropped as its timer restarts (log 28). `runs` numbers
the qualifications and is the model's own. -/
def restartedLine (runs : Nat) : LineBlock where
  up := false
  loss := none
  kept := []
  classes := Vector.replicate 6 []
  wait := []
  refused := []
  loopback := .off
  loopTimer := none
  aliveTimer := 1000
  aliveDue := false
  returning := []
  qual := none
  result := none
  runs := runs

/-- R183: the exchange engine after a cold restart. -/
def coldExchange : ExchangeBlock where
  state := .idle
  staging := none
  last := 0
  stored := none
  hold := none
  held := []

/-- The periodic events' first occurrence after a restart (log 6). -/
def restartedTime (now : Nat) : TimeBlock where
  now := now
  toSecond := 1000
  toGovernor := 1000
  toBeacon := 250

/-- R190: the SETTINGS_DEFAULTED notice of a cold restart that finds no good image; the clock is UNSET. -/
def settingsDefaultedEntry : NoticeEntry := .keyed .settingsDefaulted .flash 1 none none none

/-- R190, R191: the management interface after a cold restart. The collector is a stored setting. -/
def coldMgmt (s : StoredSettings) (flash : Option StoredSettings) (flashSound : Bool) (checks : Nat) (loaded : Bool) :
    MgmtBlock where
  storeWindow := none
  officeWindow := none
  writes := []
  notices := if loaded then [] else [settingsDefaultedEntry]
  collector := s.collector
  flash := flash
  flashSound := flashSound
  checks := checks
  save := none

/-- The part after a cold restart (R191): from the settings loaded or defaulted, the flash as it stands, and what a
restart does not touch (the part's hardware address, the pins, the time base, the outputs already sent). -/
def coldBlock (s : StoredSettings) (loaded : Bool) (flash : Option StoredSettings) (flashSound : Bool)
    (checks : Nat) (hw : HwAddr) (runs now : Nat) (pins : Pins) (out : List Output) : Block where
  mode := coldMode s
  price := coldPrice s
  items := coldItems
  labels := coldLabels
  composer := coldComposer s
  radio := coldRadio s
  till := coldTill
  fwd := coldForwarder s hw
  guest := coldGuest s
  line := restartedLine runs
  exch := coldExchange
  mgmt := coldMgmt s flash flashSound checks loaded
  counts := Vector.replicate 61 0
  time := restartedTime now
  pins := pins
  out := out

end Sys2Proof.Machine
end

