-- ==== Sys2Proof/Machine/State.lean ====
section
/-! DEFINITION. The machine's state: everything the 4860 holds (`Block`) and the queue of commands that wait, first
in first out; the reasons a step could stop; and the state right after reset. -/

namespace Sys2Proof.Machine

/-- The state: the part, and the waiting commands. Plain data. -/
structure State where
  block : Block
  pending : List Instr
  deriving DecidableEq, Repr

/-- No rule of the manual stops the 4860: every refusal is an answer and every error a counter or a notice. So there
is no fault, and nobody raises one (safe). -/
inductive Fault where
  deriving DecidableEq, Repr

/-- The one reason for a refusal is a command without a meaning; no arm of `exec` gives it (safe). -/
inductive Refusal where
  /-- Raised by an arm of `exec` whose command has no meaning yet, with the row's mnemonic. Safe. -/
  | notModelled (mnemonic : String)
  deriving DecidableEq, Repr

/-- The part's own hardware address at reset (log 4, DESIGN CHOICE): an individual address. -/
def resetHwAddress : HwAddr := 0x020000004860#48

/-- The pins at reset (log 4, DESIGN CHOICE): straps 0, retain line low. -/
def resetPins : Pins where
  straps := 0
  retain := false

/-- The machine right after reset: a cold restart at power-up with an INVALID flash image (R190, log 4), nothing
sent and no command waiting. -/
def State.reset : State where
  block := coldBlock defaultSettings false none true 0 resetHwAddress 0 0 resetPins []
  pending := []

end Sys2Proof.Machine
end

