-- ==== Sys2Proof/Machine/Ops.lean ====
section
/-! DEFINITION. The shared operations: counters, outputs, the notice queue (R189), segments and answer paths
(R131, R137), and the classes of the uplink queue (R163, R164). Each changes one part of the block. -/

namespace Sys2Proof.Machine

/-! ## Counters -/

/-- The counters of the blocks, by the names of R185. -/
inductive Counter where
  | lateOutcome
  | oversizeCount | truncatedCount
  | beacons | updatesSent | queriesSent | fragmentsSent | noReplyCount | replyError | strayReply | duplicateReply
  | unknownLabel
  | tillFramesRefused | ackBeyond | journalRewinds
  | tagMismatch | untagged | unusedPort | badSource | policyDenied | noNeighbour | noRoute | serviceRefused
  | gatewayDiscard | learnRefused
  | guestAdmitted | guestNotAdmitted | guestPoliced | guestBlocked | guestLineDown
  | framesReceived | frameError | crcError | unexpectedKind | receivedWhileDown | framesSent | aliveSent | lineDowns
  | loopedBack | remoteEchoed
  | dropped (c : UplinkClass)
  | discarded (c : UplinkClass)
  | batchesCommitted | batchesRejected | exchangeRefusals | exchangeAborts | exchangeRepliesLost
  | mgmtIgnored
  deriving DecidableEq, Repr

/-- R163: the order of the six classes. -/
def classIndex : UplinkClass → Fin 6
  | .tillAuth => 0
  | .management => 1
  | .exchange => 2
  | .office => 3
  | .journal => 4
  | .guest => 5

/-- R185: a counter's position in the COUNTERS table. -/
def counterIndex : Counter → Fin 61
  | .lateOutcome => 0
  | .oversizeCount => 1
  | .truncatedCount => 2
  | .beacons => 3
  | .updatesSent => 4
  | .queriesSent => 5
  | .fragmentsSent => 6
  | .noReplyCount => 7
  | .replyError => 8
  | .strayReply => 9
  | .duplicateReply => 10
  | .unknownLabel => 11
  | .tillFramesRefused => 12
  | .ackBeyond => 13
  | .journalRewinds => 14
  | .tagMismatch => 15
  | .untagged => 16
  | .unusedPort => 17
  | .badSource => 18
  | .policyDenied => 19
  | .noNeighbour => 20
  | .noRoute => 21
  | .serviceRefused => 22
  | .gatewayDiscard => 23
  | .learnRefused => 24
  | .guestAdmitted => 25
  | .guestNotAdmitted => 26
  | .guestPoliced => 27
  | .guestBlocked => 28
  | .guestLineDown => 29
  | .framesReceived => 30
  | .frameError => 31
  | .crcError => 32
  | .unexpectedKind => 33
  | .receivedWhileDown => 34
  | .framesSent => 35
  | .aliveSent => 36
  | .lineDowns => 37
  | .loopedBack => 38
  | .remoteEchoed => 39
  | .dropped .tillAuth => 40
  | .dropped .management => 41
  | .dropped .exchange => 42
  | .dropped .office => 43
  | .dropped .journal => 44
  | .dropped .guest => 45
  | .discarded .tillAuth => 46
  | .discarded .management => 47
  | .discarded .exchange => 48
  | .discarded .office => 49
  | .discarded .journal => 50
  | .discarded .guest => 51
  | .batchesCommitted => 55
  | .batchesRejected => 56
  | .exchangeRefusals => 57
  | .exchangeAborts => 58
  | .exchangeRepliesLost => 59
  | .mgmtIgnored => 60

/-- The value of a counter. -/
def counterValue (b : Block) (c : Counter) : Nat := b.counts.get (counterIndex c)

/-- A counter after a rise by `n`: it stops at its maximum (R75, R106, R125, R142, R157, R172, R183). LATE_OUTCOME (R66)
and MGMT_IGNORED (R184), whose rules give no maximum, stop where the others do (log 60). -/
def raisedBy (n v : Nat) : Nat := min (v + n) Config.max32

/-- The counter `c` rises by `n`. -/
def bumpBy (c : Counter) (n : Nat) (b : Block) : Block :=
  { b with counts := b.counts.set (counterIndex c) (raisedBy n (b.counts.get (counterIndex c))) }

/-- The counter `c` rises by one. -/
def bump (c : Counter) (b : Block) : Block := bumpBy c 1 b

/-! ## Outputs -/

/-- The part sends `o`. -/
def emit (o : Output) (b : Block) : Block := { b with out := b.out ++ [o] }

/-! ## The notice queue (R189) -/

/-- R189: the priority of a notice kind. -/
def noticePriority : NoticeKind → Nat
  | .uplinkDown => 1
  | .itemHeld => 1
  | .journalFull => 1
  | .settingsDefaulted => 1
  | .labelFailed => 2
  | .exchangeAborted => 2
  | .priceDiffers => 2
  | .journalHigh => 2
  | .tillSilent => 2
  | .labelLost => 3
  | .labelOversize => 3
  | .qualifyResult => 3
  | .addressTableFull => 3
  | .guestFull => 3
  | .modeChanged => 4
  | .windowChanged => 4
  | .labelFound => 4
  | .labelTruncated => 4
  | .bindDropped => 4
  | .uplinkUp => 4
  | .loopbackChanged => 4
  | .batchCommitted => 4
  | .settingsSaved => 4

/-- R189: the priority of an entry; OVERFLOW has priority 1. -/
def entryPriority : NoticeEntry → Nat
  | .keyed kind _ _ _ _ _ => noticePriority kind
  | .overflow _ => 1

/-- Whether an entry holds the key of a kind and subject. -/
def entryHasKey (kind : NoticeKind) (subject : NoticeSubject) : NoticeEntry → Bool
  | .keyed k s _ _ _ _ => decide (k = kind) && decide (s = subject)
  | .overflow _ => false

/-- Whether an entry is a keyed entry. -/
def entryIsKeyed : NoticeEntry → Bool
  | .keyed _ _ _ _ _ _ => true
  | .overflow _ => false

/-- R189: a repeat of the entry's key: the count rises, the last time is set, a QUALIFY_RESULT takes the new result. -/
def entryRepeat (clock : Option Nat) (result : Option QualClass) : NoticeEntry → NoticeEntry
  | .keyed k s n first _ old => .keyed k s (n + 1) first clock (if k = .qualifyResult then result else old)
  | .overflow n => .overflow n

/-- R189: a new entry stands behind the last entry of its priority or of a lower number. -/
def noticeInsert (e : NoticeEntry) : List NoticeEntry → List NoticeEntry
  | [] => [e]
  | x :: rest => if entryPriority e < entryPriority x then e :: x :: rest else x :: noticeInsert e rest

/-- R189: a notice folded into the OVERFLOW entry, which is created if absent. -/
def noticeFold (q : List NoticeEntry) : List NoticeEntry :=
  if q.any (fun e => !entryIsKeyed e) then
    q.map (fun e => match e with
      | .overflow n => .overflow (n + 1)
      | .keyed k s n f l r => .keyed k s n f l r)
  else noticeInsert (.overflow 1) q

/-- R189: the queue after a notice of a kind and subject. -/
def noticeQueueAfter (kind : NoticeKind) (subject : NoticeSubject) (result : Option QualClass) (clock : Option Nat)
    (q : List NoticeEntry) : List NoticeEntry :=
  if q.any (entryHasKey kind subject) then
    q.map (fun e => if entryHasKey kind subject e then entryRepeat clock result e else e)
  else if (q.filter entryIsKeyed).length < Config.maxNotices then
    noticeInsert (.keyed kind subject 1 clock clock result) q
  else noticeFold q

/-- R189: a block queues a notice that carries a qualification result. -/
def noticeWith (kind : NoticeKind) (subject : NoticeSubject) (result : Option QualClass) (b : Block) : Block :=
  { b with mgmt := { b.mgmt with
      notices := noticeQueueAfter kind subject result b.mode.clock b.mgmt.notices } }

/-- R189: a block queues a notice by kind and subject. -/
def notice (kind : NoticeKind) (subject : NoticeSubject) (b : Block) : Block := noticeWith kind subject none b

/-! ## Segments, ranges and answer paths (R128, R131, R137) -/

/-- R131, R132: the order of the segments. -/
def segmentIndex : Segment → Fin 4
  | .till => 0
  | .office => 1
  | .staff => 2
  | .guest => 3

/-- The four segments in order. -/
def segments : List Segment := [.till, .office, .staff, .guest]

/-- R131: the gateway record of a segment. -/
def gatewayOf (b : Block) (s : Segment) : Gateway := b.fwd.gateways.get (segmentIndex s)

/-- R131: an address lies in a gateway record's range when it agrees with the gateway address in its first
prefix-length bits. -/
def inRange (g : Gateway) (a : NetAddr) : Bool :=
  decide (a.toNat / 2 ^ (32 - g.prefixLength) = g.address.toNat / 2 ^ (32 - g.prefixLength))

/-- The segment in whose range an address lies, if any. -/
def segmentOf (b : Block) (a : NetAddr) : Option Segment := segments.find? (fun s => inRange (gatewayOf b s) a)

/-- Whether an address is the gateway address of some segment. -/
def isGateway (b : Block) (a : NetAddr) : Bool := segments.any (fun s => decide ((gatewayOf b s).address = a))

/-- R128: the segments a role makes a port a member of. -/
def roleMember : PortRole → Segment → Bool
  | .till, .till => true
  | .office, .office => true
  | .accessPoint, .staff => true
  | .accessPoint, .guest => true
  | _, _ => false

/-- R129, R136: a frame can leave through a port into a segment: the port is a member and its link is UP. -/
def portCarries (b : Block) (p : Port) (s : Segment) : Bool :=
  roleMember (b.fwd.ports.get p).settings.role s && (b.fwd.ports.get p).up

/-- R130: the tag a frame carries when it is sent into a segment through a port. -/
def sendTag (b : Block) (p : Port) : Segment → Option Nat
  | .staff => some (b.fwd.ports.get p).settings.staffTag
  | .guest => some (b.fwd.ports.get p).settings.guestTag
  | .till => none
  | .office => none

/-- R129: a frame sent to a port whose link is DOWN is discarded. -/
def sendLan (p : Port) (s : Segment) (dst src : HwAddr) (payload : LanOut) (b : Block) : Block :=
  if (b.fwd.ports.get p).up then emit (.lan p dst src (sendTag b p s) payload) b else b

/-- R137: an answer of the till service: it leaves through the port its request came in on, from the TILL gateway
address, and is discarded when the port is DOWN or no longer a member of TILL. -/
def answerTill (sender : TillSender) (a : TillAnswer) (b : Block) : Block :=
  if portCarries b sender.port .till then
    emit (.lan sender.port sender.hw b.fwd.hwAddress (sendTag b sender.port .till)
      (.till (gatewayOf b .till).address sender.net a)) b
  else b

/-! ## The uplink queue (R163, R164) -/

/-- R119, R121: the bytes of a journal block of `k` entries. -/
def journalBlockBytes (k : Nat) : Nat := 8 + 32 * k

/-- R192: the bytes of an exchange reply: its kind byte and fields. -/
def exchangeReplyBytes : ExchangeReply → Nat
  | .opened _ _ _ _ _ => 13
  | .batchResult r => 9 + 3 * r.refusals.length
  | .batchRejected _ _ => 6
  | .refused _ _ => 3

/-- R163: the bytes a frame occupies in its class: its kind's content. The network part of a DATA frame is its two
addresses and content (log 27); a management message is its 6-byte header and body (R192, log 10). -/
def uplinkBytes : UplinkContent → Nat
  | .data _ _ content => 8 + content.length
  | .management m => 6 + Config.bodyBytes ReplyBody m.body
  | .exchange r => exchangeReplyBytes r
  | .testLoop => (Config.testLoopBytes : Nat)
  | .testPattern _ _ _ => 36
  | .journalBlock _ entries => journalBlockBytes entries.length

/-- R163: the limit of a class in bytes. -/
def classLimit : UplinkClass → Nat
  | .tillAuth => 32768
  | .management => 16384
  | .exchange => 32768
  | .office => 65536
  | .journal => 49152
  | .guest => 65536

/-- The frames of a class, head first. -/
def classFrames (b : Block) (c : UplinkClass) : List UplinkContent := b.line.classes.get (classIndex c)

/-- The bytes of a list of frames. -/
def framesBytes (l : List UplinkContent) : Nat := (l.map uplinkBytes).sum

/-- R163: the bytes held in a class. -/
def classBytes (b : Block) (c : UplinkClass) : Nat := framesBytes (classFrames b c)

/-- The six classes in draining order (R165). -/
def uplinkClasses : List UplinkClass := [.tillAuth, .management, .exchange, .office, .journal, .guest]

/-- R163: the fill of the queue, all six classes together. -/
def uplinkFill (b : Block) : Nat := (uplinkClasses.map (classBytes b)).sum

/-- R163: whether a class has room for a frame. -/
def classFits (b : Block) (c : UplinkClass) (f : UplinkContent) : Bool :=
  decide (classBytes b c + uplinkBytes f ≤ classLimit c)

/-- The classes with the frames of one class replaced. -/
def setClass (c : UplinkClass) (frames : List UplinkContent) (b : Block) : Block :=
  { b with line := { b.line with classes := b.line.classes.set (classIndex c) frames } }

/-- A frame admitted at the tail of its class. -/
def admitFrame (c : UplinkClass) (f : UplinkContent) (b : Block) : Block := setClass c (classFrames b c ++ [f]) b

/-- R162, R163: a frame offered to a dropping class: DISCARDED while the line is DOWN, admitted when it fits, else
DROPPED. -/
def offer (c : UplinkClass) (f : UplinkContent) (b : Block) : Block :=
  if b.line.up then (if classFits b c f then admitFrame c f b else bump (.dropped c) b)
  else bump (.discarded c) b

/-- R164: whether a frame offered to the EXCHANGE class is refused to its sender: the line is UP, the frame cannot
be admitted, and the wait list holds 64 frames. A frame that fits still waits behind waiting frames (log 22). -/
def exchangeRefuses (b : Block) (f : UplinkContent) : Bool :=
  b.line.up && !(b.line.wait.isEmpty && classFits b .exchange f) && decide (Config.maxWaiting ≤ b.line.wait.length)

/-- R162, R164: a frame offered to the EXCHANGE class and not refused: discarded while the line is DOWN, admitted,
or placed at the tail of the wait list. -/
def exchangeTake (f : UplinkContent) (b : Block) : Block :=
  if b.line.up then
    (if b.line.wait.isEmpty && classFits b .exchange f then admitFrame .exchange f b
     else { b with line := { b.line with wait := b.line.wait ++ [f] } })
  else bump (.discarded .exchange) b

/-- R164: a sender joins those that hold refused frames, in the order first refused. -/
def senderRefused (x : ExchangeSender) (b : Block) : Block :=
  if b.line.refused.contains x then b
  else { b with line := { b.line with refused := b.line.refused ++ [x] } }

/-- R164: a sender holds no refused frame any more. -/
def senderServed (x : ExchangeSender) (b : Block) : Block :=
  { b with line := { b.line with refused := b.line.refused.filter (fun y => decide (y ≠ x)) } }

/-- R137, R184: an answer to a management message: to the store server through the port its message came in on, from
the OFFICE gateway address, discarded when the port is DOWN or no longer a member of OFFICE; to head office into the
MANAGEMENT class. -/
def answerMgmt (source : MgmtSource) (tag : Nat) (body : ReplyBody) (b : Block) : Block :=
  match source with
  | .storeServer hw net port =>
    if portCarries b port .office then
      emit (.lan port hw b.fwd.hwAddress (sendTag b port .office)
        (.mgmt (gatewayOf b .office).address net (MgmtReply.mk tag body))) b
    else b
  | .headOffice => offer .management (.management (MgmtReply.mk tag body)) b

/-! ## Meanings -/

/-- The next state of a command whose effect on the part is `f`. -/
def act (f : Block → Block) (s : State) : Host.Outcome State Fault Refusal :=
  .next { s with block := f s.block }

end Sys2Proof.Machine
end

