-- ==== Sys2Proof/Machine/Operands.lean ====
section
/-! DEFINITION. The range checks of operands: what a record write or a change record may carry (R8, R11, R16, R17, R46,
R76, R78, R92, R128, R131, R144). Each answers the checked record, or none for FIELD_RANGE. -/

namespace Sys2Proof.Machine

/-- Every character of a text has a code from 32 to 127. -/
def plainText (t : Text) : Bool := t.all (fun c => decide (32 ≤ c) && decide (c ≤ 127))

/-- Whether `n` lies from `lo` to `hi`. -/
def within (lo hi n : Nat) : Bool := decide (lo ≤ n) && decide (n ≤ hi)

/-- An optional amount is absent or lies from `lo` to `hi`. -/
def optionWithin (lo hi : Nat) : Option Nat → Bool
  | none => true
  | some n => within lo hi n

/-- R17: a promotion in range: `none` for FIELD_RANGE, `some none` for no promotion. -/
def checkPromotion : RawPromotion → Option (Option Promotion)
  | .absent => some none
  | .percent p (some m) => if within 1 9999 p then some (some (.percent p m)) else none
  | .percent _ none => none
  | .amount a => if within 1 Config.maxMoney a then some (some (.amount a)) else none
  | .fixed p => if within 0 Config.maxMoney p then some (some (.fixed p)) else none
  | .unknown => none

/-- R17: the badge text is absent, or 1 to 16 plain characters with a promotion. -/
def checkBadge (badge : Option Text) (promotion : Option Promotion) : Bool :=
  match badge with
  | none => true
  | some t => plainText t && within 1 16 t.length && promotion.isSome

/-- R17: pack quantity and unit code come together, in range: `none` for FIELD_RANGE. -/
def checkPack : Option Nat → Option (Coded UnitCode) → Option (Option UnitCode)
  | none, none => some none
  | some q, some (some u) => if within 1 999999 q then some (some u) else none
  | _, _ => none

/-- R46: a description of 0 to 40 plain characters. -/
def checkDescription (t : Text) : Bool := decide (t.length ≤ 40) && plainText t

/-- R17: the range check of a PRICE record's fields: its inputs and effect. The item code is 13 digits (R33). -/
def checkPrice (r : PriceRecord) : Option (PriceInputs × Effect) :=
  match checkPromotion r.promotion, checkPack r.pack r.unit, r.effect with
  | some promotion, some unit, some effect =>
    if decide (r.code ≤ Config.maxItemCode) && within 0 Config.maxMoney r.base && checkBadge r.badge promotion
        && optionWithin 0 Config.maxMoney r.floor && checkDescription r.description then
      some (PriceInputs.mk r.base promotion r.badge r.floor r.pack unit r.description, effect)
    else none
  | _, _, _ => none

/-- R16: the price settings record in range. -/
def checkPriceSettings (w : PriceSettingsWrite) : Option PriceSettings :=
  match w.promoAboveBase, w.floor, w.zeroPrice, w.unitOverflow, w.mark with
  | some a, some f, some z, some u, some mark =>
    if (decide (w.decimals = 0) || decide (w.decimals = 2) || decide (w.decimals = 3))
        && optionWithin 32 127 w.glyph then
      some (PriceSettings.mk (PriceMasks.mk a f z u) w.decimals mark w.glyph)
    else none
  | _, _, _, _, _ => none

/-- Every element of a list is named: the list of names. -/
def allNamed {α : Type} : List (Coded α) → Option (List α)
  | [] => some []
  | none :: _ => none
  | some x :: rest => (allNamed rest).map (fun l => x :: l)

/-- R11: a schedule entry in range. The names of the weekday set are kept, and read back, as written, repeats and order
included (log 52). -/
def checkSchedule (w : ScheduleWrite) : Option ScheduleEntry :=
  match allNamed w.weekdays, w.action, w.enabled with
  | some days, some action, some enabled =>
    if within 0 86399 w.time then some (ScheduleEntry.mk days w.time action enabled) else none
  | _, _, _ => none

/-- R8: the mode settings record in range. -/
def checkModeSettings (w : ModeSettingsWrite) : Option ModeSettings :=
  match w.epochWeekday with
  | some d => if within 60 3600 w.drainPeriod then some (ModeSettings.mk w.drainPeriod d) else none
  | none => none

/-- R53: the width of a display class. -/
def classWidth : DisplayClass → Nat
  | .small => 128
  | .medium => 256
  | .large => 400

/-- R53: the height of a display class. -/
def classHeight : DisplayClass → Nat
  | .small => 64
  | .medium => 128
  | .large => 240

/-- R76: one field of a template write in range, for a display class and number of planes. -/
def checkField (cls : DisplayClass) (planes : Nat) (f : RawField) : Option TemplateField :=
  match f.source, f.orientation, f.alignment, f.plane with
  | some source, some orientation, some alignment, some plane =>
    if h : f.font < 4 then
      if decide (f.xStart ≤ f.xEnd) && decide (f.yStart ≤ f.yEnd) && decide (f.xEnd < classWidth cls)
          && decide (f.yEnd < classHeight cls) && !(decide (plane = .accent) && decide (planes = 1)) then
        some (TemplateField.mk source f.xStart f.xEnd f.yStart f.yEnd orientation ⟨f.font, h⟩ alignment plane)
      else none
    else none
  | _, _, _, _ => none

/-- R76: every field of a template write in range. -/
def checkFields (cls : DisplayClass) (planes : Nat) : List RawField → Option (List TemplateField)
  | [] => some []
  | f :: rest =>
    match checkField cls planes f, checkFields cls planes rest with
    | some g, some l => some (g :: l)
    | _, _ => none

/-- R76: a template write in range: `none` for FIELD_RANGE, `some none` for UNDEFINED. -/
def checkTemplate (w : TemplateWrite) : Option (Option Template) :=
  if w.fields.isEmpty then some none
  else
    match w.cls with
    | some cls =>
      if (decide (w.planes = 1) || decide (w.planes = 2)) && decide (w.fields.length ≤ 12) then
        (checkFields cls w.planes w.fields).map (fun fields => some (Template.mk cls w.planes fields))
      else none
    | none => none

/-- R78: a glyph write in range: width 1 to 32, 48 rows each of the width. -/
def checkGlyph (w : GlyphWrite) : Option Glyph :=
  if within 1 32 w.width && decide (w.pattern.length = 48) && w.pattern.all (fun row => decide (row.length = w.width))
  then some (Glyph.mk w.width w.pattern) else none

/-- R92: the radio settings record in range. -/
def checkRadioSettings (w : RadioSettingsWrite) : Option RadioSettings :=
  if within 0 15 w.channel && within 1 96 w.tradingBudget && within 1 96 w.closedBudget && within 1 8 w.retryLimit
  then some (RadioSettings.mk w.channel w.tradingBudget w.closedBudget w.retryLimit) else none

/-- R128: a port record in range: the tags differ and lie from 1 to 4,094. -/
def checkPort (w : PortWrite) : Option PortSettings :=
  match w.role with
  | some role =>
    if within 1 4094 w.staffTag && within 1 4094 w.guestTag && decide (w.staffTag ≠ w.guestTag)
    then some (PortSettings.mk role w.staffTag w.guestTag) else none
  | none => none

/-- R144: a guest profile in range. -/
def checkGuestProfile (w : GuestProfileWrite) : Option GuestProfile :=
  if within 1 4096 w.quotaMiB && within 300 86400 w.timeLimit && within 60 3600 w.idleLimit
      && within 0 86400 w.cooldown && within 64 20480 w.rateCap && within 64 8192 w.maximum
  then some (GuestProfile.mk w.quotaMiB w.timeLimit w.idleLimit w.cooldown w.rateCap w.maximum) else none

/-- R116: a line of a SALE_RECORD in range. -/
def saleLineInRange (l : SaleLine) : Bool :=
  l.kind.isSome && decide (l.code ≤ Config.maxItemCode) && decide (-999 ≤ l.quantity) && decide (l.quantity ≤ 999)
    && within 0 Config.maxMoney l.price && within 0 65535 l.version

/-- R110: a till number in range. -/
def tillInRange (n : Nat) : Bool := within 1 96 n

end Sys2Proof.Machine
end

