-- ==== Sys2Proof/Machine/Price.lean ====
section
/-! DEFINITION. The price evaluator (file 02): the three stages of an evaluation, and price texts. -/

namespace Sys2Proof.Machine

/-! ## The evaluation stages (R18 to R21) -/

/-- R18: a PERCENT promotion's price from X, rounded by the version's mode. -/
def percentPrice (base p : Nat) (m : Rounding) : Nat :=
  match m with
  | .down => base * (10000 - p) / 10000
  | .up => (base * (10000 - p) + 9999) / 10000
  | .nearest => (base * (10000 - p) + 5000) / 10000

/-- R18, R19: stage 1, the promotion price E0, which an AMOUNT may take below zero. -/
def promotionPrice (base : Nat) : Option Promotion → Int
  | none => (base : Int)
  | some (.percent p m) => (percentPrice base p m : Int)
  | some (.amount a) => (base : Int) - (a : Int)
  | some (.fixed p) => if p ≤ base then (p : Int) else (base : Int)

/-- R19: the fault of stage 1. -/
def raisesPromoAboveBase (base : Nat) : Option Promotion → Bool
  | some (.fixed p) => decide (base < p)
  | _ => false

/-- R20: an absent floor price counts as 0. -/
def floorOf (i : PriceInputs) : Nat := i.floor.getD 0

/-- R20: stage 2, the effective price. -/
def effectivePrice (i : PriceInputs) : Nat :=
  if promotionPrice i.base i.promotion < (floorOf i : Int) then floorOf i
  else (promotionPrice i.base i.promotion).toNat

/-- R20: the FLOOR fault of stage 2. -/
def raisesFloor (i : PriceInputs) : Bool := decide (promotionPrice i.base i.promotion < (floorOf i : Int))

/-- The reference quantity of a unit code (file 02, "Inputs of a price version"). -/
def referenceQuantity : UnitCode → Nat
  | .perKg => 1000
  | .perL => 1000
  | .per100g => 100
  | .per100ml => 100
  | .perPiece => 1
  | .perM => 1000

/-- R21: E × R divided by Q, to the nearest whole unit, a half raised. -/
def unitAmount (e r q : Nat) : Nat := (2 * (e * r) + q) / (2 * q)

/-- R21: stage 3, the unit price of an effective price. -/
def unitPrice (i : PriceInputs) (e : Nat) : UnitPrice :=
  match i.pack, i.unit with
  | some q, some u =>
    if unitAmount e (referenceQuantity u) q ≤ Config.maxMoney then .amount (unitAmount e (referenceQuantity u) q)
    else .blank
  | _, _ => .absent

/-- R15: an evaluation of a version's inputs: E, U and the fault set. It does not read the masks. -/
def evaluate (i : PriceInputs) : PriceResults where
  e := effectivePrice i
  u := unitPrice i (effectivePrice i)
  faults :=
    { promoAboveBase := raisesPromoAboveBase i.base i.promotion
      floor := raisesFloor i
      zeroPrice := decide (effectivePrice i = 0)
      unitOverflow := decide (unitPrice i (effectivePrice i) = .blank) }

/-- R23: whether a version shows its promotion. -/
def showsPromotion (i : PriceInputs) (r : PriceResults) : Bool :=
  i.promotion.isSome && !r.faults.promoAboveBase && decide (r.e < i.base)

/-! ## Price texts (R28, R29) -/

/-- The decimal digits of `n` as character codes, exactly `w` of them. -/
def fixedDigits : Nat → Nat → Text
  | 0, _ => []
  | w + 1, n => fixedDigits w (n / 10) ++ [48 + n % 10]

/-- The decimal digits of `n` without leading zeros, and "0" for 0. -/
def plainDigits (n : Nat) : Text :=
  match (fixedDigits 13 n).dropWhile (fun c => decide (c = 48)) with
  | [] => [48]
  | t => t

/-- R28: the character of the decimal mark. -/
def markChar : Mark → Nat
  | .dot => 46
  | .comma => 44

/-- R28: the money text of an amount under the settings in force. -/
def moneyText (s : PriceSettings) (m : Nat) : Text :=
  (match s.glyph with
   | none => []
   | some g => [g]) ++
  (if s.decimals = 0 then plainDigits m
   else plainDigits (m / 10 ^ s.decimals) ++ [markChar s.mark] ++ fixedDigits s.decimals (m % 10 ^ s.decimals))

/-- The text suffix of a unit code: "/kg", "/l", "/100g", "/100ml", "/pc" or "/m". -/
def unitSuffix : UnitCode → Text
  | .perKg => [47, 107, 103]
  | .perL => [47, 108]
  | .per100g => [47, 49, 48, 48, 103]
  | .per100ml => [47, 49, 48, 48, 109, 108]
  | .perPiece => [47, 112, 99]
  | .perM => [47, 109]

/-- R29: the text of a unit price: the money text and the suffix, "----" for BLANK, or empty. -/
def unitPriceText (s : PriceSettings) (i : PriceInputs) : UnitPrice → Text
  | .amount n => moneyText s n ++ (match i.unit with
      | some u => unitSuffix u
      | none => [])
  | .blank => [45, 45, 45, 45]
  | .absent => []

/-- R79: the text a field source draws from a version of an item. -/
def fieldText (s : PriceSettings) (code : Nat) (v : Version) : FieldSource → Text
  | .effectivePrice => moneyText s v.results.e
  | .basePrice => if showsPromotion v.inputs v.results then moneyText s v.inputs.base else []
  | .unitPrice => unitPriceText s v.inputs v.results.u
  | .description => v.inputs.description
  | .promoBadge => if showsPromotion v.inputs v.results then v.inputs.badge.getD [] else []
  | .itemCode => fixedDigits 13 code

end Sys2Proof.Machine
end

