-- ==== Sys2Proof/Machine/Flags.lean ====
section
/-! DEFINITION. The flags the rules compute: a version's status from its fault set and the masks (R22), the journal's
high-water flag (R120) and the flags of a journal entry (R117). -/

namespace Sys2Proof.Machine

/-- R22: some fault of the set has its mask flag UNMASKED. -/
def anyUnmasked (m : PriceMasks) (f : PriceFaults) : Bool :=
  (f.promoAboveBase && !m.promoAboveBase) || (f.floor && !m.floor) || (f.zeroPrice && !m.zeroPrice)
    || (f.unitOverflow && !m.unitOverflow)

/-- R22: the status of a version under the masks in force. -/
def statusUnder (m : PriceMasks) (f : PriceFaults) : VersionStatus := if anyUnmasked m f then .held else .valid

/-- R117: what the price check of a sale line finds. -/
inductive SaleCheck where
  | unchecked
  | unverified
  | against (charged : Nat)
  deriving DecidableEq, Repr

/-- R117, R116: the flags of a journal entry. -/
def entryFlags (gap : Bool) (price : Nat) : SaleCheck → EntryFlags
  | .unchecked => EntryFlags.mk gap false false
  | .unverified => EntryFlags.mk gap false true
  | .against charged => EntryFlags.mk gap (decide (charged < price)) false

/-- R120: the high-water flag after records were added, from the count held. -/
def highFlagAfterAdd (flag : Bool) (held : Nat) : Bool := flag || decide (Config.journalHigh ≤ held)

/-- R120: the high-water flag after an acknowledgement, from the count held. -/
def highFlagAfterRemoval (flag : Bool) (held : Nat) : Bool := flag && decide (Config.journalHigh ≤ held)

end Sys2Proof.Machine
end

