-- ==== Sys2Proof/Machine/Items.lean ====
section
/-! DEFINITION. The item table (file 03): records and slots, version numbers, reference counts, the pending list, the
change records PRICE, DESCRIPTION and WITHDRAW, RELEASE (R26), and activation (R48). -/

namespace Sys2Proof.Machine

/-! ## Records and slots -/

/-- The record of an item. -/
def getItem (b : Block) (code : Nat) : Option Item := tableFind b.items.table code

/-- The item table with a record in place. -/
def putItem (code : Nat) (i : Item) (b : Block) : Block :=
  { b with items := { b.items with table := tableInsert b.items.table code i } }

/-- The content of a slot; none when EMPTY. -/
def slotOf (i : Item) (k : Slot) : Option Version := i.slots.get k

/-- An item with one slot replaced. -/
def setSlot (i : Item) (k : Slot) (v : Option Version) : Item := { i with slots := i.slots.set k v }

/-- The four slot numbers in order. -/
def slotNumbers : List Slot := [0, 1, 2, 3]

/-- R34: the slot that holds a role. -/
def slotWithRole (i : Item) (r : Role) : Option Slot :=
  slotNumbers.find? (fun k => match slotOf i k with
    | some v => decide (v.role = r)
    | none => false)

/-- R41, R42: the lowest-numbered EMPTY slot. -/
def lowestEmpty (i : Item) : Option Slot := slotNumbers.find? (fun k => (slotOf i k).isNone)

/-- The ACTIVE version of an item. -/
def activeVersion (i : Item) : Option Version := (slotWithRole i .active).bind (slotOf i)

/-- The PENDING version of an item. -/
def pendingVersion (i : Item) : Option Version := (slotWithRole i .pending).bind (slotOf i)

/-- R35: the version a reference names: the slot's, when it holds that version number. -/
def namedVersion (b : Block) (code : Nat) (k : Slot) (number : Nat) : Option Version :=
  match getItem b code with
  | none => none
  | some i =>
    match slotOf i k with
    | none => none
    | some v => if v.number = number then some v else none

/-- R40: a new record: four EMPTY slots, no bound label, no version issued. -/
def newItem : Item where
  last := 0
  slots := Vector.replicate 4 none
  bound := []

/-! ## Version numbers (R35) -/

/-- The number after `n`, 1 after 65,535. -/
def numberAfter (n : Nat) : Nat := if 65535 ≤ n then 1 else n + 1

/-- R35: the first number from `n` on that no held number equals; at most four can be passed over. -/
def passOver (held : List Nat) : Nat → Nat → Nat
  | 0, n => n
  | fuel + 1, n => if held.contains n then passOver held fuel (numberAfter n) else n

/-- The version numbers of an item's filled slots, the slot `skip` left out. -/
def heldNumbers (i : Item) (skip : Slot) : List Nat :=
  slotNumbers.filterMap (fun k => if k = skip then none else (slotOf i k).map Version.number)

/-- R35: the number of the next version placed in a slot. -/
def nextNumber (i : Item) (k : Slot) : Nat := passOver (heldNumbers i k) 4 (numberAfter i.last)

/-! ## Reference counts (R36) -/

/-- R36: a take reference raises the count of the named version's slot; a request that no longer matches changes
nothing (R45). -/
def takeReference (code : Nat) (k : Slot) (number : Nat) (b : Block) : Block :=
  match getItem b code, namedVersion b code k number with
  | some i, some v => putItem code (setSlot i k (some { v with refs := v.refs + 1 })) b
  | _, _ => b

/-- R36: a slot after a release: a RETIRED slot whose count reaches 0 becomes EMPTY. -/
def releasedSlot (v : Version) : Option Version :=
  if v.refs - 1 = 0 ∧ v.role = .retired then none else some { v with refs := v.refs - 1 }

/-- R36: a release reference. -/
def releaseReference (code : Nat) (k : Slot) (number : Nat) (b : Block) : Block :=
  match getItem b code, namedVersion b code k number with
  | some i, some v => putItem code (setSlot i k (releasedSlot v)) b
  | _, _ => b

/-! ## Bound labels (R38) and hand-offs -/

/-- R38: a label appended to an item's list. -/
def bindToItem (code id : Nat) (b : Block) : Block :=
  match getItem b code with
  | some i => putItem code { i with bound := i.bound ++ [id] } b
  | none => b

/-- R38: a label taken out of an item's list. -/
def unbindFromItem (code id : Nat) (b : Block) : Block :=
  match getItem b code with
  | some i => putItem code { i with bound := listRemove i.bound id } b
  | none => b

/-- R44, R46: the item table hands an item to the label directory. -/
def handOn (h : Handoff) (b : Block) : Block :=
  { b with labels := { b.labels with handoffs := b.labels.handoffs ++ [h] } }

/-- R37: an item joins the pending list at its tail. -/
def joinPending (code : Nat) (b : Block) : Block :=
  { b with items := { b.items with pending := setAdd b.items.pending code } }

/-- R37: an item leaves the pending list. -/
def leavePending (code : Nat) (b : Block) : Block :=
  { b with items := { b.items with pending := listRemove b.items.pending code } }

/-! ## PRICE (R40 to R44) -/

/-- R42, R48: the slot that was ACTIVE leaves the role: RETIRED when its count is above 0, EMPTY when 0. -/
def retireActive (i : Item) : Item :=
  match slotWithRole i .active with
  | none => i
  | some k =>
    match slotOf i k with
    | none => i
    | some v => setSlot i k (if 0 < v.refs then some { v with role := .retired } else none)

/-- R41: a PENDING slot that labels refer to becomes RETIRED. -/
def retirePending (i : Item) : Item :=
  match slotWithRole i .pending with
  | none => i
  | some k =>
    match slotOf i k with
    | none => i
    | some v => setSlot i k (some { v with role := .retired })

/-- R44: a version evaluated under the masks, with count 0. -/
def newVersion (m : PriceMasks) (role : Role) (number : Nat) (inputs : PriceInputs) : Version where
  role := role
  status := statusUnder m (evaluate inputs).faults
  number := number
  inputs := inputs
  results := evaluate inputs
  refs := 0

/-- R35, R44: a new version placed in a slot: it takes the next version number. -/
def fillSlot (m : PriceMasks) (role : Role) (inputs : PriceInputs) (k : Slot) (i : Item) : Item :=
  { setSlot i k (some (newVersion m role (nextNumber i k) inputs)) with last := nextNumber i k }

/-- R41: the placement of a NEXT_OPEN version; none is SLOTS_FULL (R43). -/
def placeNextOpen (m : PriceMasks) (inputs : PriceInputs) (i : Item) : Option Item :=
  match slotWithRole i .pending, pendingVersion i with
  | some k, some v =>
    if v.refs = 0 then some (fillSlot m .pending inputs k i)
    else (lowestEmpty i).map (fun e => fillSlot m .pending inputs e (retirePending i))
  | _, _ => (lowestEmpty i).map (fun e => fillSlot m .pending inputs e i)

/-- R42: the placement of an IMMEDIATE version; none is SLOTS_FULL (R43). The new version holds its slot before the
old one gives its slot up. -/
def placeImmediate (m : PriceMasks) (inputs : PriceInputs) (i : Item) : Option Item :=
  (lowestEmpty i).map (fun e =>
    { setSlot (retireActive i) e (some (newVersion m .active (nextNumber i e) inputs)) with last := nextNumber i e })

/-- R40 to R43: the placement of a version by its effect. -/
def placeVersion (m : PriceMasks) (inputs : PriceInputs) (i : Item) : Effect → Option Item
  | .nextOpen => placeNextOpen m inputs i
  | .immediate => placeImmediate m inputs i

/-- R22: an evaluation at creation that gives HELD queues ITEM_HELD. -/
def noteHeld (code : Nat) (status : VersionStatus) (b : Block) : Block :=
  match status with
  | .held => notice .itemHeld (.item code) b
  | .valid => b

/-- R37: a NEXT_OPEN that gives an item its PENDING slot puts it on the pending list; one already there keeps its
place. -/
def notePending (code : Nat) (effect : Effect) (b : Block) : Block :=
  match effect with
  | .nextOpen => joinPending code b
  | .immediate => b

/-- R40: the record a PRICE proceeds on: the item's, a new one, or none when the table is full. -/
def priceItem (b : Block) (code : Nat) : Option Item :=
  match getItem b code with
  | some i => some i
  | none => if b.items.table.length < Config.maxItems then some newItem else none

/-- R39 to R44: a PRICE change record at the item table, with its verdict. -/
def applyPrice (r : PriceRecord) (b : Block) : Block × Verdict :=
  match checkPrice r with
  | none => (b, some .fieldRange)
  | some (inputs, effect) =>
    match priceItem b r.code with
    | none => (b, some .tableFull)
    | some i =>
      match placeVersion b.price.masks inputs i effect with
      | none => (b, some .slotsFull)
      | some j =>
        (handOn (Handoff.mk r.code [])
          (noteHeld r.code (statusUnder b.price.masks (evaluate inputs).faults)
            (notePending r.code effect (putItem r.code j b))), none)

/-! ## DESCRIPTION and WITHDRAW (R46, R47) -/

/-- R46: the slots whose description a DESCRIPTION replaces: ACTIVE and PENDING, by slot number. -/
def describedSlots (i : Item) : List Slot :=
  slotNumbers.filter (fun k => match slotOf i k with
    | some v => decide (v.role = .active) || decide (v.role = .pending)
    | none => false)

/-- R46: a version with its description replaced, where its role is ACTIVE or PENDING. -/
def describeVersion (text : Text) (v : Version) : Version :=
  if v.role = .active ∨ v.role = .pending then { v with inputs := { v.inputs with description := text } } else v

/-- R46: an item with its description replaced. -/
def describeItem (text : Text) (i : Item) : Item :=
  { i with slots := i.slots.map (fun v => v.map (describeVersion text)) }

/-- R46: a DESCRIPTION change record. -/
def applyDescription (code : Nat) (text : Text) (b : Block) : Block × Verdict :=
  if checkDescription text then
    match getItem b code with
    | none => (b, some .notFound)
    | some i =>
      if (describedSlots i).isEmpty then (b, none)
      else (handOn (Handoff.mk code (describedSlots i)) (putItem code (describeItem text i) b), none)
  else (b, some .fieldRange)

/-- R47: a WITHDRAW change record. -/
def applyWithdraw (code : Nat) (b : Block) : Block × Verdict :=
  match getItem b code with
  | none => (b, some .notFound)
  | some i =>
    if i.bound.isEmpty then
      ({ b with items := { b.items with
          table := tableErase b.items.table code
          pending := listRemove b.items.pending code } }, none)
    else (b, some .boundLabels)

/-! ## RELEASE (R26) -/

/-- R26: a HELD version evaluated again takes the status of the masks now in force; its results stay (R15). -/
def releaseVersion (m : PriceMasks) (v : Version) : Version :=
  match v.status with
  | .held => { v with results := evaluate v.inputs, status := statusUnder m (evaluate v.inputs).faults }
  | .valid => v

/-- R26: an item with its HELD versions evaluated again. -/
def releaseItem (m : PriceMasks) (i : Item) : Item :=
  { i with slots := i.slots.map (fun v => v.map (releaseVersion m)) }

/-- The number of an item's versions with a status. -/
def countStatus (i : Item) (st : VersionStatus) : Nat :=
  (slotNumbers.filter (fun k => match slotOf i k with
    | some v => decide (v.status = st)
    | none => false)).length

/-- R26: RELEASE of an item in the table: the versions that became VALID and that stayed HELD are counted. -/
def releaseFound (code : Nat) (i : Item) (b : Block) : Block × ReplyBody :=
  ((if 0 < countStatus i .held - countStatus (releaseItem b.price.masks i) .held then handOn (Handoff.mk code [])
    else id)
    ((if 0 < countStatus (releaseItem b.price.masks i) .held then notice .itemHeld (.item code) else id)
      (putItem code (releaseItem b.price.masks i) b)),
   .released (countStatus i .held - countStatus (releaseItem b.price.masks i) .held)
     (countStatus (releaseItem b.price.masks i) .held))

/-- R26: the RELEASE command at the item table; a code out of range is FIELD_RANGE (R188). -/
def applyRelease (code : Nat) (b : Block) : Block × ReplyBody :=
  if code ≤ Config.maxItemCode then
    match getItem b code with
    | none => (b, .refusal .notFound none)
    | some i => releaseFound code i b
  else (b, .refusal .fieldRange none)

/-! ## Activation (R48) -/

/-- R48: an item whose VALID PENDING version becomes ACTIVE. -/
def activateItem (i : Item) (k : Slot) (v : Version) : Item :=
  setSlot (retireActive i) k (some { v with role := .active })

/-- R48: activation of one item of the pending list. -/
def activateOne (code : Nat) (b : Block) : Block :=
  match getItem b code with
  | none => leavePending code b
  | some i =>
    match slotWithRole i .pending, pendingVersion i with
    | some k, some v =>
      match v.status with
      | .valid => leavePending code (putItem code (activateItem i k v) b)
      | .held => notice .itemHeld (.item code) b
    | _, _ => leavePending code b

/-- R48: the walk over the pending list, head to tail. -/
def activateAll (l : List Nat) (b : Block) : Block := l.foldl (fun acc code => activateOne code acc) b

/-- R72: a sweep list handed to the label directory begins a new sweep; an empty list leaves no sweep running. -/
def beginSweep (l : List Nat) (b : Block) : Block :=
  { b with labels := { b.labels with sweep := if l.isEmpty then none else some (Sweep.mk l 0) } }

/-- R48: the activation request: the walk, and the list as it stood before it handed on for the sweep. -/
def activate (b : Block) : Block := beginSweep b.items.pending (activateAll b.items.pending b)

end Sys2Proof.Machine
end

