-- ==== Sys2Proof/Machine/Directory.lean ====
section
/-! DEFINITION. The label directory (file 04): targets, settling, priority classes and the wake-slot queues, binding,
retargeting, tag resolution, outcomes, presence and FORCE_LABEL. -/

namespace Sys2Proof.Machine

/-! ## Records -/

/-- The record of a label. -/
def getLabel (b : Block) (id : Nat) : Option Label := tableFind b.labels.table id

/-- The directory with a record in place. -/
def putLabel (id : Nat) (l : Label) (b : Block) : Block :=
  { b with labels := { b.labels with table := tableInsert b.labels.table id l } }

/-- The directory with `f` applied to a label's record, if it has one. -/
def modifyLabel (id : Nat) (f : Label → Label) (b : Block) : Block :=
  match getLabel b id with
  | some l => putLabel id (f l) b
  | none => b

/-- `g` applied to the record of a label, if there is one; else the block as it is. -/
def withLabel (id : Nat) (g : Label → Block → Block) (b : Block) : Block :=
  match getLabel b id with
  | some l => g l b
  | none => b

/-- R53: the wake group of a label. -/
def wakeGroup (id : Nat) : Nat := id % 64

/-- No mark set. -/
def clearMarks : Marks := Marks.mk false false false

/-- Two sets of marks together. -/
def joinMarks (a c : Marks) : Marks :=
  Marks.mk (a.redraw || c.redraw) (a.force || c.force) (a.fullRequired || c.fullRequired)

/-- R53: a label record as LABEL creates it. -/
def newLabel (cls : DisplayClass) : Label where
  cls := cls
  item := none
  template := none
  binding := .normal
  next := none
  target := none
  confirmed := none
  inFlight := none
  displayKnown := false
  state := .unbound
  marks := clearMarks
  oversize := false
  queued := none
  retry := 0
  present := false
  heard := none
  candidate := none
  lostCount := 0
  battery := none
  lastTag := 0

/-- R53: the confirmed tag, 0 when there is no confirmed reference. -/
def confirmedTag (l : Label) : Nat :=
  match l.confirmed with
  | some r => r.tag
  | none => 0

/-! ## Targets (R56) -/

/-- A version of an item as a target, where it is VALID. -/
def validTarget (code : Nat) (i : Item) (k : Option Slot) : Option Target :=
  match k with
  | none => none
  | some k =>
    match slotOf i k with
    | none => none
    | some v =>
      match v.status with
      | .valid => some (.version code k v.number)
      | .held => none

/-- R56: the target of a label bound to an item. -/
def boundTarget (mode : Mode) (code : Nat) (i : Item) : Option Target :=
  match mode with
  | .closed =>
    match validTarget code i (slotWithRole i .pending) with
    | some t => some t
    | none => validTarget code i (slotWithRole i .active)
  | .trading => validTarget code i (slotWithRole i .active)
  | .closing => validTarget code i (slotWithRole i .active)

/-- R56: the target a label should show under the mode in force. -/
def targetOf (b : Block) (l : Label) : Option Target :=
  match l.item with
  | none =>
    match l.binding with
    | .foreign => some .blank
    | .normal => none
  | some code =>
    match getItem b code with
    | none => none
    | some i => boundTarget b.mode.mode code i

/-! ## Priority classes and queues (R58, R59) -/

/-- The version a reference names, in the table. -/
def refVersion (b : Block) : RefWhat → Option Version
  | .blank => none
  | .version code k number _ => namedVersion b code k number

/-- Whether a reference names a version. -/
def isVersionRef : RefWhat → Bool
  | .blank => false
  | .version _ _ _ _ => true

/-- The confirmed and in-flight references of a label, whichever are present. -/
def labelRefs (l : Label) : List RefWhat :=
  (match l.confirmed with
   | some r => [r.what]
   | none => []) ++
  (match l.inFlight with
   | some f => [f.ref.what]
   | none => [])

/-- The largest E among a label's version references. -/
def largestE (b : Block) (l : Label) : Nat :=
  ((labelRefs l).filterMap (fun w => (refVersion b w).map (fun v => v.results.e))).foldl max 0

/-- The E of a target version. -/
def targetE (b : Block) : Target → Nat
  | .blank => 0
  | .version code k number =>
    match namedVersion b code k number with
    | some v => v.results.e
    | none => 0

/-- R58: the URGENT condition. -/
def isUrgent (l : Label) : Bool :=
  l.marks.force || !l.displayKnown || decide (l.binding = .foreign) || !(labelRefs l).any isVersionRef

/-- R58: the priority class of a label. -/
def classOf (b : Block) (l : Label) : PriorityClass :=
  if isUrgent l then .urgent
  else
    match l.target with
    | none => .cosmetic
    | some t =>
      if largestE b l < targetE b t then .increase
      else if targetE b t < largestE b l then .decrease
      else .cosmetic

/-- R59: the order of the classes. -/
def classRank : PriorityClass → Nat
  | .urgent => 0
  | .increase => 1
  | .decrease => 2
  | .cosmetic => 3

/-- R59: a label joins its queue, or has its class computed again: a raised class takes a new joining order, any
other keeps it. -/
def enqueue (id : Nat) (b : Block) : Block :=
  withLabel id (fun l c =>
    match l.queued with
    | some q =>
      if classRank (classOf c l) < classRank q.cls then
        { putLabel id { l with queued := some (QueuePlace.mk (classOf c l) c.labels.nextJoin) } c with
          labels := { (putLabel id { l with queued := some (QueuePlace.mk (classOf c l) c.labels.nextJoin) } c).labels with
            nextJoin := c.labels.nextJoin + 1 } }
      else putLabel id { l with queued := some (QueuePlace.mk (classOf c l) q.order) } c
    | none =>
      { putLabel id { l with queued := some (QueuePlace.mk (classOf c l) c.labels.nextJoin) } c with
        labels := { (putLabel id { l with queued := some (QueuePlace.mk (classOf c l) c.labels.nextJoin) } c).labels with
          nextJoin := c.labels.nextJoin + 1 } }) b

/-- R59: whether one queue place stands before another. -/
def placeBefore (p q : QueuePlace) : Bool :=
  decide (classRank p.cls < classRank q.cls) || (decide (classRank p.cls = classRank q.cls) && decide (p.order < q.order))

/-- A queue entry put in its place in a queue. -/
def queueInsert (id : Nat) (p : QueuePlace) : List (Nat × QueuePlace) → List (Nat × QueuePlace)
  | [] => [(id, p)]
  | (j, q) :: rest => if placeBefore p q then (id, p) :: (j, q) :: rest else (j, q) :: queueInsert id p rest

/-- R59: wake-slot queue `g`: the queued labels of the group, by class and joining order. -/
def wakeQueue (b : Block) (g : Nat) : List Nat :=
  (b.labels.table.foldl (fun acc p =>
    if wakeGroup p.1 = g then
      match p.2.queued with
      | some q => queueInsert p.1 q acc
      | none => acc
    else acc) []).map Prod.fst

/-! ## Settling (R57) -/

/-- R57: whether a label with a version target has something to draw. -/
def mustDraw (l : Label) (code : Nat) (k : Slot) (number : Nat) : Bool :=
  match l.confirmed with
  | none => true
  | some r =>
    match r.what with
    | .blank => true
    | .version c j n t =>
      !(decide (c = code) && decide (j = k) && decide (n = number) && decide (l.template = some t))
        || l.marks.redraw || l.marks.force

/-- R57: the state a label settles in, from its target. -/
def settledState (l : Label) : UpdateState :=
  match l.target with
  | none => if l.item.isNone then .unbound else .current
  | some .blank => .stale
  | some (.version code k number) => if mustDraw l code k number then .stale else .current

/-- R57: the record of a label as settled, its queue place apart. -/
def settledLabel (b : Block) (l : Label) : Label :=
  { l with target := targetOf b l, state := settledState { l with target := targetOf b l } }

/-- R57: a label is settled: retargeted, its state set, and queued exactly when STALE. -/
def settle (id : Nat) (b : Block) : Block :=
  withLabel id (fun l c =>
    if (settledLabel c l).state = .stale then enqueue id (putLabel id (settledLabel c l) c)
    else putLabel id { settledLabel c l with queued := none } c) b

/-- R55: the three states in which a label is settled after every event. -/
def isSettledState : UpdateState → Bool
  | .unbound => true
  | .current => true
  | .stale => true
  | .inFlight => false
  | .uncertain => false
  | .failed => false

/-- R57: a label that is not IN_FLIGHT, UNCERTAIN or FAILED is settled. -/
def settleIfSettled (id : Nat) (b : Block) : Block :=
  withLabel id (fun l c => if isSettledState l.state then settle id c else c) b

/-- A label becomes UNCERTAIN and joins its queue, or keeps its entry with the class computed again (R59). -/
def becomeUncertain (id : Nat) (b : Block) : Block :=
  enqueue id (modifyLabel id (fun l => { l with state := .uncertain }) b)

/-- R68: a FAILED label leaves that state: retry count 0, oversize clear; UNCERTAIN and queued if it still holds an
in-flight reference, settled otherwise. -/
def returnFailed (id : Nat) (b : Block) : Block :=
  withLabel id (fun l c =>
    if l.inFlight.isSome then
      becomeUncertain id (putLabel id { l with retry := 0, oversize := false } c)
    else settle id (putLabel id { l with retry := 0, oversize := false } c)) b

/-! ## Retargeting (R62, R64, R72) -/

/-- R62: retargeting one label, by its state. -/
def retargetLabel (id : Nat) (b : Block) : Block :=
  withLabel id (fun l c =>
    match l.state with
    | .unbound => settle id c
    | .current => settle id c
    | .stale => settle id c
    | .inFlight => putLabel id { l with target := targetOf c l } c
    | .uncertain => enqueue id (putLabel id { l with target := targetOf c l } c)
    | .failed =>
      if l.oversize ∧ targetOf c l ≠ l.target then
        returnFailed id (putLabel id { l with target := targetOf c l } c)
      else putLabel id { l with target := targetOf c l } c) b

/-- Retargeting every label of a list, in order. -/
def retargetLabels (ids : List Nat) (b : Block) : Block := ids.foldl (fun acc id => retargetLabel id acc) b

/-- The bound labels of an item, in list order; none when the item is not in the table. -/
def boundLabels (b : Block) (code : Nat) : List Nat :=
  match getItem b code with
  | some i => i.bound
  | none => []

/-- R62: whether a label's confirmed or in-flight reference names one of an item's slots. -/
def refersToSlots (code : Nat) (ks : List Slot) (l : Label) : Bool :=
  (labelRefs l).any (fun w => match w with
    | .version c k _ _ => decide (c = code) && ks.contains k
    | .blank => false)

/-- R62: the redraw mark on a bound label whose reference names a redrawn slot. -/
def markRedrawn (h : Handoff) (id : Nat) (b : Block) : Block :=
  modifyLabel id (fun l =>
    if refersToSlots h.code h.redrawn l then { l with marks := { l.marks with redraw := true } } else l) b

/-- R62: an item handed on: redraw marks for replaced descriptions, then every bound label retargeted. -/
def takeHandoff (h : Handoff) (b : Block) : Block :=
  retargetLabels (boundLabels b h.code) ((boundLabels b h.code).foldl (fun acc id => markRedrawn h id acc) b)

/-- R62: ITEM_RETARGET: the first item handed on is taken; with none there is no such event. -/
def itemRetarget (b : Block) : Block :=
  match b.labels.handoffs with
  | [] => b
  | h :: rest => takeHandoff h { b with labels := { b.labels with handoffs := rest } }

/-- R62: one label bound with a written template: the redraw mark; settled, or returned when FAILED with the
oversize flag. -/
def templateWritten (id : Nat) (b : Block) : Block :=
  withLabel id (fun l c =>
    match l.state with
    | .failed =>
      if l.oversize then returnFailed id (putLabel id { l with marks := { l.marks with redraw := true } } c)
      else putLabel id { l with marks := { l.marks with redraw := true } } c
    | .inFlight => putLabel id { l with marks := { l.marks with redraw := true } } c
    | .uncertain => putLabel id { l with marks := { l.marks with redraw := true } } c
    | .unbound => settle id (putLabel id { l with marks := { l.marks with redraw := true } } c)
    | .current => settle id (putLabel id { l with marks := { l.marks with redraw := true } } c)
    | .stale => settle id (putLabel id { l with marks := { l.marks with redraw := true } } c)) b

/-- The ids of the labels bound with a template. -/
def labelsWithTemplate (b : Block) (t : Nat) : List Nat :=
  (b.labels.table.filter (fun p => decide (p.2.template = some t))).map Prod.fst

/-- R62: TEMPLATE_RETARGET: the first template handed on is taken, its labels settled in ascending id (log 53); with none
there is no such event. -/
def templateRetarget (b : Block) : Block :=
  match b.labels.templateHandoffs with
  | [] => b
  | t :: rest =>
    (labelsWithTemplate b t).foldl (fun acc id => templateWritten id acc)
      { b with labels := { b.labels with templateHandoffs := rest } }

/-- R72: the cursor steps; the sweep ends after its last item. -/
def stepSweep (w : Sweep) : Option Sweep :=
  if w.cursor + 1 < w.items.length then some { w with cursor := w.cursor + 1 } else none

/-- R72: SWEEP_VISIT: the labels of the item at the cursor are retargeted and the cursor steps. -/
def sweepVisit (b : Block) : Block :=
  match b.labels.sweep with
  | none => b
  | some w =>
    retargetLabels (match w.items[w.cursor]? with
      | some code => boundLabels b code
      | none => []) { b with labels := { b.labels with sweep := stepSweep w } }

/-! ## References given up -/

/-- A release reference for a reference that names a version; a blank reference is not counted (R53). -/
def releaseWhat (w : RefWhat) (b : Block) : Block :=
  match w with
  | .blank => b
  | .version code k number _ => releaseReference code k number b

/-- The release reference of a label's confirmed reference, where present. -/
def releaseConfirmed (l : Label) (b : Block) : Block :=
  match l.confirmed with
  | some r => releaseWhat r.what b
  | none => b

/-- The release reference of a label's in-flight reference, where present. -/
def releaseInFlight (l : Label) (b : Block) : Block :=
  match l.inFlight with
  | some f => releaseWhat f.ref.what b
  | none => b

/-- R89: a label leaves the current-style set. -/
def leaveStyle (id : Nat) (b : Block) : Block :=
  { b with composer := { b.composer with style := listRemove b.composer.style id } }

/-- R89: an in-flight reference of kind FULL released without being confirmed takes the label out of the set. -/
def leaveStyleUnconfirmed (id : Nat) (l : Label) (b : Block) : Block :=
  match l.inFlight with
  | some f =>
    match f.kind with
    | .full => leaveStyle id b
    | .partialUpdate => b
  | none => b

/-- R63: the marks a label has after its in-flight reference is released without being confirmed. -/
def marksRestored (l : Label) : Marks :=
  match l.inFlight with
  | some f => joinMarks l.marks f.carried
  | none => l.marks

/-- R65, R67: the in-flight reference released without being confirmed; its carried marks are set again. -/
def dropInFlight (id : Nat) (b : Block) : Block :=
  withLabel id (fun l c =>
    leaveStyleUnconfirmed id l
      (releaseInFlight l (putLabel id { l with inFlight := none, marks := marksRestored l } c))) b

/-- R65: both references released and made absent, the carried marks set again, the display UNKNOWN and the
full-required mark set. -/
def dropBoth (id : Nat) (b : Block) : Block :=
  withLabel id (fun l c =>
    leaveStyleUnconfirmed id l
      (releaseInFlight l (releaseConfirmed l (putLabel id { l with
        inFlight := none
        confirmed := none
        displayKnown := false
        marks := { marksRestored l with fullRequired := true } } c)))) b

/-! ## Binding (R60, R61) -/

/-- R60, R61: what a rebind and an unbind have in common before the settling: both references are released, the
label leaves its item's list and the current-style set, it becomes FOREIGN with the binding given, and its retry
count, marks and oversize flag are cleared. -/
def giveUpBinding (id : Nat) (item template : Option Nat) (b : Block) : Block :=
  withLabel id (fun l c =>
    leaveStyle id
      ((match l.item with
        | some old => unbindFromItem old id
        | none => (fun d => d))
        (releaseInFlight l (releaseConfirmed l (putLabel id { l with
          confirmed := none
          inFlight := none
          item := item
          template := template
          binding := .foreign
          retry := 0
          marks := clearMarks
          oversize := false } c))))) b

/-- R60: a rebind applied at once. -/
def applyRebind (id code template : Nat) (b : Block) : Block :=
  settle id (bindToItem code id (giveUpBinding id (some code) (some template) b))

/-- R61: an unbind applied at once; a label with no bound item takes it with no change. -/
def applyUnbind (id : Nat) (b : Block) : Block :=
  withLabel id (fun l c => if l.item.isSome then settle id (giveUpBinding id none none c) else c) b

/-- R60: the template number is 0 to 31 and its display class is the label's; an UNDEFINED template has none. -/
def templateFits (b : Block) (t : Nat) (cls : DisplayClass) : Bool :=
  if h : t < 32 then
    match b.composer.templates.get ⟨t, h⟩ with
    | some d => decide (d.cls = cls)
    | none => false
  else false

/-- R61: the bound template replaced: settled, left for its outcome, or returned when FAILED with the oversize flag
and the template changed (R68). -/
def applyTemplate (id template : Nat) (b : Block) : Block :=
  withLabel id (fun l c =>
    match l.state with
    | .failed =>
      if l.oversize ∧ l.template ≠ some template then
        returnFailed id (putLabel id { l with template := some template } c)
      else putLabel id { l with template := some template } c
    | .inFlight => putLabel id { l with template := some template } c
    | .uncertain => putLabel id { l with template := some template } c
    | .unbound => settle id (putLabel id { l with template := some template } c)
    | .current => settle id (putLabel id { l with template := some template } c)
    | .stale => settle id (putLabel id { l with template := some template } c)) b

/-- R60: BIND of the item a label is bound to: a TEMPLATE record, or no change when the template is the same. -/
def applySameItem (id template : Nat) (l : Label) (b : Block) : Block :=
  if l.template = some template then b else applyTemplate id template b

/-- R61: whether the add request of a deferred bind would be taken: the item is in the table with room. -/
def itemHasRoom (b : Block) (code : Nat) : Bool :=
  match getItem b code with
  | some i => decide (i.bound.length < Config.maxBound)
  | none => false

/-- R61: a deferred bind applied: a rebind, a TEMPLATE record when the item is already the bound one (log 17), or an
unbind with BIND_DROPPED when the item or the template no longer serves. -/
def applyDeferredBind (id code template : Nat) (l : Label) (b : Block) : Block :=
  if templateFits b template l.cls then
    (if l.item = some code then settleIfSettled id (applySameItem id template l b)
     else if itemHasRoom b code then applyRebind id code template b
     else notice .bindDropped (.label id) (applyUnbind id b))
  else notice .bindDropped (.label id) (applyUnbind id b)

/-- R61: the next binding, if any, is applied and cleared. -/
def applyNext (id : Nat) (b : Block) : Block :=
  withLabel id (fun l c =>
    match l.next with
    | none => c
    | some .unbind => applyUnbind id (putLabel id { l with next := none } c)
    | some (.bind code template) =>
      applyDeferredBind id code template { l with next := none } (putLabel id { l with next := none } c)) b

/-! ## Change records of the directory (R54, R60, R61) -/

/-- R54: a LABEL change record. -/
def applyLabel (id : Nat) (cls : Coded DisplayClass) (b : Block) : Block × Verdict :=
  if id = 0 ∨ Config.max32 < id then (b, some .fieldRange)
  else
    match cls with
    | none => (b, some .fieldRange)
    | some c =>
      if (getLabel b id).isSome then (b, some .labelExists)
      else if b.labels.table.length < Config.maxLabels then (putLabel id (newLabel c) b, none)
      else (b, some .tableFull)

/-- R61: the binding a BIND or UNBIND is checked against: the stored next binding as if it had taken effect. -/
def effectiveItem (l : Label) : Option Nat :=
  match l.next with
  | some (.bind code _) => some code
  | some .unbind => none
  | none => l.item

/-- A label's record with a deferred binding stored. -/
def storeNext (id : Nat) (n : NextBinding) (b : Block) : Block := modifyLabel id (fun l => { l with next := some n }) b

/-- R60: BIND once the label, template and item are known to serve: of the item already bound, of an item with 8
labels, deferred while IN_FLIGHT, or applied. -/
def bindChecked (id code template : Nat) (l : Label) (i : Item) (b : Block) : Block × Verdict :=
  if l.state = .inFlight then
    (if effectiveItem l = some code then
      (if l.next.isSome then (storeNext id (.bind code template) b, none)
       else (applySameItem id template l b, none))
     else if (listRemove i.bound id).length < Config.maxBound then (storeNext id (.bind code template) b, none)
     else (b, some .labelLimit))
  else if l.item = some code then (applySameItem id template l b, none)
  else if i.bound.length < Config.maxBound then (applyRebind id code template b, none)
  else (b, some .labelLimit)

/-- R60: a BIND change record. -/
def applyBind (id code template : Nat) (b : Block) : Block × Verdict :=
  match getLabel b id with
  | none => (b, some .notFound)
  | some l =>
    if templateFits b template l.cls then
      match getItem b code with
      | none => (b, some .notFound)
      | some i => bindChecked id code template l i b
    else (b, some .fieldRange)

/-- R61: an UNBIND change record. -/
def applyUnbindRecord (id : Nat) (b : Block) : Block × Verdict :=
  match getLabel b id with
  | none => (b, some .notFound)
  | some l =>
    if l.state = .inFlight then
      (if l.next.isSome ∨ l.item.isSome then (storeNext id .unbind b, none) else (b, none))
    else (applyUnbind id b, none)

/-- R61: a TEMPLATE change record. -/
def applyTemplateRecord (id template : Nat) (b : Block) : Block × Verdict :=
  match getLabel b id with
  | none => (b, some .notFound)
  | some l =>
    if l.item.isSome then
      (if templateFits b template l.cls then (applyTemplate id template b, none) else (b, some .fieldRange))
    else (b, some .notFound)

/-! ## Presence (R70) -/

/-- R70: cycles from `a` on to `c`, modulo 65,536. -/
def cyclesSince (c a : Nat) : Nat := (c + 65536 - a) % 65536

/-- R70: the record of a label whose transmission is heard in cycle `c`. -/
def heardLabel (c : Nat) (l : Label) : Label :=
  if l.present then { l with heard := some c }
  else
    match l.candidate with
    | some k =>
      if cyclesSince c k ≤ 16 then { l with heard := some c, present := true, candidate := none }
      else { l with heard := some c, candidate := some c }
    | none => { l with heard := some c, candidate := some c }

/-- R70: a transmission heard from a label; one found again queues LABEL_FOUND. -/
def transmissionHeard (id : Nat) (b : Block) : Block :=
  withLabel id (fun l c =>
    (if (heardLabel c.radio.cycle l).present && !l.present then notice .labelFound (.label id) else (fun d => d))
      (putLabel id (heardLabel c.radio.cycle l) c)) b

/-- R70: whether a PRESENT label goes LOST at the beacon that begins cycle `c`. -/
def goesLost (c : Nat) (l : Label) : Bool :=
  l.present && (match l.heard with
    | some h => decide (33 ≤ cyclesSince c h)
    | none => false)

/-- R70: a found candidate cycle more than 16 cycles before `c` is cleared. -/
def clearOldCandidate (c : Nat) (l : Label) : Label :=
  match l.candidate with
  | some k => if 16 < cyclesSince c k then { l with candidate := none } else l
  | none => l

/-- R70: one label at the beacon that begins cycle `c`. -/
def presenceAtCycle (c id : Nat) (b : Block) : Block :=
  withLabel id (fun l d =>
    if goesLost c l then
      notice .labelLost (.label id)
        (putLabel id { clearOldCandidate c l with present := false, lostCount := min (l.lostCount + 1) 65535 } d)
    else putLabel id (clearOldCandidate c l) d) b

/-- R70: all labels at the beacon that begins cycle `c`, in ascending id (log 53). -/
def presenceCheck (c : Nat) (b : Block) : Block :=
  (b.labels.table.map Prod.fst).foldl (fun acc id => presenceAtCycle c id acc) b

/-! ## Outcomes and tag resolution (R65 to R69) -/

/-- R66: the record of a label whose in-flight reference is confirmed. -/
def confirmedLabel (f : InFlight) (l : Label) : Label :=
  { l with
    confirmed := some f.ref
    inFlight := none
    retry := 0
    binding := .normal
    displayKnown := (match f.kind with
      | .full => true
      | .partialUpdate => l.displayKnown) }

/-- R66: the next binding applied, then the label settled; a FAILED label is dealt with by R69. -/
def endTransaction (id : Nat) (b : Block) : Block :=
  withLabel id (fun l c => if l.state = .failed then c else settle id (applyNext id c)) b

/-- R66: the in-flight reference is confirmed. -/
def confirmInFlight (id : Nat) (f : InFlight) (b : Block) : Block :=
  withLabel id (fun l c => endTransaction id (releaseConfirmed l (putLabel id (confirmedLabel f l) c))) b

/-- R65: the check value reported, if any, equals a reference's. -/
def checkMatches (check : Option Nat) (r : LabelRef) : Bool :=
  match check with
  | some c => decide (c = r.check)
  | none => true

/-- R65: whether a report matches the in-flight reference. -/
def reportsInFlight (tag : Nat) (check : Option Nat) (l : Label) : Option InFlight :=
  match l.inFlight with
  | some f => if decide (f.ref.tag = tag) && checkMatches check f.ref then some f else none
  | none => none

/-- R65: whether a report matches the confirmed tag and check value. -/
def reportsConfirmed (tag : Nat) (check : Option Nat) (l : Label) : Bool :=
  decide (tag = confirmedTag l) &&
    (match l.confirmed with
     | some r => checkMatches check r
     | none => true)

/-- R65: a report resolved against the record as it stands. A label with no bound item and no in-flight reference
has nothing to give up and nothing to draw: its display becomes UNKNOWN and nothing else changes (log 16). -/
def resolveReport (id tag : Nat) (check : Option Nat) (b : Block) : Block :=
  withLabel id (fun l c =>
    match reportsInFlight tag check l with
    | some f => confirmInFlight id f c
    | none =>
      if reportsConfirmed tag check l then
        (if l.inFlight.isSome then endTransaction id (dropInFlight id c)
         else if l.state = .uncertain then endTransaction id c
         else c)
      else if l.item.isNone ∧ l.inFlight.isNone then putLabel id { l with displayKnown := false } c
      else endTransaction id (dropBoth id c)) b

/-- R56: the target a label should show is computed and stored. -/
def storeTarget (id : Nat) (b : Block) : Block := withLabel id (fun l c => putLabel id { l with target := targetOf c l } c) b

/-- R68: a label becomes FAILED, leaves its queue, and LABEL_FAILED is queued. -/
def becomeFailed (id : Nat) (b : Block) : Block :=
  notice .labelFailed (.label id) (modifyLabel id (fun l => { l with state := .failed, queued := none }) b)

/-- R67, R68: a retry count after a rise, up to 8. -/
def raisedRetry (l : Label) : Nat := min (l.retry + 1) 8

/-- R68: a rise has brought the retry count to the retry limit. -/
def atRetryLimit (b : Block) (l : Label) : Bool := decide (b.radio.settings.retryLimit ≤ l.retry)

/-- R66: an ACK outcome. -/
def outcomeAck (id tag : Nat) (b : Block) : Block :=
  withLabel id (fun l c =>
    if l.state = .inFlight then
      match l.inFlight with
      | some f => if f.ref.tag = tag then confirmInFlight id f c else resolveReport id tag none c
      | none => resolveReport id tag none c
    else bump .lateOutcome c) b

/-- R67: a NAK_BASE outcome. -/
def outcomeNakBase (id : Nat) (b : Block) : Block :=
  withLabel id (fun l c =>
    if l.state = .inFlight then
      settle id (applyNext id (modifyLabel id (fun m => { m with marks := { m.marks with fullRequired := true } })
        (dropInFlight id c)))
    else bump .lateOutcome c) b

/-- R56, R67: a label after a NAK_CHECK's rise: FAILED at the limit, its target stored and its next binding applied, or
settled after it. -/
def afterNakCheck (id : Nat) (b : Block) : Block :=
  withLabel id (fun l c =>
    if atRetryLimit c l then applyNext id (becomeFailed id (storeTarget id c)) else settle id (applyNext id c)) b

/-- R67: a NAK_CHECK outcome. -/
def outcomeNakCheck (id : Nat) (b : Block) : Block :=
  withLabel id (fun l c =>
    if l.state = .inFlight then
      afterNakCheck id (modifyLabel id (fun m => { m with retry := raisedRetry m }) (dropInFlight id c))
    else bump .lateOutcome c) b

/-- R68: a label after a NO_REPLY's rise: FAILED at the limit, else UNCERTAIN and queued. -/
def afterNoReply (id : Nat) (b : Block) : Block :=
  withLabel id (fun l c => if atRetryLimit c l then becomeFailed id c else becomeUncertain id c) b

/-- R56, R68: a NO_REPLY outcome to an update: the count rises, the target is stored, then the state and the next
binding. -/
def outcomeNoReply (id : Nat) (b : Block) : Block :=
  withLabel id (fun l c =>
    if l.state = .inFlight then
      applyNext id (afterNoReply id (storeTarget id (putLabel id { l with retry := raisedRetry l } c)))
    else bump .lateOutcome c) b

/-- R56, R59, R68: a NO_REPLY to a QUERY: the count rises and the target is stored; below the limit the label stays
UNCERTAIN and queued, its class computed again. -/
def outcomeQueryNoReply (id : Nat) (b : Block) : Block :=
  withLabel id (fun l c =>
    if l.state = .uncertain then afterNoReply id (storeTarget id (putLabel id { l with retry := raisedRetry l } c))
    else bump .lateOutcome c) b

/-- R56, R68: a report that answers a QUERY: resolved by R65; a FAILED label that it changed is retargeted by R62, its
state apart (log 59). -/
def outcomeReport (id tag : Nat) (b : Block) : Block :=
  withLabel id (fun l c =>
    if l.state = .failed ∧ (l.inFlight.isSome = true ∨ reportsConfirmed tag none l = false) then
      retargetLabel id (resolveReport id tag none c)
    else resolveReport id tag none c) b

/-- R69: steps 3 and 4 of a check-in: the report resolved, except that an IN_FLIGHT label is only confirmed by its
own tag; a label FAILED without the oversize flag returns. -/
def checkInReport (id tag check : Nat) (b : Block) : Block :=
  withLabel id (fun l c =>
    match l.state with
    | .inFlight =>
      match reportsInFlight tag (some check) l with
      | some f => confirmInFlight id f c
      | none => c
    | .failed => if l.oversize then resolveReport id tag (some check) c
                 else returnFailed id (resolveReport id tag (some check) c)
    | .unbound => resolveReport id tag (some check) c
    | .current => resolveReport id tag (some check) c
    | .stale => resolveReport id tag (some check) c
    | .uncertain => resolveReport id tag (some check) c) b

/-- R69: a check-in of a known label. The battery level is stored as it comes, one above the 15 of R53 too (log 62). -/
def takeCheckIn (id tag battery check : Nat) (b : Block) : Block :=
  checkInReport id tag check
    (modifyLabel id (fun l => { l with battery := some battery }) (transmissionHeard id b))

/-! ## FORCE_LABEL (R71) -/

/-- R71: the record of a label with the three marks set, the oversize flag clear and the retry count 0. -/
def forcedLabel (l : Label) : Label := { l with marks := Marks.mk true true true, oversize := false, retry := 0 }

/-- R71: what FORCE_LABEL does with a label it serves, by its state. -/
def forceLabel (id : Nat) (l : Label) (b : Block) : Block :=
  match l.state with
  | .failed => returnFailed id (putLabel id (forcedLabel l) b)
  | .inFlight => putLabel id (forcedLabel l) b
  | .uncertain => enqueue id (putLabel id (forcedLabel l) b)
  | .unbound => settle id (putLabel id (forcedLabel l) b)
  | .current => settle id (putLabel id (forcedLabel l) b)
  | .stale => settle id (putLabel id (forcedLabel l) b)

/-- R71: the FORCE_LABEL command; a label id out of range is FIELD_RANGE (R188). -/
def applyForce (id : Nat) (b : Block) : Block × ReplyBody :=
  if id = 0 ∨ Config.max32 < id then (b, .refusal .fieldRange none)
  else
    match getLabel b id with
    | none => (b, .refusal .notFound none)
    | some l =>
      if l.item.isNone ∧ l.binding = .normal then (b, .refusal .notFound none)
      else (forceLabel id l b, .done)

/-! ## Warm restart (R74) -/

/-- R74: a label that was IN_FLIGHT: its transaction ends as a NO_REPLY without a rise, then its next binding. Its stored
target stays and gives its class: this NO_REPLY is not taken as an outcome of R56 (log 61). -/
def restartLabel (id : Nat) (b : Block) : Block :=
  withLabel id (fun l c => if l.state = .inFlight then applyNext id (becomeUncertain id c) else c) b

/-- R74: every record takes the cycle number after the restart as last heard, and no found candidate. -/
def restartPresence (cycle : Nat) (b : Block) : Block :=
  { b with labels := { b.labels with
      table := tableMapValues b.labels.table (fun l => { l with heard := some cycle, candidate := none }) } }

/-- R74: a sweep in progress begins again at the head of its list. -/
def restartSweep (b : Block) : Block :=
  { b with labels := { b.labels with sweep := b.labels.sweep.map (fun w => { w with cursor := 0 }) } }

/-- R74: the label directory at a warm restart, `cycle` being the cycle number after it (R107); the labels that were
IN_FLIGHT are taken in ascending id (log 53). -/
def warmDirectory (cycle : Nat) (b : Block) : Block :=
  restartSweep (restartPresence cycle ((b.labels.table.map Prod.fst).foldl (fun acc id => restartLabel id acc) b))

end Sys2Proof.Machine
end

