-- ==== Sys2Proof/Machine/Composer.lean ====
section
/-! DEFINITION. The image composer (file 05): laying out texts, the window cursor, drawing, the choice of FULL or
PARTIAL, run-length coding, and the coded update. Nothing here changes the part but the last section, the writes of
templates, fonts and glyphs. -/

namespace Sys2Proof.Machine

/-! ## Laying out a text (R80) -/

/-- R78: the glyph of a character in a font. -/
def glyphOf (c : ComposerBlock) (font : Fin 4) (ch : Nat) : Glyph :=
  if h : ch - 32 < 96 then c.glyphs.get ⟨font.val * 96 + (ch - 32), by omega⟩ else defaultGlyph

/-- R80: the width of a line of glyphs: their widths and one clear column between each and the next. -/
def lineWidth (gs : List Glyph) : Nat := (gs.map Glyph.width).sum + (gs.length - 1)

/-- R80: the longest line of at most `n` leading glyphs that fits a fast extent. -/
def fitFrom (gs : List Glyph) (extent : Nat) : Nat → List Glyph
  | 0 => []
  | n + 1 => if lineWidth (gs.take (n + 1)) ≤ extent then gs.take (n + 1) else fitFrom gs extent n

/-- R80: a line with glyphs dropped from its end until it fits. -/
def fitLine (gs : List Glyph) (extent : Nat) : List Glyph := fitFrom gs extent gs.length

/-- R80: where a line of width `w` begins in a fast extent. -/
def lineStart (a : Alignment) (extent w : Nat) : Nat :=
  match a with
  | .left => 0
  | .right => extent - w
  | .centre => (extent - w) / 2

/-- A pixel of a glyph's pattern. -/
def glyphPixel (g : Glyph) (row col : Nat) : Bool := ((g.pattern.getD row []).getD col false)

/-- The pixel of a laid-out line at a row and a column, the clear columns between glyphs included. -/
def linePixel : List Glyph → Nat → Nat → Bool
  | [], _, _ => false
  | g :: rest, row, col =>
    if col < g.width then glyphPixel g row col
    else if col = g.width then false
    else linePixel rest row (col - g.width - 1)

/-! ## The window cursor (R81) -/

/-- R81: the length of a field's window along its fast axis. -/
def fastExtent (f : TemplateField) : Nat :=
  match f.orientation with
  | .deg0 => f.xEnd - f.xStart + 1
  | .deg180 => f.xEnd - f.xStart + 1
  | .deg90 => f.yEnd - f.yStart + 1
  | .deg270 => f.yEnd - f.yStart + 1

/-- R81: the length of a field's window along its slow axis. -/
def slowExtent (f : TemplateField) : Nat :=
  match f.orientation with
  | .deg0 => f.yEnd - f.yStart + 1
  | .deg180 => f.yEnd - f.yStart + 1
  | .deg90 => f.xEnd - f.xStart + 1
  | .deg270 => f.xEnd - f.xStart + 1

/-- R81: the image pixel the cursor writes at fast position `i` and slow line `j`. -/
def cursorPixel (f : TemplateField) (i j : Nat) : Nat × Nat :=
  match f.orientation with
  | .deg0 => (f.xStart + i, f.yStart + j)
  | .deg180 => (f.xEnd - i, f.yEnd - j)
  | .deg90 => (f.xEnd - j, f.yStart + i)
  | .deg270 => (f.xStart + j, f.yEnd - i)

/-- The fast position and slow line at which the cursor writes an image pixel of the window: `cursorPixel` read
backwards. -/
def cursorPosition (f : TemplateField) (x y : Nat) : Nat × Nat :=
  match f.orientation with
  | .deg0 => (x - f.xStart, y - f.yStart)
  | .deg180 => (f.xEnd - x, f.yEnd - y)
  | .deg90 => (y - f.yStart, f.xEnd - x)
  | .deg270 => (f.yEnd - y, x - f.xStart)

/-- Whether an image pixel lies in a field's window. -/
def inWindow (f : TemplateField) (x y : Nat) : Bool :=
  decide (f.xStart ≤ x) && decide (x ≤ f.xEnd) && decide (f.yStart ≤ y) && decide (y ≤ f.yEnd)

/-! ## Drawing (R82) -/

/-- A field with its text laid out. -/
structure LaidField where
  field : TemplateField
  line : List Glyph
  start : Nat
  width : Nat
  height : Nat
  truncated : Bool
  deriving DecidableEq, Repr

/-- R80, R81: a field's text laid out in its window. An empty text loses nothing, however high its font (log 54). -/
def layField (c : ComposerBlock) (f : TemplateField) (text : Text) : LaidField where
  field := f
  line := fitLine (text.map (glyphOf c f.font)) (fastExtent f)
  start := lineStart f.alignment (fastExtent f) (lineWidth (fitLine (text.map (glyphOf c f.font)) (fastExtent f)))
  width := lineWidth (fitLine (text.map (glyphOf c f.font)) (fastExtent f))
  height := c.fonts.get f.font
  truncated :=
    decide ((fitLine (text.map (glyphOf c f.font)) (fastExtent f)).length < text.length)
      || (!text.isEmpty && decide (slowExtent f < c.fonts.get f.font))

/-- R81: what a laid-out line shows at a fast position of slow line `j`: its pixel, or clear beside it. -/
def fieldInk (l : LaidField) (i j : Nat) : Bool :=
  decide (l.start ≤ i) && decide (i < l.start + l.width) && linePixel l.line j (i - l.start)

/-- R81: what a field writes to an image pixel: `none` where it writes nothing. -/
def fieldWrites (l : LaidField) (x y : Nat) : Option Bool :=
  if inWindow l.field x y && !l.line.isEmpty && decide ((cursorPosition l.field x y).2 < l.height) then
    some (fieldInk l (cursorPosition l.field x y).1 (cursorPosition l.field x y).2)
  else none

/-- A pixel of the two planes. -/
structure Pixel where
  black : Bool
  accent : Bool
  deriving DecidableEq, Repr

/-- R82: a pixel after one field. -/
def drawPixel (x y : Nat) (p : Pixel) (l : LaidField) : Pixel :=
  match fieldWrites l x y with
  | none => p
  | some false => Pixel.mk false false
  | some true =>
    match l.field.plane with
    | .black => Pixel.mk true false
    | .accent => Pixel.mk false true

/-- R82: a pixel of the image: the fields drawn in template order over a clear image. -/
def imagePixel (fields : List LaidField) (x y : Nat) : Pixel := fields.foldl (drawPixel x y) (Pixel.mk false false)

/-- A pixel's value in a plane. -/
def planeValue (p : Plane) (px : Pixel) : Bool :=
  match p with
  | .black => px.black
  | .accent => px.accent

/-! ## Run-length coding (R85) -/

/-- R85: the byte of a run. -/
def runByte (v : Bool) (n : Nat) : Byte := BitVec.ofNat 8 ((if v then 128 else 0) + (n - 1))

/-- R85: the runs of a sequence of pixels, `n` pixels of value `v` standing before it. -/
def codeFrom (v : Bool) (n : Nat) : List Bool → List Byte
  | [] => [runByte v n]
  | p :: rest => if p = v ∧ n < 128 then codeFrom v (n + 1) rest else runByte v n :: codeFrom p 1 rest

/-- R85: the runs of a sequence of pixels. -/
def codeRuns : List Bool → List Byte
  | [] => []
  | p :: rest => codeFrom p 1 rest

/-- R85: the pixels of a region in scanning order. -/
def regionPixels (fields : List LaidField) (plane : Plane) (x0 x1 y0 y1 : Nat) : List Bool :=
  (List.range (y1 - y0 + 1)).flatMap (fun r =>
    (List.range (x1 - x0 + 1)).map (fun c => planeValue plane (imagePixel fields (x0 + c) (y0 + r))))

/-- R85: the runs of a region, the planes one after the other, black first. -/
def regionRuns (fields : List LaidField) (planes x0 x1 y0 y1 : Nat) : List Byte :=
  codeRuns (regionPixels fields .black x0 x1 y0 y1)
    ++ (if planes = 2 then codeRuns (regionPixels fields .accent x0 x1 y0 y1) else [])

/-! ## Coded updates (R86, R87) -/

/-- The two bytes of a field of two bytes, most significant first (R192). -/
def twoBytes (n : Nat) : List Byte := [BitVec.ofNat 8 (n / 256), BitVec.ofNat 8 n]

/-- R192: the header of a window. -/
def windowHeader (f : TemplateField) : List Byte :=
  twoBytes f.xStart ++ twoBytes f.xEnd ++ [BitVec.ofNat 8 f.yStart, BitVec.ofNat 8 f.yEnd]

/-- A composed update, before a tag is issued for it. -/
structure Composed where
  kind : UpdateKind
  cls : DisplayClass
  planes : Nat
  windows : Nat
  truncated : Bool
  content : List Byte
  deriving DecidableEq, Repr

/-- R86: the coded length. -/
def codedLength (u : Composed) : Nat := 8 + u.content.length

/-- R87: the fragment count. -/
def fragmentCount (u : Composed) : Nat := (codedLength u + 63) / 64

/-- R86: the check value. -/
def checkValue (u : Composed) : Nat := (u.content.map BitVec.toNat).sum % 65536

/-- R192: the code of an update kind in bits 7 and 6 of the image header, that of the ANNOUNCE (log 37). -/
def kindCode : UpdateKind → Nat
  | .full => 1
  | .partialUpdate => 2

/-- The argument of `Config.classCode` for a display class (log 36). -/
def classNumber : DisplayClass → Fin 3
  | .small => 0
  | .medium => 1
  | .large => 2

/-- R192: byte 0 of the image header; its bits 2 and 1, to which R192 gives no meaning, are sent as 0 (log 66). -/
def headerByte (u : Composed) : Byte :=
  BitVec.ofNat 8 (kindCode u.kind * 64 + (Config.classCode (classNumber u.cls)).val * 16
    + (if u.planes = 2 then 8 else 0) + (if u.truncated then 1 else 0))

/-- R86, R192: the image header. -/
def imageHeader (u : Composed) (newTag baseTag : Nat) : List Byte :=
  [headerByte u, BitVec.ofNat 8 newTag, BitVec.ofNat 8 baseTag, BitVec.ofNat 8 u.windows]
    ++ twoBytes (checkValue u) ++ twoBytes (codedLength u)

/-- R86: the coded update. -/
def codedUpdate (u : Composed) (newTag baseTag : Nat) : List Byte := imageHeader u newTag baseTag ++ u.content

/-- R97: the fragments of a coded update: 64 bytes each, the last carrying the rest. -/
def fragmentsOf (bytes : List Byte) (n : Nat) : List (List Byte) :=
  (List.range n).map (fun k => (bytes.drop (k * 64)).take 64)

/-! ## Composition (R79, R83, R84, R88) -/

/-- R79: the text of a field of a version, empty when the version is not in the table. -/
def versionText (b : Block) (code : Nat) (v : Option Version) (s : FieldSource) : Text :=
  match v with
  | some w => fieldText b.price code w s
  | none => []

/-- The template a label is composed with: the bound one; a label bound with none or with an UNDEFINED one, which no
run reaches, is drawn without fields. -/
def boundTemplate (b : Block) (l : Label) : Template :=
  match l.template with
  | none => Template.mk l.cls 1 []
  | some t =>
    if h : t < 32 then (b.composer.templates.get ⟨t, h⟩).getD (Template.mk l.cls 1 []) else Template.mk l.cls 1 []

/-- R82: the laid-out fields of a template for a version. -/
def layTemplate (b : Block) (t : Template) (code : Nat) (v : Option Version) : List LaidField :=
  t.fields.map (fun f => layField b.composer f (versionText b code v f.source))

/-- R82: the FULL update of laid-out fields. -/
def composeFull (cls : DisplayClass) (planes : Nat) (fields : List LaidField) : Composed where
  kind := .full
  cls := cls
  planes := planes
  windows := 0
  truncated := fields.any LaidField.truncated
  content := regionRuns fields planes 0 (classWidth cls - 1) 0 (classHeight cls - 1)

/-- R84: one window of a PARTIAL update. -/
def partialWindow (fields : List LaidField) (planes : Nat) (f : TemplateField) : List Byte :=
  windowHeader f ++ regionRuns fields planes f.xStart f.xEnd f.yStart f.yEnd

/-- R84: the PARTIAL update of laid-out fields over the fields that differ. -/
def composePartial (cls : DisplayClass) (planes : Nat) (fields : List LaidField) (differing : List TemplateField) :
    Composed where
  kind := .partialUpdate
  cls := cls
  planes := planes
  windows := differing.length
  truncated := fields.any LaidField.truncated
  content := differing.flatMap (partialWindow fields planes)

/-- R79: the BLANK image: no fields, of the label's display class, in one plane. -/
def composeBlank (cls : DisplayClass) : Composed := composeFull cls 1 []

/-- R84: the fields of a template that render differently between two versions of an item. -/
def differingFields (b : Block) (t : Template) (code : Nat) (old new : Option Version) : List TemplateField :=
  t.fields.filter (fun f => decide (versionText b code old f.source ≠ versionText b code new f.source))

/-- R83: conditions 3 and 4: the confirmed reference is a version of the item, drawn with the bound template; the
version it names. -/
def confirmedVersion (b : Block) (l : Label) (code : Nat) : Option (Option Version) :=
  match l.confirmed with
  | none => none
  | some r =>
    match r.what with
    | .blank => none
    | .version c k number t =>
      if c = code ∧ l.template = some t then some (namedVersion b c k number) else none

/-- R83: conditions 1, 2, 5 and 6. -/
def partialAllowed (b : Block) (id : Nat) (l : Label) : Bool :=
  l.displayKnown && l.inFlight.isNone && !l.marks.redraw && !l.marks.force && !l.marks.fullRequired
    && b.composer.style.contains id

/-- R83: the fields of a PARTIAL update, when one is chosen. -/
def partialFields (b : Block) (id : Nat) (l : Label) (code : Nat) (target : Option Version) :
    Option (List TemplateField) :=
  if partialAllowed b id l then
    match confirmedVersion b l code with
    | none => none
    | some old =>
      if (differingFields b (boundTemplate b l) code old target).length ≤ 4 then
        some (differingFields b (boundTemplate b l) code old target)
      else none
  else none

/-- R87: a FULL update, or OVERSIZE when it takes more than 96 fragments. -/
def notOversize (u : Composed) : Option Composed := if fragmentCount u ≤ Config.maxFragments then some u else none

/-- R83, R87: a PARTIAL update where one is chosen and takes at most 96 fragments, else the FULL one; none is
OVERSIZE. -/
def chooseUpdate (full : Composed) : Option Composed → Option Composed
  | none => notOversize full
  | some p => if fragmentCount p ≤ Config.maxFragments then some p else notOversize full

/-- R88: a composition for a version target. -/
def composeVersion (b : Block) (id : Nat) (l : Label) (code : Nat) (v : Option Version) : Option Composed :=
  chooseUpdate
    (composeFull (boundTemplate b l).cls (boundTemplate b l).planes (layTemplate b (boundTemplate b l) code v))
    ((partialFields b id l code v).map
      (composePartial (boundTemplate b l).cls (boundTemplate b l).planes (layTemplate b (boundTemplate b l) code v)))

/-- R88: the composition for a label's target; none is OVERSIZE. -/
def compose (b : Block) (id : Nat) (l : Label) : Target → Option Composed
  | .blank => notOversize (composeBlank l.cls)
  | .version code k number => composeVersion b id l code (namedVersion b code k number)

/-! ## Writes of templates, fonts and glyphs (R76, R77, R78, R89) -/

/-- R76: no label bound with the template has another display class, and none is bound when it becomes UNDEFINED. -/
def templateServes (b : Block) (t : Nat) (d : Option Template) : Bool :=
  b.labels.table.all (fun p =>
    decide (p.2.template ≠ some t) || (match d with
      | some x => decide (x.cls = p.2.cls)
      | none => false))

/-- R76, R77: a write of a template record: replaced and handed to the label directory, or FIELD_RANGE. -/
def applyTemplateWrite (t : Fin 32) (w : TemplateWrite) (b : Block) : Block × Verdict :=
  match checkTemplate w with
  | none => (b, some .fieldRange)
  | some d =>
    if templateServes b t.val d then
      ({ b with
          composer := { b.composer with templates := b.composer.templates.set t d }
          labels := { b.labels with templateHandoffs := b.labels.templateHandoffs ++ [t.val] } }, none)
    else (b, some .fieldRange)

/-- R89: the current-style set emptied. -/
def emptyStyle (b : Block) : Block := { b with composer := { b.composer with style := [] } }

/-- R78: a write of a font's height. -/
def applyFontWrite (f : Fin 4) (height : Nat) (b : Block) : Block × Verdict :=
  if within 8 48 height then
    (emptyStyle { b with composer := { b.composer with fonts := b.composer.fonts.set f height } }, none)
  else (b, some .fieldRange)

/-- R78: a write of a glyph. -/
def applyGlyphWrite (g : Fin 384) (w : GlyphWrite) (b : Block) : Block × Verdict :=
  match checkGlyph w with
  | none => (b, some .fieldRange)
  | some x => (emptyStyle { b with composer := { b.composer with glyphs := b.composer.glyphs.set g x } }, none)

end Sys2Proof.Machine
end

