-- ==== Sys2Proof/Machine/Radio.lean ====
section
/-! DEFINITION. The radio scheduler (file 06): beacons, selection at a slot start, transactions, replies, check-ins and
the radio settings. -/

namespace Sys2Proof.Machine

/-! ## Transactions (R97, R99) -/

/-- Whether a reply window is open: the cursor stands on an entry of the plan (log 35). -/
def replyWindowOpen (b : Block) : Bool := decide (b.radio.cursor < b.radio.plan.length)

/-- The plan entry at the cursor. -/
def currentEntry (b : Block) : Option PlanEntry := b.radio.plan[b.radio.cursor]?

/-- R97: the coded update of a label in the composition buffer. -/
def bufferedBytes (b : Block) (id : Nat) : List Byte :=
  match b.composer.buffer.find? (fun u => decide (u.label = id)) with
  | some u => u.bytes
  | none => []

/-- R97: the fragments of an entry are sent, numbered from 0. -/
def sendFragments (channel k : Nat) : List (List Byte) → Block → Block
  | [], b => b
  | bytes :: rest, b => sendFragments channel (k + 1) rest (bump .fragmentsSent (emit (.fragment channel k bytes) b))

/-- R106: the counter of a transaction carried out. -/
def sentCounter : EntryKind → Counter
  | .full => .updatesSent
  | .partialUpdate => .updatesSent
  | .query => .queriesSent

/-- R97: a transaction is begun: the ANNOUNCE and the fragments go out and the reply window opens (log 19). -/
def beginEntry (e : PlanEntry) (b : Block) : Block :=
  sendFragments b.radio.channel 0 (fragmentsOf (bufferedBytes b e.label) e.fragments)
    (bump (sentCounter e.kind)
      (emit (.announce b.radio.channel e.label e.kind e.newTag e.baseTag e.fragments) b))

/-- R97: the transaction of the entry at the cursor is begun, if there is one. -/
def beginTransaction (b : Block) : Block :=
  match currentEntry b with
  | some e => beginEntry e b
  | none => b

/-- R99: the outcome of a reply. -/
def replyOutcome : RadioReply → RadioOutcome
  | .ack tag => .ack tag
  | .nakBase => .nakBase
  | .nakCheck => .nakCheck
  | .report tag => .report tag

/-- R99: the outcome of a window: that of the reply taken, NO_REPLY when none was. -/
def windowOutcome (taken : Option RadioReply) : RadioOutcome :=
  match taken with
  | some r => replyOutcome r
  | none => .noReply

/-- R99: an outcome at the label directory; every one but NO_REPLY is a transmission heard (R70). -/
def handOutcome (e : PlanEntry) (o : RadioOutcome) (b : Block) : Block :=
  match o with
  | .ack tag => outcomeAck e.label tag (transmissionHeard e.label b)
  | .nakBase => outcomeNakBase e.label (transmissionHeard e.label b)
  | .nakCheck => outcomeNakCheck e.label (transmissionHeard e.label b)
  | .report tag => outcomeReport e.label tag (transmissionHeard e.label b)
  | .noReply =>
    match e.kind with
    | .query => outcomeQueryNoReply e.label (bump .noReplyCount b)
    | .full => outcomeNoReply e.label (bump .noReplyCount b)
    | .partialUpdate => outcomeNoReply e.label (bump .noReplyCount b)

/-- R96: the entry at the cursor records its outcome, and the cursor moves on with no reply taken yet. -/
def recordOutcome (o : RadioOutcome) (b : Block) : Block :=
  { b with radio := { b.radio with
      plan := b.radio.plan.modify b.radio.cursor (fun e => { e with outcome := some o })
      cursor := b.radio.cursor + 1
      taken := none } }

/-- R97, R99: the reply window closes: the outcome is handed on and recorded, without the next transaction. -/
def closeWindow (b : Block) : Block :=
  match currentEntry b with
  | some e => recordOutcome (windowOutcome b.radio.taken) (handOutcome e (windowOutcome b.radio.taken) b)
  | none => b

/-- R97: REPLY_WINDOW_CLOSE: the window closes and the next transaction is begun. Without an open window there is no
such event. -/
def replyWindowClose (b : Block) : Block := if replyWindowOpen b then beginTransaction (closeWindow b) else b

/-! ## Replies (R99, R100) -/

/-- R99: whether a reply kind belongs to an entry's kind. -/
def replyBelongs : EntryKind → RadioReply → Bool
  | .query, .report _ => true
  | .query, .ack _ => false
  | .query, .nakBase => false
  | .query, .nakCheck => false
  | .full, .report _ => false
  | .partialUpdate, .report _ => false
  | _, _ => true

/-- R99, R100: a sound transmission in the window of an entry. -/
def takeReply (e : PlanEntry) (t : ReplyTransmission) (b : Block) : Block :=
  if e.label = t.label ∧ replyBelongs e.kind t.reply = true then
    (if b.radio.taken.isNone then { b with radio := { b.radio with taken := some t.reply } }
     else bump .duplicateReply b)
  else bump .strayReply b

/-- R99, R100: LABEL_REPLY. A transmission that fails its integrity check is counted in REPLY_ERROR wherever it
arrives (log 20). -/
def labelReply (t : ReplyTransmission) (b : Block) : Block :=
  if t.sound then
    match currentEntry b with
    | some e => takeReply e t b
    | none => bump .strayReply b
  else bump .replyError b

/-- R102, R103: CHECK_IN, due by schedule or a wake check-in. -/
def radioCheckIn (c : CheckIn) (b : Block) : Block :=
  if c.sound then
    (if (getLabel b c.label).isSome then takeCheckIn c.label c.tag c.battery c.check b else bump .unknownLabel b)
  else bump .replyError b

/-! ## Selection at a slot start (R63, R93, R94, R95) -/

/-- The walk over a queue: the part as it stands, the remaining budget and the plan so far. -/
structure Walk where
  block : Block
  remaining : Nat
  plan : List PlanEntry
  deriving DecidableEq, Repr

/-- R63: the tag after `last`, 1 after 255. -/
def tagAfter (last : Nat) : Nat := if 255 ≤ last then 1 else last + 1

/-- R63: the tag issued to a label: the one after the last issued, or the one after that if it is the confirmed
tag. -/
def issueTag (l : Label) : Nat :=
  if l.confirmed.isSome ∧ tagAfter l.lastTag = confirmedTag l then tagAfter (tagAfter l.lastTag) else tagAfter l.lastTag

/-- R63: what an in-flight reference names, from the target and the bound template. -/
def refOfTarget (l : Label) : Target → RefWhat
  | .blank => .blank
  | .version code k number => .version code k number (l.template.getD 0)

/-- R63: the take reference of a version target. -/
def takeTarget (t : Target) (b : Block) : Block :=
  match t with
  | .blank => b
  | .version code k number => takeReference code k number b

/-- R63: which marks an update's selection clears, as the in-flight reference records them. -/
def carriedMarks (k : UpdateKind) (m : Marks) : Marks :=
  match k with
  | .full => m
  | .partialUpdate => Marks.mk m.redraw m.force false

/-- R63: the marks left after selection. -/
def marksAfter (k : UpdateKind) (m : Marks) : Marks :=
  match k with
  | .full => clearMarks
  | .partialUpdate => Marks.mk false false m.fullRequired

/-- R63: the record of a label selected for an update. -/
def selectedLabel (u : Composed) (t : Target) (l : Label) : Label :=
  { l with
    lastTag := issueTag l
    inFlight := some (InFlight.mk (LabelRef.mk (refOfTarget l t) (issueTag l) (checkValue u)) u.kind
      (carriedMarks u.kind l.marks))
    marks := marksAfter u.kind l.marks
    state := .inFlight
    queued := none }

/-- R86: the base tag of an update: the confirmed tag for a PARTIAL, 0 for a FULL. -/
def baseTagOf (u : Composed) (l : Label) : Nat :=
  match u.kind with
  | .full => 0
  | .partialUpdate => confirmedTag l

/-- R96: the kind of an update's plan entry. -/
def entryKindOf : UpdateKind → EntryKind
  | .full => .full
  | .partialUpdate => .partialUpdate

/-- R89: a FULL update that is not BLANK puts its label into the current-style set. -/
def joinStyle (id : Nat) (u : Composed) (t : Target) (b : Block) : Block :=
  match u.kind, t with
  | .full, .version _ _ _ => { b with composer := { b.composer with style := setAdd b.composer.style id } }
  | .full, .blank => b
  | .partialUpdate, _ => b

/-- R88: the coded update of a selected label stays in the composition buffer. -/
def bufferUpdate (id : Nat) (bytes : List Byte) (b : Block) : Block :=
  { b with composer := { b.composer with buffer := b.composer.buffer ++ [BufferedUpdate.mk id bytes] } }

/-- R82: the count and the notice of a selected update with the TRUNCATED flag. -/
def noteTruncated (id : Nat) (u : Composed) (b : Block) : Block :=
  if u.truncated then notice .labelTruncated (.label id) (bump .truncatedCount b) else b

/-- R63, R88: a label is selected for an update. -/
def selectUpdate (id : Nat) (l : Label) (t : Target) (u : Composed) (b : Block) : Block :=
  noteTruncated id u (bufferUpdate id (codedUpdate u (issueTag l) (baseTagOf u l))
    (joinStyle id u t (putLabel id (selectedLabel u t l) (takeTarget t b))))

/-- R96: the plan entry of a selected update. -/
def updateEntry (id : Nat) (l : Label) (u : Composed) : PlanEntry :=
  PlanEntry.mk id (entryKindOf u.kind) (issueTag l) (baseTagOf u l) (fragmentCount u) none

/-- R96: the plan entry of a QUERY. -/
def queryEntry (id : Nat) : PlanEntry := PlanEntry.mk id .query 0 0 0 none

/-- R63, R87: a label whose update is OVERSIZE: it leaves its queue and becomes FAILED with the oversize flag. -/
def becomeOversize (id : Nat) (b : Block) : Block :=
  notice .labelOversize (.label id) (bump .oversizeCount
    (modifyLabel id (fun l => { l with state := .failed, oversize := true, queued := none }) b))

/-- R63, R95: a STALE label whose target stands. -/
def walkUpdate (id : Nat) (l : Label) (t : Target) (w : Walk) : Walk :=
  match compose w.block id l t with
  | none => { w with block := becomeOversize id w.block }
  | some u =>
    if fragmentCount u ≤ w.remaining then
      Walk.mk (selectUpdate id l t u w.block) (w.remaining - fragmentCount u) (w.plan ++ [updateEntry id l u])
    else w

/-- R63: a label declined because its target changed: the target is stored and the class computed again. -/
def walkDecline (id : Nat) (l : Label) (w : Walk) : Walk :=
  { w with block := enqueue id (putLabel id { l with target := targetOf w.block l } w.block) }

/-- R63, R95: a STALE label reached in the walk. A STALE label without a target, which no run reaches, is declined
(log 21). -/
def walkStale (id : Nat) (l : Label) (w : Walk) : Walk :=
  if targetOf w.block l = l.target then
    match l.target with
    | some t => walkUpdate id l t w
    | none => w
  else walkDecline id l w

/-- R95: one label reached in the walk. -/
def walkReach (id : Nat) (w : Walk) : Walk :=
  match getLabel w.block id with
  | none => w
  | some l =>
    match l.state with
    | .stale => walkStale id l w
    | .uncertain => Walk.mk w.block (w.remaining - 1) (w.plan ++ [queryEntry id])
    | .unbound => w
    | .current => w
    | .inFlight => w
    | .failed => w

/-- R94: the walk over a queue stops at its end, at 16 labels selected, or at a remaining budget of 0. -/
def walkQueue : List Nat → Walk → Walk
  | [], w => w
  | id :: rest, w =>
    if w.remaining = 0 ∨ Config.maxSelected ≤ w.plan.length then w else walkQueue rest (walkReach id w)

/-- R93: the budget of a slot that starts in a mode. -/
def slotBudget (r : RadioSettings) : Mode → Nat
  | .trading => r.tradingBudget
  | .closing => r.tradingBudget
  | .closed => r.closedBudget

/-! ## The beacon (R90) -/

/-- R96, log 18: the transactions of the slot before end before its successor's beacon; a window still open is closed
without a further reply. `fuel` is the number of entries left. -/
def closeRest : Nat → Block → Block
  | 0, b => b
  | fuel + 1, b => if replyWindowOpen b then closeRest fuel (replyWindowClose b) else b

/-- R96, log 18: every transaction of the plan ended. -/
def closeSlot (b : Block) : Block := closeRest (b.radio.plan.length - b.radio.cursor) b

/-- R90: the slot number after a beacon. -/
def slotAfter (r : RadioBlock) : Nat := if r.fresh then r.slot else (r.slot + 1) % 64

/-- R90: the cycle number after a beacon. -/
def cycleAfter (r : RadioBlock) : Nat := if r.fresh ∨ slotAfter r ≠ 0 then r.cycle else (r.cycle + 1) % 65536

/-- R105: the channel in force after a beacon: the settings' one takes effect at slot 0. -/
def channelAfter (r : RadioBlock) : Nat := if slotAfter r = 0 then r.settings.channel else r.channel

/-- R75, R90, R93: a new slot begins: numbers, channel and budget, with no plan and an empty composition buffer. -/
def beginSlot (b : Block) : Block :=
  { b with
    radio := { b.radio with
      slot := slotAfter b.radio
      cycle := cycleAfter b.radio
      channel := channelAfter b.radio
      fresh := false
      budget := slotBudget b.radio.settings b.mode.mode
      plan := []
      cursor := 0
      taken := none }
    composer := { b.composer with buffer := [] }
    time := { b.time with toBeacon := 250 } }

/-- R90: the beacon of the slot is sent. -/
def sendBeacon (b : Block) : Block :=
  bump .beacons (emit (.beacon b.radio.channel b.radio.slot b.radio.cycle) b)

/-- R70, R90: at the beacon of slot 0 the cycle number goes to the label directory. -/
def notePresence (b : Block) : Block := if b.radio.slot = 0 then presenceCheck b.radio.cycle b else b

/-- R94: the walk over the slot's queue. -/
def slotWalk (b : Block) : Walk := walkQueue (wakeQueue b b.radio.slot) (Walk.mk b b.radio.budget [])

/-- R94, R96: selection: the walk, and the plan it leaves. -/
def selectPlan (b : Block) : Block :=
  { (slotWalk b).block with radio := { (slotWalk b).block.radio with plan := (slotWalk b).plan } }

/-- R90 to R97: BEACON: a slot begins, its beacon goes out, its labels are selected, and the first transaction is
begun. At slot 0 the presence check comes before the selection, and so its LABEL_LOST notices before the LABEL_OVERSIZE
and LABEL_TRUNCATED of the walk (log 51). -/
def beacon (b : Block) : Block := beginTransaction (selectPlan (notePresence (sendBeacon (beginSlot (closeSlot b)))))

/-! ## Radio settings (R92), the status record (R106) and the warm restart (R107) -/

/-- R92: a write of the radio settings record. -/
def applyRadioSettings (w : RadioSettingsWrite) (b : Block) : Block × Verdict :=
  match checkRadioSettings w with
  | none => (b, some .fieldRange)
  | some r => ({ b with radio := { b.radio with settings := r } }, none)

/-- R93: the budget units of a plan entry. -/
def entryCost (e : PlanEntry) : Nat :=
  match e.kind with
  | .query => 1
  | .full => e.fragments
  | .partialUpdate => e.fragments

/-- R106: the number of QUERY entries of a plan. -/
def queryCount (p : List PlanEntry) : Nat := (p.filter (fun e => decide (e.kind = .query))).length

/-- R106: the radio status record. -/
def radioStatus (b : Block) : RadioStatus where
  slot := b.radio.slot
  cycle := b.radio.cycle
  budget := b.radio.budget
  used := (b.radio.plan.map entryCost).sum
  selected := b.radio.plan.length
  queries := queryCount b.radio.plan
  plan := b.radio.plan

/-- R107: the cycle number after a warm restart. -/
def warmCycle (b : Block) : Nat := (b.radio.cycle + 1) % 65536

/-- R107: the radio scheduler at a warm restart: the plan is discarded and slot 0 of the next cycle comes first. Until its
beacon the status record shows the old slot's budget beside an empty plan (log 55). -/
def warmRadio (b : Block) : Block :=
  { b with radio := { b.radio with
      slot := 0
      cycle := warmCycle b
      fresh := true
      plan := []
      cursor := 0
      taken := none } }

/-- R75: the composer at a warm restart: the composition buffer is emptied. -/
def warmComposer (b : Block) : Block := { b with composer := { b.composer with buffer := [] } }

/-! ## Meanings -/

/-- BEACON (R90). -/
def execBeacon (s : State) : Host.Outcome State Fault Refusal := act beacon s

/-- LABEL_REPLY (R99, R100). -/
def execLabelReply (t : ReplyTransmission) (s : State) : Host.Outcome State Fault Refusal := act (labelReply t) s

/-- REPLY_WINDOW_CLOSE (R97, R99). -/
def execReplyWindowClose (s : State) : Host.Outcome State Fault Refusal := act replyWindowClose s

/-- CHECK_IN (R102, R103). -/
def execCheckIn (c : CheckIn) (s : State) : Host.Outcome State Fault Refusal := act (radioCheckIn c) s

end Sys2Proof.Machine
end

