-- ==== Sys2Proof/Machine/Till.lean ====
section
/-! DEFINITION. The till service (file 07): till records, the lowest-price answer, sale records, the sales journal and
its upload. -/

namespace Sys2Proof.Machine

/-! ## Till records (R109) -/

/-- R109: the record of till `n`, held at position n − 1. -/
def tillRecord (b : Block) (n : Nat) : TillRecord :=
  if h : 1 ≤ n ∧ n - 1 < 96 then b.till.records.get ⟨n - 1, h.2⟩ else freshTill

/-- A till record replaced. -/
def putTill (n : Nat) (r : TillRecord) (b : Block) : Block :=
  if h : 1 ≤ n ∧ n - 1 < 96 then { b with till := { b.till with records := b.till.records.set (n - 1) r h.2 } } else b

/-- R109: whether a till is registered. -/
def isRegistered (r : TillRecord) : Bool :=
  match r.state with
  | .unregistered => false
  | .active => true
  | .silent => true

/-- R109: the number of registered tills. -/
def registeredTills (b : Block) : Nat := (b.till.records.toList.filter isRegistered).length

/-- R109: a frame is the till's own: the record is registered and holds the frame's hardware address. -/
def isOwn (sender : TillSender) (r : TillRecord) : Bool := isRegistered r && decide (r.hw = some sender.hw)

/-- R112: the silence timer's period, 120 s. -/
def silencePeriod : Nat := 120000

/-- R110, R112: a frame heard from a till: its port is taken and its presence refreshed. -/
def heardTill (sender : TillSender) (r : TillRecord) : TillRecord :=
  { r with port := some sender.port, state := .active, timer := some silencePeriod }

/-- R111: a record that accepts a HELLO. -/
def registeredBy (sender : TillSender) (r : TillRecord) : TillRecord :=
  { r with state := .active, hw := some sender.hw, port := some sender.port, lastSequence := none,
           timer := some silencePeriod }

/-- R192: the kind of a till service frame. -/
def helloKind : Nat := 1
/-- R192. -/
def priceQueryKind : Nat := 2
/-- R192. -/
def saleRecordKind : Nat := 3

/-- R192: an answer carries the request's kind plus 128. -/
def answerKind (kind : Nat) : Nat := (kind + 128) % 256

/-- An answer of the till service to a frame. -/
def replyTill (sender : TillSender) (kind till : Nat) (r : TillResult) (b : Block) : Block :=
  answerTill sender (TillAnswer.mk (answerKind kind) till r) b

/-- R110: a frame refused at one of the checks. -/
def refuseTill (sender : TillSender) (kind till : Nat) (r : TillResult) (b : Block) : Block :=
  replyTill sender kind till r (bump .tillFramesRefused b)

/-! ## HELLO (R111) -/

/-- R111: HELLO of a till in range, by the state of its record. -/
def helloAt (sender : TillSender) (till : Nat) (b : Block) : Block :=
  if (tillRecord b till).state = .active ∧ (tillRecord b till).hw ≠ some sender.hw then
    replyTill sender helloKind till .inUse b
  else
    replyTill sender helloKind till .accepted (putTill till (registeredBy sender (tillRecord b till)) b)

/-- R110, R111: a HELLO frame at the till service. -/
def tillHello (sender : TillSender) (till : Nat) (b : Block) : Block :=
  if tillInRange till then helloAt sender till b else refuseTill sender helloKind till .fieldRange b

/-! ## The lowest-price answer (R113, R114, R115) -/

/-- R113: a reference's version, when it names a slot of the item that holds it and it is VALID. -/
def candidateOf (b : Block) (code : Nat) (w : RefWhat) : Option (Slot × Version) :=
  match w with
  | .blank => none
  | .version c k number _ =>
    if c = code then
      match namedVersion b c k number with
      | some v => if v.status = .valid then some (k, v) else none
      | none => none
    else none

/-- R113: the candidates a bound label brings: none unless its binding is NORMAL. -/
def labelCandidates (b : Block) (code id : Nat) : List (Slot × Version) :=
  match getLabel b id with
  | none => []
  | some l =>
    match l.binding with
    | .foreign => []
    | .normal => (labelRefs l).filterMap (candidateOf b code)

/-- R113: the candidates of an item apart from its ACTIVE version. -/
def shelfCandidates (b : Block) (code : Nat) (i : Item) : List (Slot × Version) :=
  i.bound.flatMap (labelCandidates b code)

/-- R113: the charged price: the smallest E among the ACTIVE version and the candidates of the labels. -/
def chargedPrice (active : Version) (cs : List (Slot × Version)) : Nat :=
  (cs.map (fun c => c.2.results.e)).foldl min active.results.e

/-- The candidate in a slot with a given E. -/
def candidateAt (cs : List (Slot × Version)) (e : Nat) (k : Slot) : Option Version :=
  (cs.find? (fun c => decide (c.1 = k) && decide (c.2.results.e = e))).map Prod.snd

/-- R113: the version an answer names. -/
def answeredVersion (active : Version) (cs : List (Slot × Version)) : Version :=
  if active.results.e = chargedPrice active cs then active
  else ((slotNumbers.filterMap (candidateAt cs (chargedPrice active cs))).head?).getD active

/-- R115: whether a bound label sets LABEL_UNCERTAIN. -/
def labelDoubtful (b : Block) (id : Nat) : Bool :=
  match getLabel b id with
  | none => false
  | some l =>
    decide (l.state = .uncertain) || decide (l.state = .failed) || !l.present || !l.displayKnown
      || decide (l.binding = .foreign)

/-- R114, R115: the PRICED answer of an item with a VALID ACTIVE version. -/
def pricedAnswer (b : Block) (code : Nat) (i : Item) (active : Version) : TillResult :=
  .priced code (chargedPrice active (shelfCandidates b code i))
    (answeredVersion active (shelfCandidates b code i)).number
    (decide (chargedPrice active (shelfCandidates b code i) < active.results.e))
    (showsPromotion (answeredVersion active (shelfCandidates b code i)).inputs
      (answeredVersion active (shelfCandidates b code i)).results)
    (i.bound.any (labelDoubtful b))
    ((answeredVersion active (shelfCandidates b code i)).inputs.description.take 20)

/-- R114: the answer for an item code. -/
def itemAnswer (b : Block) (code : Nat) : TillResult :=
  match getItem b code with
  | none => .notFound code
  | some i =>
    match activeVersion i with
    | none => .notActive code
    | some v =>
      match v.status with
      | .held => .held code
      | .valid => pricedAnswer b code i v

/-! ## PRICE_QUERY (R109, R114) -/

/-- R109: the query count rises, stopping at its maximum. -/
def queried (r : TillRecord) : TillRecord := { r with queries := min (r.queries + 1) Config.max32 }

/-- R110, R114: a PRICE_QUERY frame at the till service. -/
def tillPriceQuery (sender : TillSender) (till code : Nat) (b : Block) : Block :=
  if tillInRange till && decide (code ≤ Config.maxItemCode) then
    (if isOwn sender (tillRecord b till) then
      replyTill sender priceQueryKind till (itemAnswer b code)
        (putTill till (queried (heardTill sender (tillRecord b till))) b)
     else refuseTill sender priceQueryKind till .notRegistered b)
  else refuseTill sender priceQueryKind till .fieldRange b

/-! ## Sale records (R116, R117, R118) -/

/-- R116: what a sequence means against the last accepted one. -/
inductive SequenceCheck where
  | inOrder
  | again
  | gap
  | stale
  deriving DecidableEq, Repr

/-- R116: a sequence against the last accepted one. -/
def checkSequence (last : Option Nat) (s : Nat) : SequenceCheck :=
  match last with
  | none => .inOrder
  | some l =>
    if s = l + 1 ∨ (s = 0 ∧ l = Config.max32) then .inOrder
    else if s = l then .again
    else if l + 1 < s then .gap
    else .stale

/-- R117: the price check of a line, on the part as the record finds it. -/
def checkLine (b : Block) (l : SaleLine) : SaleCheck :=
  if l.kind = some .sale ∧ 0 < l.quantity then
    match itemAnswer b l.code with
    | .priced _ charged _ _ _ _ _ => .against charged
    | _ => .unverified
  else .unchecked

/-- R119: the entry number after `n`. -/
def entryNumberAfter (n : Nat) : Nat := (n + 1) % 4294967296

/-- R119: the journal entry of a line. -/
def entryOf (b : Block) (number till sequence time : Nat) (gap : Bool) (l : SaleLine) : JournalEntry where
  number := number
  till := till
  sequence := sequence
  time := time
  kind := l.kind.getD .sale
  code := l.code
  quantity := l.quantity
  price := l.price
  version := l.version
  flags := entryFlags gap l.price (checkLine b l)

/-- R116: the journal entries of a record's lines, numbered from `number`. -/
def entriesOf (b : Block) (till sequence time : Nat) (gap : Bool) : Nat → List SaleLine → List JournalEntry
  | _, [] => []
  | number, l :: rest =>
    entryOf b number till sequence time gap l :: entriesOf b till sequence time gap (entryNumberAfter number) rest

/-- R117: a PRICE_DIFFERS notice for each flagged entry. -/
def noteDiffering (till : Nat) : List JournalEntry → Block → Block
  | [], b => b
  | e :: rest, b =>
    noteDiffering till rest (if e.flags.priceDiffers then notice .priceDiffers (.till till) b else b)

/-- R120: the high-water flag after an acceptance, with its notice when it becomes set. -/
def noteHigh (b : Block) : Block :=
  if !b.till.highFlag && highFlagAfterAdd b.till.highFlag b.till.journal.length then
    notice .journalHigh .journal { b with till := { b.till with highFlag := true } }
  else b

/-- R116, R118, R119: a record's entries join the journal's tail as UNSENT. -/
def addEntries (es : List JournalEntry) (b : Block) : Block :=
  { b with till := { b.till with
      journal := b.till.journal ++ es
      nextNumber := (b.till.nextNumber + es.length) % 4294967296
      fullFlag := false } }

/-- R116: a record accepted into the journal. Its PRICE_DIFFERS notices are queued before its JOURNAL_HIGH (R118, R120; the
order is the model's, log 51). -/
def acceptRecord (till sequence time : Nat) (gap : Bool) (lines : List SaleLine) (b : Block) : Block :=
  noteHigh (noteDiffering till (entriesOf b till sequence time gap b.till.nextNumber lines)
    (addEntries (entriesOf b till sequence time gap b.till.nextNumber lines)
      (putTill till { tillRecord b till with lastSequence := some sequence } b)))

/-- R118: a JOURNAL_FULL refusal sets the flag and queues its notice while the flag is clear. -/
def noteFull (b : Block) : Block :=
  if b.till.fullFlag then b
  else notice .journalFull .journal { b with till := { b.till with fullFlag := true } }

/-- R118: whether the journal has room for a number of lines. -/
def journalHasRoom (b : Block) (n : Nat) : Bool := decide (b.till.journal.length + n ≤ Config.journalCapacity)

/-- R118: a record to be accepted, when the journal has room for it. -/
def takeRecord (sender : TillSender) (till sequence time : Nat) (gap : Bool) (lines : List SaleLine) (b : Block) :
    Block :=
  if journalHasRoom b lines.length then
    replyTill sender saleRecordKind till (.acceptedSequence sequence) (acceptRecord till sequence time gap lines b)
  else replyTill sender saleRecordKind till .journalFull (noteFull b)

/-- R116: a sale record that passed the checks of R110, by its sequence; the part is as it stands once the frame is
heard. -/
def saleBySequence (sender : TillSender) (till sequence time : Nat) (lines : List SaleLine) (b : Block) : Block :=
  match checkSequence (tillRecord b till).lastSequence sequence with
  | .inOrder => takeRecord sender till sequence time false lines b
  | .gap => takeRecord sender till sequence time true lines b
  | .again => replyTill sender saleRecordKind till (.acceptedSequence sequence) b
  | .stale => replyTill sender saleRecordKind till .staleSequence b

/-- R110, R116: the fields of a SALE_RECORD in range. -/
def saleInRange (till sequence time : Nat) (lines : List SaleLine) : Bool :=
  tillInRange till && decide (sequence ≤ Config.max32) && decide (time ≤ Config.max32) && within 1 16 lines.length
    && lines.all saleLineInRange

/-- R110, R116: a SALE_RECORD frame at the till service. -/
def tillSaleRecord (sender : TillSender) (till sequence time : Nat) (lines : List SaleLine) (b : Block) : Block :=
  if saleInRange till sequence time lines then
    (if isOwn sender (tillRecord b till) then
      saleBySequence sender till sequence time lines (putTill till (heardTill sender (tillRecord b till)) b)
     else refuseTill sender saleRecordKind till .notRegistered b)
  else refuseTill sender saleRecordKind till .fieldRange b

/-- R110: whether a kind is one of the three of R192. -/
def tillKindKnown (kind : Nat) : Bool := within 1 3 kind

/-- R110: a till frame of any kind at the till service. -/
def tillFrame (sender : TillSender) : TillFrame → Block → Block
  | .hello till, b => tillHello sender till b
  | .priceQuery till code, b => tillPriceQuery sender till code b
  | .saleRecord till sequence time lines, b => tillSaleRecord sender till sequence time lines b
  | .unknownKind kind till, b => refuseTill sender kind till .unknownKind b
  | .malformed kind till, b =>
    if tillKindKnown kind then refuseTill sender kind till .fieldRange b
    else refuseTill sender kind till .unknownKind b
  | .empty, b => refuseTill sender 0 0 .fieldRange b

/-! ## Silence (R112) -/

/-- R112: the silence timer of an ACTIVE till expires; a till whose timer is not running has no such event. -/
def silenceExpiry (till : Nat) (b : Block) : Block :=
  if (tillRecord b till).state = .active ∧ (tillRecord b till).timer.isSome then
    notice .tillSilent (.till till) (putTill till { tillRecord b till with state := .silent, timer := none } b)
  else b

/-! ## Upload (R121 to R124) -/

/-- R171: the journal block size of a result; without a result, 256 (R121). -/
def resultBlockSize : Option QualClass → Nat
  | some .classA => 4096
  | some .classB => 1024
  | some .classC => 256
  | some .poor => 256
  | some .noResult => 256
  | none => 256

/-- R121: the block size in force. -/
def journalBlockSize (b : Block) : Nat := resultBlockSize (b.line.result.map QualResult.result)

/-- R121: the most entries a block may carry now. -/
def blockCapacity (b : Block) : Nat := journalBlockSize b / 32

/-- R119: the UNSENT entries. -/
def unsentEntries (b : Block) : List JournalEntry := b.till.journal.drop b.till.sent

/-- R121: the block the till service would form now. -/
def nextBlock (b : Block) : UplinkContent :=
  .journalBlock (match unsentEntries b with
    | e :: _ => e.number
    | [] => b.till.nextNumber) ((unsentEntries b).take (blockCapacity b))

/-- R121: whether a block can be handed: the line is UP, entries are UNSENT, and the class has room for the block. -/
def blockReady (b : Block) : Bool :=
  b.line.up && !(unsentEntries b).isEmpty && classFits b .journal (nextBlock b)

/-- R123: the acknowledgement timer's period, 30 s. -/
def ackPeriod : Nat := 30000

/-- R121, R123: the entries of a handed block become SENT; the timer starts when none was SENT before. -/
def markSent (n : Nat) (b : Block) : Block :=
  { b with till := { b.till with
      sent := b.till.sent + n
      ackTimer := if b.till.sent = 0 then some ackPeriod else b.till.ackTimer } }

/-- R121: JOURNAL_BLOCK: one block is formed and handed; where none can be, there is no such event. -/
def journalBlock (b : Block) : Block :=
  if blockReady b then
    markSent ((unsentEntries b).take (blockCapacity b)).length (admitFrame .journal (nextBlock b) b)
  else b

/-- R122: the oldest entry number. -/
def oldestNumber (b : Block) : Nat :=
  match b.till.journal with
  | e :: _ => e.number
  | [] => b.till.nextNumber

/-- R122: the distance of an acknowledged number from the oldest entry number. -/
def ackDistance (b : Block) (n : Nat) : Nat := (n + 4294967296 - oldestNumber b) % 4294967296

/-- R122: entries acknowledged and removed from the head. -/
def removeAcked (n : Nat) (b : Block) : Block :=
  { b with till := { b.till with
      journal := b.till.journal.drop n
      sent := b.till.sent - n
      ackTimer := if b.till.sent - n = 0 then none else some ackPeriod
      highFlag := highFlagAfterRemoval b.till.highFlag (b.till.journal.drop n).length } }

/-- R122: JOURNAL_ACK at the till service. -/
def takeAck (n : Nat) (b : Block) : Block :=
  if ackDistance b n < b.till.sent then removeAcked (ackDistance b n + 1) b
  else if ackDistance b n < 2147483648 then bump .ackBeyond b
  else b

/-- R123, R124: every SENT entry returns to UNSENT and the acknowledgement timer stops. -/
def revertSent (b : Block) : Block := { b with till := { b.till with sent := 0, ackTimer := none } }

/-- R123: the acknowledgement timer expires; a timer that is not running has no such event. -/
def ackTimerExpiry (b : Block) : Block :=
  if b.till.ackTimer.isSome then bump .journalRewinds (revertSent b) else b

/-- R124, R159, R166: whether a frame of head office is taken: the line is UP and no loopback is set (log 7). -/
def lineTakes (b : Block) : Bool := b.line.up && decide (b.line.loopback = .off)

/-- R126: a till record after a warm restart. -/
def warmTillRecord (r : TillRecord) : TillRecord :=
  match r.state with
  | .active => { r with timer := some silencePeriod }
  | .silent => r
  | .unregistered => r

/-- R126: the till service at a warm restart. -/
def warmTill (b : Block) : Block :=
  { revertSent b with till := { (revertSent b).till with
      records := b.till.records.map warmTillRecord
      fullFlag := false } }

/-! ## Meanings -/

/-- HELLO (R110, R111). -/
def execHello (sender : TillSender) (till : Nat) (s : State) : Host.Outcome State Fault Refusal :=
  act (tillHello sender till) s

/-- PRICE_QUERY (R110, R113 to R115). -/
def execPriceQuery (sender : TillSender) (till code : Nat) (s : State) : Host.Outcome State Fault Refusal :=
  act (tillPriceQuery sender till code) s

/-- SALE_RECORD (R110, R116 to R120). -/
def execSaleRecord (sender : TillSender) (till sequence time : Nat) (lines : List SaleLine) (s : State) :
    Host.Outcome State Fault Refusal := act (tillSaleRecord sender till sequence time lines) s

/-- SILENCE_TIMER_EXPIRY (R112). -/
def execSilenceTimerExpiry (till : Nat) (s : State) : Host.Outcome State Fault Refusal := act (silenceExpiry till) s

/-- JOURNAL_BLOCK (R121). -/
def execJournalBlock (s : State) : Host.Outcome State Fault Refusal := act journalBlock s

/-- JOURNAL_ACK (R122): taken while the line is UP and no loopback is set (R124). -/
def execJournalAck (number : Nat) (s : State) : Host.Outcome State Fault Refusal :=
  act (fun b => if lineTakes b then takeAck number b else b) s

/-- ACKNOWLEDGEMENT_TIMER_EXPIRY (R123). -/
def execAcknowledgementTimerExpiry (s : State) : Host.Outcome State Fault Refusal := act ackTimerExpiry s

end Sys2Proof.Machine
end

