-- ==== Sys2Proof/Machine/Guest.lean ====
section
/-! DEFINITION. The guest wireless service (file 09): sessions, admission, policing in both directions, limits, the
profile, the governor and the aggregate bucket. -/

namespace Sys2Proof.Machine

/-! ## Sessions (R145) -/

/-- The session of a hardware address. -/
def getSession (b : Block) (hw : HwAddr) : Option Session := tableFind b.guest.sessions hw.toNat

/-- The session table with a record in place. -/
def putSession (hw : HwAddr) (s : Session) (b : Block) : Block :=
  { b with guest := { b.guest with sessions := tableInsert b.guest.sessions hw.toNat s } }

/-- R146, R150: a session removed; every removal clears the full flag. -/
def removeSession (hw : HwAddr) (b : Block) : Block :=
  { b with guest := { b.guest with sessions := tableErase b.guest.sessions hw.toNat, full := false } }

/-- R144: the byte quota in bytes. -/
def quotaBytes (g : GuestProfile) : Nat := g.quotaMiB * 1048576

/-- R145: the length of a guest frame: its network part. -/
def networkLength (content : List Byte) : Nat := 8 + content.length

/-- R149: a frame of `n` bytes conforms to a bucket (log 5). -/
def conforms (tokens n : Nat) : Bool := decide (8 * n ≤ tokens)

/-- R147, R148: a session that passed a frame of `n` bytes; at the quota it becomes EXHAUSTED. -/
def passedSession (now n : Nat) (g : GuestProfile) (s : Session) : Session :=
  { s with
    tokens := s.tokens - 8 * n
    used := s.used + n
    lastTraffic := now
    state := if quotaBytes g ≤ s.used + n then .exhausted else s.state }

/-- R147, R148: what the guest service does with a frame of a session. -/
inductive GuestCheck where
  | passed
  | policed
  | lineDown
  | blocked
  deriving DecidableEq, Repr

/-- R147, R148: a frame of `n` bytes of a session, by its state, the line and its bucket. -/
def checkGuest (up : Bool) (n : Nat) (s : Session) : GuestCheck :=
  match s.state with
  | .active => if up then (if conforms s.tokens n then .passed else .policed) else .lineDown
  | .exhausted => .blocked
  | .cooldown => .blocked

/-- R147: a frame toward the line from an address that has a session. -/
def guestToLine (hw : HwAddr) (src dst : NetAddr) (content : List Byte) (s : Session) (b : Block) : Block :=
  match checkGuest b.line.up (networkLength content) s with
  | .passed =>
    offer .guest (.data src dst content)
      (putSession hw (passedSession b.time.now (networkLength content) b.guest.profile s) b)
  | .policed => bump .guestPoliced b
  | .lineDown => bump .guestLineDown b
  | .blocked => bump .guestBlocked b

/-- R146: the session created by admission. -/
def newSession (now : Nat) : Session where
  state := .active
  start := now
  used := 0
  lastTraffic := now
  cooldownStart := none
  tokens := Config.sessionDepth

/-- R146: a refusal for lack of room sets the full flag and queues GUEST_FULL while the flag is clear. -/
def noteGuestFull (b : Block) : Block :=
  if b.guest.full then b
  else notice .guestFull .sessionTable { b with guest := { b.guest with full := true } }

/-- R146: a request for admission. -/
def requestAdmission (hw : HwAddr) (src dst : NetAddr) (content : List Byte) (b : Block) : Block :=
  if b.mode.mode = .trading ∧ b.line.up = true then
    (if b.guest.sessions.length < Config.maxSessions then
      guestToLine hw src dst content (newSession b.time.now)
        (bump .guestAdmitted (putSession hw (newSession b.time.now) b))
     else noteGuestFull (bump .guestNotAdmitted b))
  else bump .guestNotAdmitted b

/-- R146, R147: a guest frame bound for the line. -/
def guestUplink (hw : HwAddr) (src dst : NetAddr) (content : List Byte) (b : Block) : Block :=
  match getSession b hw with
  | some s => guestToLine hw src dst content s b
  | none => requestAdmission hw src dst content b

/-- R148: whether a frame toward a guest passes, and the part after the guest service took it. -/
def guestDownlink (hw : HwAddr) (content : List Byte) (b : Block) : Block × Bool :=
  match getSession b hw with
  | none => (bump .guestBlocked b, false)
  | some s =>
    match checkGuest b.line.up (networkLength content) s with
    | .passed => (putSession hw (passedSession b.time.now (networkLength content) b.guest.profile s) b, true)
    | .policed => (bump .guestPoliced b, false)
    | .lineDown => (bump .guestLineDown b, false)
    | .blocked => (bump .guestBlocked b, false)

/-! ## Limits (R150) -/

/-- R145: time since a moment of the time base, in milliseconds. -/
def since (now t : Nat) : Nat := now - t

/-- The time limit has been reached (R144, R150). -/
def overTime (now : Nat) (g : GuestProfile) (s : Session) : Bool := decide (g.timeLimit * 1000 ≤ since now s.start)

/-- The idle limit has been reached (R144, R150). -/
def overIdle (now : Nat) (g : GuestProfile) (s : Session) : Bool :=
  decide (g.idleLimit * 1000 ≤ since now s.lastTraffic)

/-- The cooldown has passed (R144, R150). -/
def overCooldown (now : Nat) (g : GuestProfile) (s : Session) : Bool :=
  decide (g.cooldown * 1000 ≤ since now (s.cooldownStart.getD now))

/-- R150: a session that reaches its time limit: COOLDOWN, or removed when the cooldown is 0 s. -/
def reachTimeLimit (hw : HwAddr) (s : Session) (b : Block) : Block :=
  if b.guest.profile.cooldown = 0 then removeSession hw b
  else putSession hw { s with state := .cooldown, cooldownStart := some b.time.now } b

/-- R150: TIME_LIMIT_EXPIRY, of an ACTIVE or EXHAUSTED session whose age has reached the limit. -/
def timeLimitExpiry (hw : HwAddr) (b : Block) : Block :=
  match getSession b hw with
  | none => b
  | some s =>
    match s.state with
    | .active => if overTime b.time.now b.guest.profile s then reachTimeLimit hw s b else b
    | .exhausted => if overTime b.time.now b.guest.profile s then reachTimeLimit hw s b else b
    | .cooldown => b

/-- R150, R151: IDLE_LIMIT_EXPIRY, of an ACTIVE session that has been idle for the limit; one that a frame refreshed
stays. -/
def idleLimitExpiry (hw : HwAddr) (b : Block) : Block :=
  match getSession b hw with
  | none => b
  | some s =>
    match s.state with
    | .active => if overIdle b.time.now b.guest.profile s then removeSession hw b else b
    | .exhausted => b
    | .cooldown => b

/-- R150: COOLDOWN_END, of a COOLDOWN session whose cooldown has passed. -/
def cooldownEnd (hw : HwAddr) (b : Block) : Block :=
  match getSession b hw with
  | none => b
  | some s =>
    match s.state with
    | .active => b
    | .exhausted => b
    | .cooldown => if overCooldown b.time.now b.guest.profile s then removeSession hw b else b

/-- R152: the END_GUEST command. -/
def applyEndGuest (hw : HwAddr) (b : Block) : Block × ReplyBody :=
  match getSession b hw with
  | none => (b, .refusal .notFound none)
  | some _ => (removeSession hw b, .done)

/-! ## The profile (R144) -/

/-- R144: what an accepted profile write makes of a session: none is removed. -/
def sessionUnder (now : Nat) (g : GuestProfile) (s : Session) : Option Session :=
  match s.state with
  | .active =>
    if overTime now g s then
      (if g.cooldown = 0 then none else some { s with state := .cooldown, cooldownStart := some now })
    else if overIdle now g s then none
    else if quotaBytes g ≤ s.used then some { s with state := .exhausted }
    else some s
  | .exhausted =>
    if overTime now g s then
      (if g.cooldown = 0 then none else some { s with state := .cooldown, cooldownStart := some now })
    else some s
  | .cooldown => if overCooldown now g s then none else some s

/-- R144: the session table compared with a new profile. -/
def sessionsUnder (now : Nat) (g : GuestProfile) (t : Table Session) : Table Session :=
  t.filterMap (fun p => (sessionUnder now g p.2).map (fun s => (p.1, s)))

/-- R144: an accepted profile: the sessions compared with it; any removal clears the full flag. -/
def setProfile (g : GuestProfile) (b : Block) : Block :=
  { b with guest := { b.guest with
      profile := g
      sessions := sessionsUnder b.time.now g b.guest.sessions
      full := b.guest.full &&
        decide ((sessionsUnder b.time.now g b.guest.sessions).length = b.guest.sessions.length) } }

/-- R144: a write of the guest profile. -/
def applyGuestProfile (w : GuestProfileWrite) (b : Block) : Block × Verdict :=
  match checkGuestProfile w with
  | none => (b, some .fieldRange)
  | some g => (setProfile g b, none)

/-! ## The governor and the aggregate bucket (R155, R156) -/

/-- R155: the governor ceiling in force, in kbit/s. -/
def ceiling (b : Block) : Nat := b.guest.profile.maximum * b.guest.level / 8

/-- R156: the governor's step from the fill of the uplink queue. -/
def levelAfter (fill level : Nat) : Nat :=
  if 131072 < fill then max 1 (level - 1)
  else if fill < 65536 then min 8 (level + 1)
  else level

/-- R156: GOVERNOR_READING. -/
def governorReading (b : Block) : Block :=
  { b with
    guest := { b.guest with level := levelAfter (uplinkFill b) b.guest.level }
    time := { b.time with toGovernor := 1000 } }

/-- R149: a session's bucket after a millisecond. -/
def fillSession (rate : Nat) (s : Session) : Session := { s with tokens := min (s.tokens + rate) Config.sessionDepth }

/-- R149, R155: the buckets after a millisecond of the time base. -/
def fillBuckets (b : Block) : Block :=
  { b with guest := { b.guest with
      sessions := tableMapValues b.guest.sessions (fillSession b.guest.profile.rateCap)
      tokens := min (b.guest.tokens + ceiling b) Config.aggregateDepth } }

/-- R153: the change to CLOSED removes every session and clears the full flag. -/
def dropSessions (b : Block) : Block := { b with guest := { b.guest with sessions := [], full := false } }

/-! ## Status (R157), READ (R145) and restart (R158) -/

/-- The number of sessions in a state. -/
def countSessions (b : Block) (st : SessionState) : Nat :=
  (b.guest.sessions.filter (fun p => decide (p.2.state = st))).length

/-- R157: the guest status record; the tokens in whole bytes (log 56). -/
def guestStatus (b : Block) : GuestStatus where
  level := b.guest.level
  ceiling := ceiling b
  tokens := b.guest.tokens / 8
  active := countSessions b .active
  exhausted := countSessions b .exhausted
  cooldown := countSessions b .cooldown
  full := b.guest.full

/-- R145: the time in COOLDOWN of a session in that state, in whole seconds (log 56). -/
def cooldownTime (now : Nat) (s : Session) : Option Nat :=
  match s.state with
  | .active => none
  | .exhausted => none
  | .cooldown => some (since now (s.cooldownStart.getD now) / 1000)

/-- R145: a session as a READ returns it, in whole seconds and bytes, rounded down (log 56). -/
def sessionView (now hw : Nat) (s : Session) : SessionView where
  hw := hw
  state := s.state
  age := since now s.start / 1000
  used := s.used
  idle := since now s.lastTraffic / 1000
  cooldownTime := cooldownTime now s
  tokens := s.tokens / 8

/-- R158: the guest service at a warm restart. -/
def warmGuest (b : Block) : Block :=
  { b with guest := { b.guest with sessions := [], full := false, level := 4, tokens := Config.aggregateDepth } }

/-! ## Meanings -/

/-- TIME_LIMIT_EXPIRY (R150). -/
def execTimeLimitExpiry (hw : HwAddr) (s : State) : Host.Outcome State Fault Refusal := act (timeLimitExpiry hw) s

/-- IDLE_LIMIT_EXPIRY (R150). -/
def execIdleLimitExpiry (hw : HwAddr) (s : State) : Host.Outcome State Fault Refusal := act (idleLimitExpiry hw) s

/-- COOLDOWN_END (R150). -/
def execCooldownEnd (hw : HwAddr) (s : State) : Host.Outcome State Fault Refusal := act (cooldownEnd hw) s

/-- GOVERNOR_READING (R156). -/
def execGovernorReading (s : State) : Host.Outcome State Fault Refusal := act governorReading s

end Sys2Proof.Machine
end

