-- ==== Sys2Proof/Machine/Forward.lean ====
section
/-! DEFINITION. The forwarder (file 08): classification, learning and aging, delivery, routing, the policy matrix, and
the writes of its records. -/

namespace Sys2Proof.Machine

/-! ## The address table (R132 to R135) -/

/-- R132: the key of an entry: segment first, then hardware address, which is the order of a READ. -/
def addressKey (s : Segment) (hw : HwAddr) : Nat := (segmentIndex s).val * 281474976710656 + hw.toNat

/-- The segment of a key. -/
def keySegment (k : Nat) : Segment :=
  match k / 281474976710656 with
  | 0 => .till
  | 1 => .office
  | 2 => .staff
  | _ => .guest

/-- The hardware address of a key. -/
def keyHw (k : Nat) : Nat := k % 281474976710656

/-- The entry of a station in a segment. -/
def getAddress (b : Block) (s : Segment) (hw : HwAddr) : Option AddressEntry :=
  tableFind b.fwd.addresses (addressKey s hw)

/-- The address table replaced. -/
def setAddresses (t : Table AddressEntry) (b : Block) : Block := { b with fwd := { b.fwd with addresses := t } }

/-- R129, R134, R135: the entries kept by a test; the removal of any entry clears the full flag. -/
def keepAddresses (keep : Nat × AddressEntry → Bool) (b : Block) : Block :=
  { b with fwd := { b.fwd with
      addresses := b.fwd.addresses.filter keep
      full := b.fwd.full && decide ((b.fwd.addresses.filter keep).length = b.fwd.addresses.length) } }

/-- R129: the entries of a port removed. -/
def dropPortAddresses (p : Port) (b : Block) : Block := keepAddresses (fun e => decide (e.2.port ≠ p)) b

/-- R134: an entry's age in milliseconds. -/
def addressAge (now : Nat) (e : AddressEntry) : Nat := now - e.heardAt

/-- R135: a refused learning: counted, and the full flag set with its notice while it is clear. -/
def refuseLearning (b : Block) : Block :=
  if b.fwd.full then bump .learnRefused b
  else notice .addressTableFull .addressTable
    { bump .learnRefused b with fwd := { (bump .learnRefused b).fwd with full := true } }

/-- R133: the entry of (h, S) after a frame at port `p`: age 0, port `p`. -/
def touchAddress (s : Segment) (hw : HwAddr) (p : Port) (b : Block) : Block :=
  match getAddress b s hw with
  | some e => setAddresses (tableInsert b.fwd.addresses (addressKey s hw) { e with port := p, heardAt := b.time.now }) b
  | none =>
    if b.fwd.addresses.length < Config.maxAddresses then
      setAddresses (tableInsert b.fwd.addresses (addressKey s hw) (AddressEntry.mk p none b.time.now)) b
    else refuseLearning b

/-- R133: an entry of a segment other than (h, S) loses a network address that (h, S) takes. -/
def losesNet (s : Segment) (hw : HwAddr) (a : NetAddr) (k : Nat) (e : AddressEntry) : AddressEntry :=
  if keySegment k = s ∧ k ≠ addressKey s hw ∧ e.net = some a then { e with net := none } else e

/-- R133: the entry of (h, S) takes a network address. -/
def takeNet (s : Segment) (hw : HwAddr) (a : NetAddr) (b : Block) : Block :=
  match getAddress b s hw with
  | none => b
  | some e =>
    setAddresses (tableInsert (b.fwd.addresses.map (fun p => (p.1, losesNet s hw a p.1 p.2))) (addressKey s hw)
      { e with net := some a }) b

/-- The source network address of a NETWORK or SERVICE frame. -/
def payloadSource : LanPayload → Option NetAddr
  | .network src _ _ => some src
  | .service src _ _ => some src
  | .other _ => none

/-- R133: a source network address is taken when it lies in the segment's range and is not its gateway address. -/
def learnNet (s : Segment) (hw : HwAddr) (src : Option NetAddr) (b : Block) : Block :=
  match src with
  | none => b
  | some a =>
    if inRange (gatewayOf b s) a && decide (a ≠ (gatewayOf b s).address) then takeNet s hw a b else b

/-- R133: learning from a classified frame. -/
def learn (s : Segment) (p : Port) (f : LanFrame) (b : Block) : Block :=
  learnNet s f.src (payloadSource f.payload) (touchAddress s f.src p b)

/-- R134: an entry whose age has reached the aging time in force. -/
def overAge (b : Block) (e : AddressEntry) : Bool := decide (b.fwd.aging * 1000 ≤ addressAge b.time.now e)

/-- R134: ADDRESS_AGING_EXPIRY: the entry is removed. A station without an entry, or whose entry a frame made younger
than the aging time, has no such event. -/
def addressAging (s : Segment) (hw : HwAddr) (b : Block) : Block :=
  keepAddresses (fun e => decide (e.1 ≠ addressKey s hw) || !overAge b e.2) b

/-! ## Classification (R130) -/

/-- R130: a group hardware address has its group bit set (log 14). -/
def isGroup (a : HwAddr) : Bool := a.getLsbD 40

/-- R130: the source segment of a frame, or the counter of its drop. -/
def classify (p : PortSettings) (tag : Option Nat) : Except Counter Segment :=
  match p.role, tag with
  | .till, none => .ok .till
  | .office, none => .ok .office
  | .till, some _ => .error .tagMismatch
  | .office, some _ => .error .tagMismatch
  | .accessPoint, some t =>
    if t = p.staffTag then .ok .staff else if t = p.guestTag then .ok .guest else .error .untagged
  | .accessPoint, none => .error .untagged
  | .unused, _ => .error .unusedPort

/-- R130: a source hardware address that nothing is learned from. -/
def badHwSource (b : Block) (f : LanFrame) : Bool := isGroup f.src || decide (f.src = b.fwd.hwAddress)

/-! ## Policy (R140) -/

/-- R140: a source or destination of the matrix by its place: the segments, then UPLINK. -/
def policyPlace : Option Segment → Nat
  | some s => (segmentIndex s).val
  | none => 4

/-- R140: the matrix allows a path; `none` stands for UPLINK. -/
def policyAllows (b : Block) (s d : Option Segment) : Bool :=
  b.fwd.policy.toList.getD (5 * policyPlace s + policyPlace d) false

/-- R140: the fixed cells: the GUEST row, and UPLINK to GUEST and to UPLINK. -/
def fixedCell (n : Nat) : Bool := within 15 19 n || decide (n = 23) || decide (n = 24)

/-! ## Delivery within a segment (R136) -/

/-- The eight ports in order. -/
def ports : List Port := [0, 1, 2, 3, 4, 5, 6, 7]

/-- R136: a frame flooded in a segment, except through its arrival port; the copies leave in ascending port number
(log 63). -/
def flood (s : Segment) (p : Port) (f : LanFrame) (b : Block) : Block :=
  ports.foldl (fun acc q =>
    if q ≠ p ∧ portCarries acc q s = true then sendLan q s f.dst f.src (.switched f.payload) acc else acc) b

/-- R136: a frame that is not for the 4860, delivered within its segment. -/
def switchFrame (s : Segment) (p : Port) (f : LanFrame) (b : Block) : Block :=
  if policyAllows b (some s) (some s) then
    (if isGroup f.dst then flood s p f b
     else
       match getAddress b s f.dst with
       | some e => if e.port = p then b else sendLan e.port s f.dst f.src (.switched f.payload) b
       | none => flood s p f b)
  else bump .policyDenied b

/-! ## Routing (R138, R139) -/

/-- R138: the entry of a segment that holds a network address. -/
def neighbour (b : Block) (d : Segment) (a : NetAddr) : Option (Nat × AddressEntry) :=
  b.fwd.addresses.find? (fun e => decide (keySegment e.1 = d) && decide (e.2.net = some a))

/-- R138: a routed frame sent out to its neighbour. -/
def sendRouted (d : Segment) (src dst : NetAddr) (content : List Byte) (e : Nat × AddressEntry) (b : Block) : Block :=
  sendLan e.2.port d (BitVec.ofNat 48 (keyHw e.1)) b.fwd.hwAddress (.network src dst content) b

/-- R138, R148: a routed frame to a guest goes out only when the guest service passes it. -/
def sendToGuest (src dst : NetAddr) (content : List Byte) (e : Nat × AddressEntry) (b : Block) : Block :=
  if (guestDownlink (BitVec.ofNat 48 (keyHw e.1)) content b).2 then
    sendRouted .guest src dst content e (guestDownlink (BitVec.ofNat 48 (keyHw e.1)) content b).1
  else (guestDownlink (BitVec.ofNat 48 (keyHw e.1)) content b).1

/-- R138: a NETWORK frame routed from a segment, or from UPLINK, to segment `d`. -/
def route (s : Option Segment) (d : Segment) (src dst : NetAddr) (content : List Byte) (b : Block) : Block :=
  if policyAllows b s (some d) then
    match neighbour b d dst with
    | none => bump .noNeighbour b
    | some e =>
      match d with
      | .guest => sendToGuest src dst content e b
      | .till => sendRouted .till src dst content e b
      | .office => sendRouted .office src dst content e b
      | .staff => sendRouted .staff src dst content e b
  else bump .policyDenied b

/-- R139: a NETWORK frame handed on toward head office's line, by its source segment. -/
def handToLine (s : Segment) (hw : HwAddr) (src dst : NetAddr) (content : List Byte) (b : Block) : Block :=
  match s with
  | .till => offer .tillAuth (.data src dst content) b
  | .office => offer .office (.data src dst content) b
  | .staff => offer .office (.data src dst content) b
  | .guest => guestUplink hw src dst content b

/-- R139: a NETWORK frame whose destination lies outside every range. -/
def towardUplink (s : Segment) (hw : HwAddr) (src dst : NetAddr) (content : List Byte) (b : Block) : Block :=
  if policyAllows b (some s) none then handToLine s hw src dst content b else bump .policyDenied b

/-- R137: steps 3 to 6, for a NETWORK frame to the 4860's hardware address. -/
def gatewayNetwork (s : Segment) (hw : HwAddr) (src dst : NetAddr) (content : List Byte) (b : Block) : Block :=
  if !inRange (gatewayOf b s) src then bump .badSource b
  else if isGateway b dst then bump .gatewayDiscard b
  else
    match segmentOf b dst with
    | some d => route (some s) d src dst content b
    | none => towardUplink s hw src dst content b

/-- R139: a DATA frame that the uplink line passes to the forwarder. -/
def fromUplink (src dst : NetAddr) (content : List Byte) (b : Block) : Block :=
  if (segmentOf b src).isSome then bump .badSource b
  else if isGateway b dst then bump .gatewayDiscard b
  else
    match segmentOf b dst with
    | some d => route none d src dst content b
    | none => bump .noRoute b

/-! ## Frames at a port (R129, R130, R137) -/

/-- R137: what the forwarder hands a service of the 4860. -/
inductive ServiceHandoff where
  | nothing
  | till (sender : TillSender) (f : TillFrame)
  | mgmt (source : MgmtSource) (m : MgmtMessage)
  deriving DecidableEq, Repr

/-- R137: step 2, for a SERVICE frame to the 4860's hardware address. -/
def serviceFrame (s : Segment) (p : Port) (hw : HwAddr) (src dst : NetAddr) (c : ServiceContent) (b : Block) :
    Block × ServiceHandoff :=
  if dst = (gatewayOf b s).address then
    match s with
    | .till => (b, .till (TillSender.mk hw src p) c.till)
    | .office => (b, .mgmt (.storeServer hw src p) c.mgmt)
    | .staff => (bump .serviceRefused b, .nothing)
    | .guest => (bump .serviceRefused b, .nothing)
  else (bump .serviceRefused b, .nothing)

/-- R137: a classified frame to the 4860's hardware address, by its type. -/
def gatewayFrame (s : Segment) (p : Port) (f : LanFrame) (b : Block) : Block × ServiceHandoff :=
  match f.payload with
  | .other _ => (bump .gatewayDiscard b, .nothing)
  | .service src dst c => serviceFrame s p f.src src dst c b
  | .network src dst content => (gatewayNetwork s f.src src dst content b, .nothing)

/-- R130: a classified frame is learned from and then delivered. -/
def deliver (s : Segment) (p : Port) (f : LanFrame) (b : Block) : Block × ServiceHandoff :=
  if badHwSource b f then (bump .badSource b, .nothing)
  else if f.dst = b.fwd.hwAddress then gatewayFrame s p f (learn s p f b)
  else (switchFrame s p f (learn s p f b), .nothing)

/-- R129, R130: a LAN frame taken at a port; a port whose link is DOWN takes no frame. -/
def forwardFrame (p : Port) (f : LanFrame) (b : Block) : Block × ServiceHandoff :=
  if (b.fwd.ports.get p).up then
    match classify (b.fwd.ports.get p).settings f.tag with
    | .ok s => deliver s p f b
    | .error c => (bump c b, .nothing)
  else (b, .nothing)

/-! ## Records (R128, R129, R131, R134, R140) -/

/-- A port record replaced. -/
def setPort (p : Port) (r : PortRecord) (b : Block) : Block :=
  { b with fwd := { b.fwd with ports := b.fwd.ports.set p r } }

/-- R128, R129: a write of a port record. -/
def applyPortWrite (p : Port) (w : PortWrite) (b : Block) : Block × Verdict :=
  match checkPort w with
  | none => (b, some .fieldRange)
  | some r =>
    if r = (b.fwd.ports.get p).settings then (b, none)
    else (dropPortAddresses p (setPort p { b.fwd.ports.get p with settings := r } b), none)

/-- R128: LINK_UP. -/
def linkUp (p : Port) (b : Block) : Block := setPort p { b.fwd.ports.get p with up := true } b

/-- R129: LINK_DOWN: the port's entries are removed. -/
def linkDown (p : Port) (b : Block) : Block :=
  dropPortAddresses p (setPort p { b.fwd.ports.get p with up := false } b)

/-- R131: the first bits two prefixes have in common decide whether their ranges share an address. -/
def rangesMeet (g h : Gateway) : Bool :=
  decide (g.address.toNat / 2 ^ (32 - min g.prefixLength h.prefixLength)
    = h.address.toNat / 2 ^ (32 - min g.prefixLength h.prefixLength))

/-- R131: a gateway address is the first or the last address of its own range. -/
def atRangeEnd (g : Gateway) : Bool :=
  decide (g.address.toNat % 2 ^ (32 - g.prefixLength) = 0)
    || decide (g.address.toNat % 2 ^ (32 - g.prefixLength) = 2 ^ (32 - g.prefixLength) - 1)

/-- The gateway records with one replaced. -/
def setGateway (s : Segment) (g : Gateway) (b : Block) : Block :=
  { b with fwd := { b.fwd with gateways := b.fwd.gateways.set (segmentIndex s) g } }

/-- R131, R189: an address a collector may hold: in the OFFICE range and no gateway address, or outside every
range. -/
def collectorServes (b : Block) (a : NetAddr) : Bool :=
  segments.all (fun s => decide (s = .office) || !inRange (gatewayOf b s) a) && !isGateway b a

/-- R131: the collector, where one is set, would still serve. -/
def collectorStands (b : Block) : Bool :=
  match b.mgmt.collector with
  | none => true
  | some a => collectorServes b a

/-- R131: a gateway write in range. -/
def gatewayAccepted (s : Segment) (w : GatewayWrite) (b : Block) : Bool :=
  within 8 30 w.prefixLength && !atRangeEnd (Gateway.mk w.address w.prefixLength)
    && segments.all (fun d => decide (d = s) || !rangesMeet (Gateway.mk w.address w.prefixLength) (gatewayOf b d))
    && collectorStands (setGateway s (Gateway.mk w.address w.prefixLength) b)

/-- R131: an entry of a segment whose network address lies outside a new range loses it. -/
def netUnder (s : Segment) (g : Gateway) (k : Nat) (e : AddressEntry) : AddressEntry :=
  match e.net with
  | none => e
  | some a => if keySegment k = s ∧ inRange g a = false then { e with net := none } else e

/-- R131: a write of a gateway record. -/
def applyGatewayWrite (s : Segment) (w : GatewayWrite) (b : Block) : Block × Verdict :=
  if gatewayAccepted s w b then
    (setAddresses (b.fwd.addresses.map
        (fun p => (p.1, netUnder s (Gateway.mk w.address w.prefixLength) p.1 p.2)))
      (setGateway s (Gateway.mk w.address w.prefixLength) b), none)
  else (b, some .fieldRange)

/-- R131, R134: a write of the forwarder settings record: entries at or beyond the new aging time are removed. -/
def applyAgingWrite (aging : Nat) (b : Block) : Block × Verdict :=
  if within 10 3600 aging then
    (keepAddresses (fun e => decide (addressAge b.time.now e.2 < aging * 1000))
      { b with fwd := { b.fwd with aging := aging } }, none)
  else (b, some .fieldRange)

/-- R140: a write of a policy cell. -/
def applyPolicyWrite (n : Fin 25) (allow : Coded Bool) (b : Block) : Block × Verdict :=
  if fixedCell n.val then (b, some .readOnly)
  else
    match allow with
    | none => (b, some .fieldRange)
    | some v => ({ b with fwd := { b.fwd with policy := b.fwd.policy.set n v } }, none)

/-- R143: the forwarder at a warm restart. -/
def warmForwarder (b : Block) : Block := { b with fwd := { b.fwd with addresses := [], full := false } }

/-! ## Meanings -/

/-- LINK_UP (R128, R129). -/
def execLinkUp (p : Port) (s : State) : Host.Outcome State Fault Refusal := act (linkUp p) s

/-- LINK_DOWN (R129). -/
def execLinkDown (p : Port) (s : State) : Host.Outcome State Fault Refusal := act (linkDown p) s

/-- ADDRESS_AGING_EXPIRY (R134). -/
def execAddressAgingExpiry (seg : Segment) (hw : HwAddr) (s : State) : Host.Outcome State Fault Refusal :=
  act (addressAging seg hw) s

end Sys2Proof.Machine
end

