-- ==== Sys2Proof/Machine/Uplink.lean ====
section
/-! DEFINITION. The EXCHANGE class and its two senders (R164, R169, R174): the engine's replies, the pattern frames, the
wait list, and the signalling of room. -/

namespace Sys2Proof.Machine

/-! ## The engine's replies (R174) -/

/-- R174: a reply is offered as it is formed; one that is refused, or stands behind held ones, is held, and is lost
when 64 are held. -/
def formReply (r : ExchangeReply) (b : Block) : Block :=
  if b.exch.held.isEmpty && !exchangeRefuses b (.exchange r) then exchangeTake (.exchange r) b
  else if b.exch.held.length < Config.maxHeld then
    senderRefused .engine { b with exch := { b.exch with held := b.exch.held ++ [r] } }
  else bump .exchangeRepliesLost b

/-- R174: held replies offered again from the head while they are admitted. -/
def offerHeldFrom : List ExchangeReply → Block → Block
  | [], b => senderServed .engine { b with exch := { b.exch with held := [] } }
  | r :: rest, b =>
    if exchangeRefuses b (.exchange r) then { b with exch := { b.exch with held := r :: rest } }
    else offerHeldFrom rest (exchangeTake (.exchange r) b)

/-- R174: the engine offers its held replies. -/
def offerHeld (b : Block) : Block := offerHeldFrom b.exch.held b

/-! ## The pattern (R169) -/

/-- R169: the number of pattern frames of a test of `len` bits. -/
def patternFrames (len : Nat) : Nat := (len + 255) / 256

/-- R169: what the qualification engine offers next: the TEST_LOOP request, then the pattern frames. -/
def patternContent (q : Qualification) : UplinkContent :=
  if q.nextOffer = 0 then .testLoop else .testPattern q.run (q.nextOffer - 1) q.insertion

/-- The qualification after one of its frames was offered. -/
def offeredOne (q : Qualification) (b : Block) : Block :=
  { b with line := { b.line with qual := some { q with nextOffer := q.nextOffer + 1 } } }

/-- R164, R169: the qualification engine offers its frames until one is refused or all are offered; `fuel` bounds
the frames offered. -/
def offerPatternFrom : Nat → Block → Block
  | 0, b => b
  | fuel + 1, b =>
    match b.line.qual with
    | none => b
    | some q =>
      if q.nextOffer ≤ patternFrames q.length then
        (if exchangeRefuses b (patternContent q) then senderRefused .pattern b
         else offerPatternFrom fuel (offeredOne q (exchangeTake (patternContent q) b)))
      else senderServed .pattern b

/-- R169: the qualification engine offers its frames. -/
def offerPattern (b : Block) : Block :=
  match b.line.qual with
  | none => senderServed .pattern b
  | some q => offerPatternFrom (patternFrames q.length + 2 - q.nextOffer) b

/-! ## Room (R164) -/

/-- R164: the frames at the head of the wait list are admitted for as long as the head fits. -/
def admitWaitingFrom : List UplinkContent → Block → Block
  | [], b => { b with line := { b.line with wait := [] } }
  | f :: rest, b =>
    if classFits b .exchange f then admitWaitingFrom rest (admitFrame .exchange f b)
    else { b with line := { b.line with wait := f :: rest } }

/-- R164: the wait list admitted as far as it fits. -/
def admitWaiting (b : Block) : Block := admitWaitingFrom b.line.wait b

/-- R164: one sender offers its held frames. -/
def serveSender (x : ExchangeSender) (b : Block) : Block :=
  match x with
  | .engine => offerHeld b
  | .pattern => offerPattern b

/-- R164: room is signalled: the senders that hold refused frames offer in the order first refused. -/
def signalRoom (b : Block) : Block := b.line.refused.foldl (fun acc x => serveSender x acc) b

/-- R164: bytes have left the EXCHANGE class. -/
def exchangeRoom (b : Block) : Block := signalRoom (admitWaiting b)

end Sys2Proof.Machine
end

