-- ==== Sys2Proof/Machine/Qualify.lean ====
section
/-! DEFINITION. Line qualification (R169 to R171) and what it hands to the exchange engine (R176, R182). -/

namespace Sys2Proof.Machine

/-! ## The pattern generator (R169) -/

/-- R169: one step of the 15-stage generator with polynomial x^15 + x^14 + 1: bit 14 is the stage that goes out, and
the sum of stages 15 and 14 comes in (log 15). -/
def registerStep (r : Nat) : Nat := (r * 2) % 32768 + (r / 16384 + r / 8192) % 2

/-- R169: the register after `n` steps from all ones. -/
def registerAfter : Nat → Nat
  | 0 => 32767
  | n + 1 => registerStep (registerAfter n)

/-- R169: the next `n` bits a register sends. -/
def registerBits : Nat → Nat → List Bool
  | 0, _ => []
  | n + 1, r => decide (r / 16384 % 2 = 1) :: registerBits n (registerStep r)

/-- R169: whether error insertion inverts the pattern bit counted `k` from 1; 0 is OFF. -/
def insertsAt (insertion k : Nat) : Bool := decide (insertion ≠ 0) && decide (k % 10 ^ insertion = 0)

/-- R169: the pattern bits of frame `number`, with the inserted errors. The generator repeats after 32,767 bits. -/
def patternBits (number insertion : Nat) : List Bool :=
  (registerBits 256 (registerAfter (number * 256 % 32767))).mapIdx
    (fun i v => v != insertsAt insertion (number * 256 + i + 1))

/-! ## The examiner (R170) -/

/-- R170: the generator's prediction from its 15 bits, oldest first. -/
def predicted (bits : List Bool) : Bool := (bits.getD 0 false) != (bits.getD 1 false)

/-- R170: the run of correct predictions that gives sync. -/
def syncRun : Nat := 32

/-- R170: one bit examined in search. Sync begins with no bit of the last 64 examined (log 58). -/
def searchBit (recent : List Bool) (run : Nat) (v : Bool) : Examiner :=
  if recent.length < 15 then .search (recent ++ [v]) 0
  else if predicted recent = v then
    (if run + 1 = syncRun then .sync (recent.drop 1 ++ [v]) [] else .search (recent.drop 1 ++ [v]) (run + 1))
  else .search (recent.drop 1 ++ [v]) 0

/-- R170: the last 64 comparisons after one more. -/
def windowAfter (w : List Bool) (err : Bool) : List Bool := (w ++ [err]).drop ((w ++ [err]).length - 64)

/-- R170: sync is lost when 6 of the last 64 bits are errors; the search begins with the next bit. -/
def syncAfter (reference w : List Bool) : Examiner :=
  if 6 ≤ w.count true then .search [] 0 else .sync reference w

/-- R170: one bit examined. -/
def examineBit (q : Qualification) (v : Bool) : Qualification :=
  match q.examiner with
  | .search recent run => { q with examiner := searchBit recent run v }
  | .sync reference w =>
    { q with
      bits := q.bits + 1
      errors := if predicted reference = v then q.errors else q.errors + 1
      examiner := syncAfter (reference.drop 1 ++ [predicted reference]) (windowAfter w (predicted reference != v)) }

/-- R170: frames were lost before the frame that arrived: sync is lost at once. In search nothing changes (log 32). -/
def loseSync : Examiner → Examiner
  | .search recent run => .search recent run
  | .sync _ _ => .search [] 0

/-- R170: an echoed pattern frame examined: the next expected number follows it. -/
def examineFrame (number : Nat) (bits : List Bool) (q : Qualification) : Qualification :=
  bits.foldl examineBit
    { q with
      expected := number + 1
      examiner := if q.expected < number then loseSync q.examiner else q.examiner }

/-! ## The result (R171) -/

/-- R171: the result of a test from its length, bit count and error count. -/
def qualClassOf (len b e : Nat) : QualClass :=
  if 2 * b < len then .noResult
  else if e * 1000000 ≤ b then .classA
  else if e * 10000 ≤ b then .classB
  else if e * 1000 ≤ b then .classC
  else .poor

/-- The result held, as an OPENED reply carries it (R175): NONE when none is held. -/
def heldClass (b : Block) : QualClass :=
  match b.line.result with
  | some r => r.result
  | none => .noResult

/-- R175: an OPENED reply from the values now in force. -/
def openedReply (b : Block) : ExchangeReply :=
  .opened b.exch.last b.till.journal.length (heldClass b) (journalBlockSize b) b.mode.mode

/-- The exchange state replaced. -/
def setExchange (x : ExchangeState) (b : Block) : Block := { b with exch := { b.exch with state := x } }

/-- R177: the reopen hold starts at 600 s. -/
def startHold (b : Block) : Block := { b with exch := { b.exch with hold := some 600000 } }

/-- R171: whether a result opens the exchange. -/
def opensExchange : QualClass → Bool
  | .classA => true
  | .classB => true
  | .classC => true
  | .poor => false
  | .noResult => false

/-- R175, R177: the OPENED reply is formed; one that carries POOR or NONE starts the reopen hold, in whatever state it
is formed (log 42). -/
def formOpened (b : Block) : Block :=
  if opensExchange (heldClass b) then formReply (openedReply b) b else startHold (formReply (openedReply b) b)

/-- R176: a qualification result, which the line holds now, handed to the exchange engine; the OPENED reply starts the
reopen hold where R177 says so. -/
def engineResult (c : QualClass) (b : Block) : Block :=
  match b.exch.state with
  | .qualifying =>
    if opensExchange c then setExchange .ready (formOpened b) else setExchange .idle (formOpened b)
  | .idle => b
  | .ready => b
  | .receiving => b

/-- R182: an open exchange aborts, its notice apart; in IDLE nothing changes. -/
def abortExchange (b : Block) : Block :=
  match b.exch.state with
  | .idle => b
  | _ =>
    notice .exchangeAborted .exchange (bump .exchangeAborts (senderServed .engine
      { b with exch := { b.exch with state := .idle, staging := none, held := [] } }))

/-- R171: the result held in place of the qualification. -/
def holdResult (q : Qualification) (b : Block) : Block :=
  { b with line := { b.line with
      qual := none
      result := some (QualResult.mk (qualClassOf q.length q.bits q.errors) q.bits q.errors) } }

/-- R170, R171: the end of a test: the result is held, notified and handed to the exchange engine. -/
def finishQual (q : Qualification) (b : Block) : Block :=
  engineResult (qualClassOf q.length q.bits q.errors)
    (noticeWith .qualifyResult .line (some (qualClassOf q.length q.bits q.errors))
      (senderServed .pattern (holdResult q b)))

/-- R171: a qualification in progress aborted; its frames in the queue stay there. -/
def abortQual (b : Block) : Block :=
  match b.line.qual with
  | none => b
  | some _ => senderServed .pattern { b with line := { b.line with qual := none } }

/-- R171: the held result is discarded. -/
def discardResult (b : Block) : Block := { b with line := { b.line with result := none } }

/-- R169: a new qualification. -/
def newQual (run len insertion : Nat) : Qualification where
  run := run
  length := len
  insertion := insertion
  nextOffer := 0
  expected := 0
  examiner := .search [] 0
  bits := 0
  errors := 0
  timer := none

/-- R169: a qualification starts: the result held is discarded, the counts are 0, and the frames are offered. -/
def startQual (len insertion : Nat) (b : Block) : Block :=
  offerPattern { b with line := { b.line with
      qual := some (newQual b.line.runs len insertion)
      result := none
      runs := b.line.runs + 1 } }

/-- R169: the default test length. -/
def defaultTestLength : Nat := 1048576

/-- R169: an error insertion setting in range: OFF is 0; an omitted one is OFF (log 31). -/
def checkInsertion : Option Insertion → Option Nat
  | none => some 0
  | some .off => some 0
  | some (.every n) => if within 1 7 n then some n else none

/-- R169: a test length in range. -/
def checkLength : Option Nat → Option Nat
  | none => some defaultTestLength
  | some n => if within 65536 16777216 n then some n else none

/-- R169: the QUALIFY_LINE command. -/
def applyQualify (len : Option Nat) (insertion : Option Insertion) (b : Block) : Block × ReplyBody :=
  match checkLength len, checkInsertion insertion with
  | some l, some n =>
    if b.line.qual.isSome then (b, .refusal .busy none)
    else if !b.line.up || decide (b.line.loopback = .remoteLoop) then (b, .refusal .notInMode none)
    else (startQual l n b, .done)
  | _, _ => (b, .refusal .fieldRange none)

/-! ## TEST frames (R159, R170) -/

/-- R170: an echoed pattern frame at the running engine; the last one ends the test. -/
def examine (number : Nat) (bits : List Bool) (q : Qualification) (b : Block) : Block :=
  if number < q.expected then b
  else if number + 1 = patternFrames q.length then finishQual (examineFrame number bits q) b
  else { b with line := { b.line with qual := some (examineFrame number bits q) } }

/-- R159, R170: a pattern frame handed to the qualification engine; a running one examines it, whichever test sent it
(log 57). -/
def takePattern (number : Nat) (bits : List Bool) (b : Block) : Block :=
  match b.line.qual with
  | none => bump .unexpectedKind b
  | some q => examine number bits q b

/-- R159, R170: a TEST_LOOP request handed to the qualification engine. -/
def takeTestLoop (b : Block) : Block :=
  match b.line.qual with
  | none => bump .unexpectedKind b
  | some _ => b

/-- R170: 2 s after the last pattern frame left the EXCHANGE class the test ends; without that timer there is no such
event. -/
def qualifyTimeout (b : Block) : Block :=
  match b.line.qual with
  | none => b
  | some q =>
    match q.timer with
    | none => b
    | some _ => finishQual q b

/-! ## Meanings -/

/-- QUALIFY_TIMEOUT (R170, R171). -/
def execQualifyTimeout (s : State) : Host.Outcome State Fault Refusal := act qualifyTimeout s

end Sys2Proof.Machine
end

