-- ==== Sys2Proof/Machine/Mode.lean ====
section
/-! DEFINITION. The mode controller (file 01): the store mode, the drain timer, the clock, the schedule and the exchange
window. -/

namespace Sys2Proof.Machine

/-! ## The store mode (R1 to R7) -/

/-- R6: a change of the store mode, with its MODE_CHANGED notice. -/
def setMode (m : Mode) (b : Block) : Block := notice .modeChanged (.mode m) { b with mode := { b.mode with mode := m } }

/-- R2, R4, R5: the drain timer stopped. -/
def stopDrain (b : Block) : Block := { b with mode := { b.mode with drain := none } }

/-- R3: the drain timer loaded with the drain period and started. -/
def startDrain (b : Block) : Block :=
  { b with mode := { b.mode with drain := some (b.mode.settings.drainPeriod * 1000) } }

/-- R4, R5, R6: CLOSING becomes CLOSED: every guest session is removed and the sweep over the pending list begins. -/
def becomeClosed (b : Block) : Block :=
  beginSweep (setMode .closed (dropSessions (stopDrain b))).items.pending (setMode .closed (dropSessions (stopDrain b)))

/-- R2: an OPEN request; none where it is refused with ALREADY. MODE_CHANGED is queued before the ITEM_HELD notices of the
activation (R6, R48; the order is the model's, log 51). -/
def openRequest (b : Block) : Option Block :=
  match b.mode.mode with
  | .closed => some (activate (setMode .trading b))
  | .closing => some (setMode .trading (stopDrain b))
  | .trading => none

/-- R3: a CLOSE request; none where it is refused with ALREADY. -/
def closeRequest (b : Block) : Option Block :=
  match b.mode.mode with
  | .trading => some (startDrain (setMode .closing b))
  | .closing => none
  | .closed => none

/-- R4: a CLOSE_NOW request; none where it is refused with NOT_IN_MODE. -/
def closeNowRequest (b : Block) : Option Block :=
  match b.mode.mode with
  | .closing => some (becomeClosed b)
  | .trading => none
  | .closed => none

/-- R5: the drain timer expires; a timer that is not running has no such event. -/
def drainExpiry (b : Block) : Block := if b.mode.drain.isSome then becomeClosed b else b

/-! ## The clock (R9, R10) -/

/-- R10: the clock set. -/
def setClockTo (v : Nat) (b : Block) : Block := { b with mode := { b.mode with clock := some v } }

/-- R9: seconds in a day. -/
def daySeconds : Nat := 86400

/-- R8: a weekday's place in the cycle of 7. -/
def weekdayIndex : Weekday → Nat
  | .monday => 0
  | .tuesday => 1
  | .wednesday => 2
  | .thursday => 3
  | .friday => 4
  | .saturday => 5
  | .sunday => 6

/-- R9: the weekday index of a clock value. -/
def weekdayOf (epoch : Weekday) (c : Nat) : Nat := (weekdayIndex epoch + c / daySeconds) % 7

/-- R9: the time of day of a clock value. -/
def timeOfDay (c : Nat) : Nat := c % daySeconds

/-! ## The exchange window (R14) -/

/-- R14: the window state replaced, with its WINDOW_CHANGED notice. -/
def setWindowState (w : WindowState) (b : Block) : Block :=
  notice .windowChanged (.windowState w) { b with mode := { b.mode with window := w } }

/-- R177: the reopen hold is stopped. -/
def stopHold (b : Block) : Block := { b with exch := { b.exch with hold := none } }

/-- R14: a WINDOW_OPEN request; none where it is refused with ALREADY. The result of the window before is
discarded (R171). -/
def windowOpenRequest (b : Block) : Option Block :=
  match b.mode.window with
  | .shut => some (discardResult (setWindowState .opened b))
  | .opened => none

/-- R14: a WINDOW_CLOSE request; none where it is refused with ALREADY. WINDOW_CHANGED is queued before EXCHANGE_ABORTED
(R182; the order is the model's, log 51). -/
def windowCloseRequest (b : Block) : Option Block :=
  match b.mode.window with
  | .opened => some (stopHold (abortExchange (discardResult (abortQual (setWindowState .shut b)))))
  | .shut => none

/-! ## The schedule (R11 to R13) -/

/-- R12: an entry fires at the advance to clock value `c`. -/
def entryFires (epoch : Weekday) (c : Nat) (e : ScheduleEntry) : Bool :=
  e.enabled && decide (e.time = timeOfDay c) && e.weekdays.any (fun d => decide (weekdayIndex d = weekdayOf epoch c))

/-- R13: a fired entry performs its action as the command would, without an answer. -/
def fireAction (a : ScheduleAction) (b : Block) : Block :=
  match a with
  | .openStore => (openRequest b).getD b
  | .closeBegin => (closeRequest b).getD b
  | .windowOpen => (windowOpenRequest b).getD b
  | .windowClose => (windowCloseRequest b).getD b

/-- R12: the entries that fire at clock value `c`, in entry-number order. -/
def fireEntries (c : Nat) (b : Block) : Block :=
  (b.mode.schedule.toList.filter (entryFires b.mode.settings.epochWeekday c)).foldl (fun acc e => fireAction e.action acc) b

/-- The next second of the time base counted from now. -/
def newSecond (b : Block) : Block := { b with time := { b.time with toSecond := 1000 } }

/-- R9, R12: CLOCK_ADVANCE: a set clock below its maximum advances by one and fires its entries. -/
def clockAdvance (b : Block) : Block :=
  match b.mode.clock with
  | none => newSecond b
  | some c => if c < Config.max32 then fireEntries (c + 1) (setClockTo (c + 1) (newSecond b)) else newSecond b

/-! ## Commands and records -/

/-- R2: the OPEN command. -/
def applyOpen (b : Block) : Block × ReplyBody :=
  match openRequest b with
  | some c => (c, .mode c.mode.mode)
  | none => (b, .refusal .already none)

/-- R3: the CLOSE command. -/
def applyClose (b : Block) : Block × ReplyBody :=
  match closeRequest b with
  | some c => (c, .mode c.mode.mode)
  | none => (b, .refusal .already none)

/-- R4: the CLOSE_NOW command. -/
def applyCloseNow (b : Block) : Block × ReplyBody :=
  match closeNowRequest b with
  | some c => (c, .mode c.mode.mode)
  | none => (b, .refusal .notInMode none)

/-- R10: the SET_CLOCK command; a value out of range is FIELD_RANGE (R188). -/
def applySetClock (v : Nat) (b : Block) : Block × ReplyBody :=
  if v ≤ Config.max32 then (setClockTo v b, .clock v) else (b, .refusal .fieldRange none)

/-- R14: the WINDOW_OPEN command. -/
def applyWindowOpen (b : Block) : Block × ReplyBody :=
  match windowOpenRequest b with
  | some c => (c, .windowState c.mode.window)
  | none => (b, .refusal .already none)

/-- R14: the WINDOW_CLOSE command. -/
def applyWindowClose (b : Block) : Block × ReplyBody :=
  match windowCloseRequest b with
  | some c => (c, .windowState c.mode.window)
  | none => (b, .refusal .already none)

/-- R11: a write of a schedule entry. -/
def applyScheduleWrite (n : Fin 16) (w : ScheduleWrite) (b : Block) : Block × Verdict :=
  match checkSchedule w with
  | none => (b, some .fieldRange)
  | some e => ({ b with mode := { b.mode with schedule := b.mode.schedule.set n e } }, none)

/-- R8: a write of the mode settings record. -/
def applyModeSettings (w : ModeSettingsWrite) (b : Block) : Block × Verdict :=
  match checkModeSettings w with
  | none => (b, some .fieldRange)
  | some m => ({ b with mode := { b.mode with settings := m } }, none)

/-- R16, R89: a write of the price settings record; a change of decimals, mark or glyph empties the current-style
set. -/
def applyPriceSettings (w : PriceSettingsWrite) (b : Block) : Block × Verdict :=
  match checkPriceSettings w with
  | none => (b, some .fieldRange)
  | some p =>
    ((if p.decimals = b.price.decimals ∧ p.mark = b.price.mark ∧ p.glyph = b.price.glyph then id else emptyStyle)
      { b with price := p }, none)

/-- R7: the mode controller at a warm restart. -/
def warmMode (b : Block) : Block :=
  match b.mode.mode with
  | .closing => becomeClosed b
  | .trading => b
  | .closed => b

/-! ## Meanings -/

/-- DRAIN_TIMER_EXPIRY (R5). -/
def execDrainTimerExpiry (s : State) : Host.Outcome State Fault Refusal := act drainExpiry s

/-- CLOCK_ADVANCE (R9, R12). -/
def execClockAdvance (s : State) : Host.Outcome State Fault Refusal := act clockAdvance s

end Sys2Proof.Machine
end

