-- ==== Sys2Proof/Machine/Exchange.lean ====
section
/-! DEFINITION. The exchange engine (file 11): opening, batches, the commit and aborts. -/

namespace Sys2Proof.Machine

/-! ## Refusals (R174) -/

/-- R174: a refused frame changes no state of the engine; the refusal is counted and answered. -/
def refuseExchange (kind : Byte) (c : Code) (b : Block) : Block :=
  formReply (.refused kind c) (bump .exchangeRefusals b)

/-- R192: the kind byte of EXCHANGE_OPEN. -/
def openKind : Byte := 1#8
/-- R192: the kind byte of BATCH_START. -/
def startKind : Byte := 2#8
/-- R192: the kind byte of EXCHANGE_RECORDS. -/
def recordsKind : Byte := 3#8
/-- R192: the kind byte of BATCH_END. -/
def endKind : Byte := 4#8

/-! ## Opening (R175) -/

/-- R175: step 6: the held result opens the exchange at once, or a qualification is asked for; one that runs already
serves (R169). -/
def openFromIdle (b : Block) : Block :=
  if opensExchange (heldClass b) then setExchange .ready (formOpened b)
  else if b.line.qual.isSome then setExchange .qualifying b
  else startQual defaultTestLength 0 (setExchange .qualifying b)

/-- R175: steps 2 to 6, by the exchange state. -/
def openByState (b : Block) : Block :=
  match b.exch.state with
  | .qualifying => refuseExchange openKind .busy b
  | .ready => formOpened b
  | .receiving => setExchange .ready (formOpened { b with exch := { b.exch with staging := none } })
  | .idle => if b.exch.hold.isSome then refuseExchange openKind .linePoor b else openFromIdle b

/-- R175: EXCHANGE_OPEN. -/
def takeOpen (b : Block) : Block :=
  match b.mode.window with
  | .shut => refuseExchange openKind .windowClosed b
  | .opened => openByState b

/-! ## Batches (R178 to R181) -/

/-- R178: the staging area of a new batch. -/
def newStaging (n k : Nat) : Staging where
  records := []
  n := n
  k := k
  received := 0
  sum := 0

/-- R178: a BATCH_START in READY, by its number. -/
def startByNumber (n k : Nat) (b : Block) : Block :=
  if n = b.exch.last + 1 then
    setExchange .receiving { b with exch := { b.exch with staging := some (newStaging n k) } }
  else
    match b.exch.stored with
    | some r => if n = b.exch.last then formReply (.batchResult r) b else refuseExchange startKind .outOfOrder b
    | none => refuseExchange startKind .outOfOrder b

/-- R174, R178: BATCH_START: its fields, then the state, then its number. -/
def takeStart (n k : Nat) (b : Block) : Block :=
  if decide (n ≤ Config.max32) && within 1 256 k then
    (match b.exch.state with
     | .ready => startByNumber n k b
     | .idle => refuseExchange startKind .notInMode b
     | .qualifying => refuseExchange startKind .notInMode b
     | .receiving => refuseExchange startKind .notInMode b)
  else refuseExchange startKind .fieldRange b

/-- R179: the sum of a record's bytes. -/
def byteSum (l : List Byte) : Nat := (l.map BitVec.toNat).sum

/-- R179: one record taken into the staging area. -/
def stageOne (r : ExchangeRecord) (g : Staging) : Staging :=
  { g with
    received := g.received + 1
    sum := (g.sum + byteSum r.bytes) % 65536
    records := if g.records.length < Config.maxStaged then g.records ++ [r.record] else g.records }

/-- R179: the records of a frame taken in order. -/
def stageAll (rs : List ExchangeRecord) (g : Staging) : Staging := rs.foldl (fun acc r => stageOne r acc) g

/-- R179: EXCHANGE_RECORDS. -/
def takeRecords (rs : List ExchangeRecord) (b : Block) : Block :=
  match b.exch.state, b.exch.staging with
  | .receiving, some g => { b with exch := { b.exch with staging := some (stageAll rs g) } }
  | _, _ => refuseExchange recordsKind .notInMode b

/-- R181: a TIME record: SET_CLOCK, or FIELD_RANGE when its content is not one clock value. -/
def applyTime (v : Option Nat) (b : Block) : Block × Verdict :=
  match v with
  | none => (b, some .fieldRange)
  | some n => if n ≤ Config.max32 then (setClockTo n b, none) else (b, some .fieldRange)

/-- R181: a staged record applied by its owner. -/
def applyStaged (r : StagedRecord) (b : Block) : Block × Verdict :=
  match r with
  | .price p => applyPrice p b
  | .description code text => applyDescription code text b
  | .withdraw code => applyWithdraw code b
  | .label id cls => applyLabel id cls b
  | .bind id code template => applyBind id code template b
  | .unbind id => applyUnbindRecord id b
  | .templateChange id template => applyTemplateRecord id template b
  | .time v => applyTime v b
  | .exchangeClose => (b, none)
  | .unknown => (b, some .unknownKind)

/-- R180: the part and the results while a batch is applied, records counted from `index`. -/
structure Commit where
  block : Block
  index : Nat
  applied : Nat
  refusals : List (Nat × Code)
  deriving DecidableEq, Repr

/-- R180: one record of the commit, with its result. -/
def commitOne (c : Commit) (r : StagedRecord) : Commit :=
  match (applyStaged r c.block).2 with
  | none => Commit.mk (applyStaged r c.block).1 (c.index + 1) (c.applied + 1) c.refusals
  | some code => Commit.mk (applyStaged r c.block).1 (c.index + 1) c.applied (c.refusals ++ [(c.index, code)])

/-- R180: steps 1 and 2: the staged records applied in batch order. -/
def commitRecords (rs : List StagedRecord) (b : Block) : Commit := rs.foldl commitOne (Commit.mk b 1 0 [])

/-- R180: the BATCH_RESULT of a commit. -/
def resultOf (n : Nat) (c : Commit) : BatchResult := BatchResult.mk n c.applied c.refusals

/-- R180: step 7: the state after a commit. -/
def stateAfterCommit (rs : List StagedRecord) : ExchangeState := if rs.contains .exchangeClose then .idle else .ready

/-- R180: steps 3 to 7. -/
def finishCommit (g : Staging) (c : Commit) : Block :=
  setExchange (stateAfterCommit g.records)
    (bump .batchesCommitted (notice .batchCommitted .exchange
      (formReply (.batchResult (resultOf g.n c))
        { c.block with exch := { c.block.exch with
            last := g.n
            stored := some (resultOf g.n c)
            staging := none } })))

/-- R180: the commit of a batch. -/
def commitBatch (g : Staging) (b : Block) : Block := finishCommit g (commitRecords g.records b)

/-- R180: a batch rejected, for its count or its check. -/
def rejectBatch (g : Staging) (byCount : Bool) (b : Block) : Block :=
  setExchange .ready (bump .batchesRejected
    (formReply (.batchRejected g.n byCount) { b with exch := { b.exch with staging := none } }))

/-- R180: BATCH_END in RECEIVING: the count, then the check, then the commit. -/
def endBatch (check : Nat) (g : Staging) (b : Block) : Block :=
  if g.received ≠ g.k then rejectBatch g true b
  else if g.sum ≠ check then rejectBatch g false b
  else commitBatch g b

/-- R174, R180: BATCH_END. -/
def takeEnd (check : Nat) (b : Block) : Block :=
  if check ≤ 65535 then
    (match b.exch.state, b.exch.staging with
     | .receiving, some g => endBatch check g b
     | _, _ => refuseExchange endKind .notInMode b)
  else refuseExchange endKind .fieldRange b

/-- R174: whether a kind byte is one head office sends. -/
def headOfficeKind (k : Byte) : Bool := within 1 4 k.toNat

/-- R174, R192: an EXCHANGE frame at the engine. One without a kind byte is refused for its fields and its EXCHANGE_REFUSED
carries the kind 0 (log 49); of one malformed, an unknown kind is refused first (log 48). -/
def takeExchange (f : ExchangeFrame) (b : Block) : Block :=
  match f with
  | .empty => refuseExchange 0#8 .fieldRange b
  | .exchangeOpen => takeOpen b
  | .batchStart n k => takeStart n k b
  | .exchangeRecords rs => takeRecords rs b
  | .batchEnd check => takeEnd check b
  | .unknown kind => refuseExchange kind .unknownKind b
  | .malformed kind => refuseExchange kind (if headOfficeKind kind then .fieldRange else .unknownKind) b

/-- R177: the reopen hold expires; a hold that is not running has no such event. -/
def holdExpiry (b : Block) : Block := stopHold b

/-- R183: the exchange engine at a warm restart. -/
def warmExchange (b : Block) : Block :=
  stopHold { abortExchange b with exch := { (abortExchange b).exch with staging := none, held := [] } }

/-! ## Meanings -/

/-- A frame of head office at a block reached over the line: taken while the line is UP and no loopback is in force
(R159, R174, log 7). -/
def fromLine (f : Block → Block) (b : Block) : Block := if lineTakes b then f b else b

/-- EXCHANGE_OPEN (R175). -/
def execExchangeOpen (s : State) : Host.Outcome State Fault Refusal := act (fromLine takeOpen) s

/-- BATCH_START (R178). -/
def execBatchStart (n k : Nat) (s : State) : Host.Outcome State Fault Refusal := act (fromLine (takeStart n k)) s

/-- EXCHANGE_RECORDS (R179). -/
def execExchangeRecords (rs : List ExchangeRecord) (s : State) : Host.Outcome State Fault Refusal :=
  act (fromLine (takeRecords rs)) s

/-- BATCH_END (R180). -/
def execBatchEnd (check : Nat) (s : State) : Host.Outcome State Fault Refusal := act (fromLine (takeEnd check)) s

/-- REOPEN_HOLD_EXPIRY (R177). -/
def execReopenHoldExpiry (s : State) : Host.Outcome State Fault Refusal := act holdExpiry s

end Sys2Proof.Machine
end

