-- ==== Sys2Proof/Machine/Line.lean ====
section
/-! DEFINITION. The uplink line (file 10): the line state, the transmitter and the loopbacks. -/

namespace Sys2Proof.Machine

/-! ## The line state (R161, R162) -/

/-- R161: the loss timer's period, 3 s. -/
def lossPeriod : Nat := 3000

/-- R161: a valid frame arriving in DOWN at `now` is the third within 4 s. -/
def thirdWithin (now : Nat) (kept : List Nat) : Bool :=
  match kept with
  | a :: _ :: _ => decide (now ≤ a + 4000)
  | _ => false

/-- R161: the kept arrival times after one more: the last two, older first. -/
def keptAfter (now : Nat) (kept : List Nat) : List Nat := (kept ++ [now]).drop ((kept ++ [now]).length - 2)

/-- R161, R162: the change to UP; the exchange engine may offer again what it holds (log 38). -/
def lineUp (b : Block) : Block :=
  signalRoom (notice .uplinkUp .line
    { b with line := { b.line with up := true, loss := some lossPeriod, kept := [] } })

/-- R161: a valid frame counted for the line state. -/
def countForState (b : Block) : Block :=
  if b.line.up then { b with line := { b.line with loss := some lossPeriod } }
  else if thirdWithin b.time.now b.line.kept then lineUp b
  else { b with line := { b.line with kept := keptAfter b.time.now b.line.kept } }

/-- R162: the frames of one class discarded and counted. -/
def discardClass (c : UplinkClass) (b : Block) : Block :=
  setClass c [] (bumpBy (.discarded c) (classFrames b c).length b)

/-- R162: the wait list discarded and counted in EXCHANGE. -/
def discardWaiting (b : Block) : Block :=
  { bumpBy (.discarded .exchange) b.line.wait.length b with
    line := { (bumpBy (.discarded .exchange) b.line.wait.length b).line with wait := [] } }

/-- R162: step 1: the whole queue discarded. -/
def discardQueue (b : Block) : Block := discardWaiting (uplinkClasses.foldl (fun acc c => discardClass c acc) b)

/-- R161: the line state becomes DOWN. -/
def goDown (b : Block) : Block :=
  notice .uplinkDown .line (bump .lineDowns
    { b with line := { b.line with up := false, loss := none, kept := [] } })

/-- R162: the change to DOWN: the queue, the qualification and its result, the till service, the exchange engine.
UPLINK_DOWN is queued before EXCHANGE_ABORTED (log 51). -/
def lineDown (b : Block) : Block := abortExchange (revertSent (abortQual (discardResult (discardQueue (goDown b)))))

/-- R161: the loss timer expires; a timer that is not running has no such event. -/
def lossExpiry (b : Block) : Block := if b.line.up && b.line.loss.isSome then lineDown b else b

/-! ## The transmitter (R160, R165, R167) -/

/-- R160: the ALIVE timer expires and restarts; one ALIVE is due, but none in REMOTE (R168). -/
def aliveExpiry (b : Block) : Block :=
  { b with line := { b.line with
      aliveTimer := 1000
      aliveDue := match b.line.loopback with
        | .remoteLoop => false
        | .localLoop => true
        | .off => true } }

/-- R167: a frame goes onto the line; in LOCAL it returns to the receive input instead. -/
def sendFrame (f : SentFrame) (b : Block) : Block :=
  match b.line.loopback with
  | .localLoop => { b with line := { b.line with returning := b.line.returning ++ [f] } }
  | .off => emit (.line f) b
  | .remoteLoop => emit (.line f) b

/-- R160: a due ALIVE is sent. -/
def sendAlive (b : Block) : Block :=
  bump .aliveSent (sendFrame .alive { b with line := { b.line with aliveDue := false } })

/-- R155, R165: whether the head frame of a class may be taken onto the line. -/
def mayTake (b : Block) (c : UplinkClass) (f : UplinkContent) : Bool :=
  match c with
  | .guest => decide (8 * uplinkBytes f ≤ b.guest.tokens)
  | _ => true

/-- R155: the aggregate bucket pays for a frame of the GUEST class. -/
def payFor (c : UplinkClass) (f : UplinkContent) (b : Block) : Block :=
  match c with
  | .guest => { b with guest := { b.guest with tokens := b.guest.tokens - 8 * uplinkBytes f } }
  | _ => b

/-- R170: when the last pattern frame of the qualification in progress leaves its class, the 2 s begin. -/
def noteLastPattern (f : UplinkContent) (b : Block) : Block :=
  match f, b.line.qual with
  | .testPattern run number _, some q =>
    if run = q.run ∧ number + 1 = patternFrames q.length then
      { b with line := { b.line with qual := some { q with timer := some 2000 } } }
    else b
  | _, _ => b

/-- R164: bytes that leave the EXCHANGE class make room in it. -/
def noteRoom (c : UplinkClass) (b : Block) : Block :=
  match c with
  | .exchange => exchangeRoom b
  | _ => b

/-- R165: the head frame of a class is taken onto the line. -/
def takeFrame (c : UplinkClass) (f : UplinkContent) (rest : List UplinkContent) (b : Block) : Block :=
  noteRoom c (noteLastPattern f (bump .framesSent (sendFrame (.queued f) (payFor c f (setClass c rest b)))))

/-- R165: the first class in draining order that holds a frame. -/
def firstHolding (b : Block) : Option UplinkClass := uplinkClasses.find? (fun c => !(classFrames b c).isEmpty)

/-- R165: the queue drained by one frame, where its head may be taken. -/
def drainOne (b : Block) : Block :=
  match firstHolding b with
  | none => b
  | some c =>
    match classFrames b c with
    | [] => b
    | f :: rest => if mayTake b c f then takeFrame c f rest b else b

/-- R160, R165, R168: TRANSMIT_START: the transmitter is free: a due ALIVE first, then the queue; in REMOTE
neither. -/
def transmitStart (b : Block) : Block :=
  match b.line.loopback with
  | .remoteLoop => b
  | .off => if b.line.aliveDue then sendAlive b else drainOne b
  | .localLoop => if b.line.aliveDue then sendAlive b else drainOne b

/-! ## Loopbacks (R166) -/

/-- R166, R176: a change of the loopback state aborts a qualification in progress, and with it an exchange that
awaits its result. -/
def abortForLoopback (b : Block) : Block :=
  match b.line.qual with
  | none => b
  | some _ =>
    match b.exch.state with
    | .qualifying => abortExchange (abortQual b)
    | .idle => abortQual b
    | .ready => abortQual b
    | .receiving => abortQual b

/-- R166: the loopback state changed, with its timer. Frames on their way back in LOCAL are lost, and in REMOTE no ALIVE
is due (logs 24 and 28); EXCHANGE_ABORTED is queued before LOOPBACK_CHANGED (log 51). -/
def changeLoopback (l : Loopback) (timer : Option Nat) (b : Block) : Block :=
  notice .loopbackChanged (.loopback l) (abortForLoopback
    { b with line := { b.line with
        loopback := l
        loopTimer := timer
        returning := []
        aliveDue := b.line.aliveDue && decide (l ≠ .remoteLoop) } })

/-- R166: LOCAL or REMOTE with a duration in seconds: a change of state, or the timer restarted. -/
def setLoopback (l : Loopback) (seconds : Nat) (b : Block) : Block :=
  if b.line.loopback = l then { b with line := { b.line with loopTimer := some (seconds * 1000) } }
  else changeLoopback l (some (seconds * 1000)) b

/-- R166: LOCAL or REMOTE, the duration checked. -/
def applyLoop (l : Loopback) (duration : Option Nat) (b : Block) : Block × ReplyBody :=
  if within 10 3600 (duration.getD 300) then (setLoopback l (duration.getD 300) b, .loopback l)
  else (b, .refusal .fieldRange none)

/-- R166: the LOOPBACK command. -/
def applyLoopback (mode : Coded Loopback) (duration : Option Nat) (b : Block) : Block × ReplyBody :=
  match mode with
  | none => (b, .refusal .fieldRange none)
  | some .localLoop => applyLoop .localLoop duration b
  | some .remoteLoop => applyLoop .remoteLoop duration b
  | some .off =>
    if b.line.loopback = .off then (b, .refusal .already none) else (changeLoopback .off none b, .loopback .off)

/-- R166: the loopback timer expires; a timer that is not running has no such event. -/
def loopbackExpiry (b : Block) : Block :=
  if decide (b.line.loopback ≠ .off) && b.line.loopTimer.isSome then changeLoopback .off none b else b

/-- R172: the uplink line at a warm restart. -/
def warmLine (b : Block) : Block := { b with line := restartedLine b.line.runs }

/-! ## Meanings -/

/-- LOSS_TIMER_EXPIRY (R161, R162). -/
def execLossTimerExpiry (s : State) : Host.Outcome State Fault Refusal := act lossExpiry s

/-- ALIVE_TIMER_EXPIRY (R160). -/
def execAliveTimerExpiry (s : State) : Host.Outcome State Fault Refusal := act aliveExpiry s

/-- TRANSMIT_START (R160, R165). -/
def execTransmitStart (s : State) : Host.Outcome State Fault Refusal := act transmitStart s

/-- LOOPBACK_TIMER_EXPIRY (R166). -/
def execLoopbackTimerExpiry (s : State) : Host.Outcome State Fault Refusal := act loopbackExpiry s

end Sys2Proof.Machine
end

