-- ==== Sys2Proof/Machine/Tables.lean ====
section
/-! DEFINITION. The management tables (R185 to R187): sizes, windows and cursors, the records of a WRITE and of a READ,
and STATUS. -/

namespace Sys2Proof.Machine

/-! ## Windows (R185) -/

/-- R185: the size of a table. -/
def tableSize : TableName → Nat
  | .ports => 14
  | .policy => 25
  | .schedule => 17
  | .priceSettings => 1
  | .templates => 32
  | .glyphs => 388
  | .radioSettings => 2
  | .guestProfile => 2
  | .tills => 96
  | .items => 65536
  | .labels => 65536
  | .addresses => 4096
  | .guestSessions => 1024
  | .notices => 65
  | .counters => 256

/-- R184, R185: the window of a source. -/
def windowOf (b : Block) (src : MgmtSource) : Option TableWindow :=
  match src with
  | .storeServer _ _ _ => b.mgmt.storeWindow
  | .headOffice => b.mgmt.officeWindow

/-- R184, R185: the window of a source replaced. -/
def setWindow (src : MgmtSource) (w : TableWindow) (b : Block) : Block :=
  match src with
  | .storeServer _ _ _ => { b with mgmt := { b.mgmt with storeWindow := some w } }
  | .headOffice => { b with mgmt := { b.mgmt with officeWindow := some w } }

/-- R185: where the cursor of a new window stands. -/
def firstCursor (first last : Nat) : Direction → Nat
  | .increment => first
  | .decrement => last

/-- R185: a WINDOW message, its checks in order. -/
def applyWindow (src : MgmtSource) (table : Coded TableName) (first last : Nat) (direction : Coded Direction)
    (b : Block) : Block × ReplyBody :=
  match table with
  | none => (b, .refusal .badTable none)
  | some t =>
    if last < first ∨ tableSize t ≤ last then (b, .refusal .windowRange none)
    else
      match direction with
      | none => (b, .refusal .fieldRange none)
      | some d =>
        (setWindow src (TableWindow.mk t first last d (firstCursor first last d)) b, .cursor (firstCursor first last d))

/-- R186: the cursor after a step in the window's direction, wrapping at its ends. -/
def nextCursor (w : TableWindow) : Nat :=
  match w.direction with
  | .increment => if w.cursor = w.last then w.first else w.cursor + 1
  | .decrement => if w.cursor = w.first then w.last else w.cursor - 1

/-- R186: a window with its cursor stepped. -/
def stepWindow (w : TableWindow) : TableWindow := { w with cursor := nextCursor w }

/-! ## Records of a WRITE (R186) -/

/-- R185: the gateway record at positions 8 to 11 of PORTS. -/
def gatewaySegment (n : Nat) : Segment :=
  match n with
  | 8 => .till
  | 9 => .office
  | 10 => .staff
  | _ => .guest

/-- R189: a write of the collector record. -/
def applyCollectorWrite (a : Option NetAddr) (b : Block) : Block × Verdict :=
  match a with
  | none => ({ b with mgmt := { b.mgmt with collector := none } }, none)
  | some x =>
    if collectorServes b x then ({ b with mgmt := { b.mgmt with collector := some x } }, none)
    else (b, some .fieldRange)

/-- R128, R131, R189: a record at a position of PORTS; a record of another kind than the position's is out of range
(log 8). -/
def writePorts (n : Nat) (r : WriteRecord) (b : Block) : Block × Verdict :=
  match r with
  | .port w => if h : n < 8 then applyPortWrite ⟨n, h⟩ w b else (b, some .fieldRange)
  | .gateway w => if within 8 11 n then applyGatewayWrite (gatewaySegment n) w b else (b, some .fieldRange)
  | .forwarder aging => if n = 12 then applyAgingWrite aging b else (b, some .fieldRange)
  | .collector a => if n = 13 then applyCollectorWrite a b else (b, some .fieldRange)
  | _ => (b, some .fieldRange)

/-- R140: a record at a position of POLICY. -/
def writePolicy (n : Nat) (r : WriteRecord) (b : Block) : Block × Verdict :=
  if fixedCell n then (b, some .readOnly)
  else
    match r with
    | .policyCell allow => if h : n < 25 then applyPolicyWrite ⟨n, h⟩ allow b else (b, some .fieldRange)
    | _ => (b, some .fieldRange)

/-- R8, R11: a record at a position of SCHEDULE. -/
def writeSchedule (n : Nat) (r : WriteRecord) (b : Block) : Block × Verdict :=
  match r with
  | .scheduleEntry w => if h : n < 16 then applyScheduleWrite ⟨n, h⟩ w b else (b, some .fieldRange)
  | .modeSettings w => if n = 16 then applyModeSettings w b else (b, some .fieldRange)
  | _ => (b, some .fieldRange)

/-- R16: a record at a position of PRICE_SETTINGS. -/
def writePriceSettings (n : Nat) (r : WriteRecord) (b : Block) : Block × Verdict :=
  match r with
  | .priceSettings w => if n = 0 then applyPriceSettings w b else (b, some .fieldRange)
  | _ => (b, some .fieldRange)

/-- R76: a record at a position of TEMPLATES. -/
def writeTemplates (n : Nat) (r : WriteRecord) (b : Block) : Block × Verdict :=
  match r with
  | .template w => if h : n < 32 then applyTemplateWrite ⟨n, h⟩ w b else (b, some .fieldRange)
  | _ => (b, some .fieldRange)

/-- R78: a record at a position of GLYPHS: fonts at 0 to 3, glyphs from 4 on. -/
def writeGlyphs (n : Nat) (r : WriteRecord) (b : Block) : Block × Verdict :=
  match r with
  | .font height => if h : n < 4 then applyFontWrite ⟨n, h⟩ height b else (b, some .fieldRange)
  | .glyph w =>
    if h : 4 ≤ n ∧ n - 4 < 384 then applyGlyphWrite ⟨n - 4, h.2⟩ w b else (b, some .fieldRange)
  | _ => (b, some .fieldRange)

/-- R92: a record at a position of RADIO_SETTINGS; record 1 is read only. -/
def writeRadio (n : Nat) (r : WriteRecord) (b : Block) : Block × Verdict :=
  if n = 0 then
    match r with
    | .radioSettings w => applyRadioSettings w b
    | _ => (b, some .fieldRange)
  else (b, some .readOnly)

/-- R144, R157: a record at a position of GUEST_PROFILE; record 1 is read only. -/
def writeGuest (n : Nat) (r : WriteRecord) (b : Block) : Block × Verdict :=
  if n = 0 then
    match r with
    | .guestProfile w => applyGuestProfile w b
    | _ => (b, some .fieldRange)
  else (b, some .readOnly)

/-- R186: a change record of ITEMS; another kind is UNKNOWN_KIND. -/
def writeItems (r : WriteRecord) (b : Block) : Block × Verdict :=
  match r with
  | .price p => applyPrice p b
  | .description code text => applyDescription code text b
  | .withdraw code => applyWithdraw code b
  | _ => (b, some .unknownKind)

/-- R186: a change record of LABELS; another kind is UNKNOWN_KIND. -/
def writeLabels (r : WriteRecord) (b : Block) : Block × Verdict :=
  match r with
  | .label id cls => applyLabel id cls b
  | .bind id code template => applyBind id code template b
  | .unbind id => applyUnbindRecord id b
  | .templateChange id template => applyTemplateRecord id template b
  | _ => (b, some .unknownKind)

/-- R186: one record written at a position of a table, by the rule of the table's owner. -/
def writeAt (t : TableName) (n : Nat) (r : WriteRecord) (b : Block) : Block × Verdict :=
  match t with
  | .ports => writePorts n r b
  | .policy => writePolicy n r b
  | .schedule => writeSchedule n r b
  | .priceSettings => writePriceSettings n r b
  | .templates => writeTemplates n r b
  | .glyphs => writeGlyphs n r b
  | .radioSettings => writeRadio n r b
  | .guestProfile => writeGuest n r b
  | .items => writeItems r b
  | .labels => writeLabels r b
  | .tills => (b, some .readOnly)
  | .addresses => (b, some .readOnly)
  | .guestSessions => (b, some .readOnly)
  | .notices => (b, some .readOnly)
  | .counters => (b, some .readOnly)

/-- R185, R186: whether a whole window is read only. -/
def windowReadOnly (w : TableWindow) : Bool :=
  match w.table with
  | .ports => false
  | .policy => (List.range (w.last + 1 - w.first)).all (fun k => fixedCell (w.first + k))
  | .schedule => false
  | .priceSettings => false
  | .templates => false
  | .glyphs => false
  | .radioSettings => decide (1 ≤ w.first)
  | .guestProfile => decide (1 ≤ w.first)
  | .items => false
  | .labels => false
  | .tills => true
  | .addresses => true
  | .guestSessions => true
  | .notices => true
  | .counters => true

/-- R186: records written in order, each at the cursor, counted from `index`; at the first refused one writing
stops. A refusal that is no record's carries the index 0 (log 65). -/
def writeFrom (src : MgmtSource) : Nat → List WriteRecord → Block → Block × ReplyBody
  | index, [], b =>
    match windowOf b src with
    | some w => (b, .written (index - 1) w.cursor)
    | none => (b, .refusal .windowRange (some 0))
  | index, r :: rest, b =>
    match windowOf b src with
    | none => (b, .refusal .windowRange (some 0))
    | some w =>
      match (writeAt w.table w.cursor r b).2 with
      | some c => ((writeAt w.table w.cursor r b).1, .refusal c (some index))
      | none => writeFrom src (index + 1) rest (setWindow src (stepWindow w) (writeAt w.table w.cursor r b).1)

/-- R186: a WRITE: the record count, then the window, then whether it can be written at all (log 39), then the
records. Refused before any record it carries the index 0, as R186 says of READ_ONLY (log 65). -/
def applyWrite (src : MgmtSource) (rs : List WriteRecord) (b : Block) : Block × ReplyBody :=
  if within 1 64 rs.length then
    match windowOf b src with
    | none => (b, .refusal .windowRange (some 0))
    | some w => if windowReadOnly w then (b, .refusal .readOnly (some 0)) else writeFrom src 1 rs b
  else (b, .refusal .fieldRange (some 0))

/-! ## A WRITE taken record by record (R186, log 9) -/

/-- R186: the WRITEs in progress replaced. -/
def setWrites (l : List WriteProgress) (b : Block) : Block := { b with mgmt := { b.mgmt with writes := l } }

/-- R186: record `index` of a WRITE at the cursor of its source's window, the WRITEs in progress beside this one being
`others`: refused, and the WRITE answered with its index; accepted, and the WRITE answered after its last record, or
still in progress. -/
def writePart (h : MgmtHeader) (index count : Nat) (r : WriteRecord) (others : List WriteProgress) (w : TableWindow)
    (b : Block) : Block × Option ReplyBody :=
  match (writeAt w.table w.cursor r b).2 with
  | some c => (setWrites others (writeAt w.table w.cursor r b).1, some (.refusal c (some index)))
  | none =>
    if index = count then
      (setWrites others (setWindow h.source (stepWindow w) (writeAt w.table w.cursor r b).1),
       some (.written count (nextCursor w)))
    else
      (setWrites (others ++ [WriteProgress.mk h count index])
        (setWindow h.source (stepWindow w) (writeAt w.table w.cursor r b).1), none)

/-- R186: the first record of a WRITE, after the checks of the message itself, whose refusals carry the index 0
(log 65). -/
def writeFirst (h : MgmtHeader) (count : Nat) (r : WriteRecord) (b : Block) : Block × Option ReplyBody :=
  if within 1 64 count then
    match windowOf b h.source with
    | none => (b, some (.refusal .windowRange (some 0)))
    | some w =>
      if windowReadOnly w then (b, some (.refusal .readOnly (some 0))) else writePart h 1 count r b.mgmt.writes w b
  else (b, some (.refusal .fieldRange (some 0)))

/-- R186: a later record of a WRITE in progress; one that no WRITE in progress waits for is no event. -/
def writeLater (h : MgmtHeader) (index count : Nat) (r : WriteRecord) (b : Block) : Block × Option ReplyBody :=
  if b.mgmt.writes.contains (WriteProgress.mk h count (index - 1)) then
    match windowOf b h.source with
    | none => (b, none)
    | some w => writePart h index count r (b.mgmt.writes.erase (WriteProgress.mk h count (index - 1))) w b
  else (b, none)

/-! ## Records of a READ (R187) -/

/-- R185: the counters in the COUNTERS table but the qualification result's positions. -/
def readCounter (n : Nat) (b : Block) : ReadRecord :=
  if n = 52 then .qualClass (b.line.result.map QualResult.result)
  else if n = 53 then
    match b.line.result with
    | some r => .counter r.bits
    | none => .empty
  else if n = 54 then
    match b.line.result with
    | some r => .counter r.errors
    | none => .empty
  else if h : n < 61 then .counter (b.counts.get ⟨n, h⟩)
  else .empty

/-- R128, R131, R189: a record of PORTS. -/
def readPorts (n : Nat) (b : Block) : ReadRecord :=
  if h : n < 8 then .port (b.fwd.ports.get ⟨n, h⟩)
  else if within 8 11 n then .gateway (gatewayOf b (gatewaySegment n))
  else if n = 12 then .forwarder b.fwd.aging b.fwd.hwAddress
  else if n = 13 then .collector b.mgmt.collector
  else .empty

/-- R78: a record of GLYPHS. -/
def readGlyphs (n : Nat) (b : Block) : ReadRecord :=
  if h : n < 4 then .font (b.composer.fonts.get ⟨n, h⟩)
  else if h : n - 4 < 384 then .glyph (b.composer.glyphs.get ⟨n - 4, h⟩)
  else .empty

/-- R50: a record of ITEMS. -/
def readItem (n : Nat) (b : Block) : ReadRecord :=
  match tableAt b.items.table n with
  | some p => .item p.1 p.2 (b.items.pending.contains p.1)
  | none => .empty

/-- R73: a record of LABELS. -/
def readLabel (n : Nat) (b : Block) : ReadRecord :=
  match tableAt b.labels.table n with
  | some p => .label p.1 (wakeGroup p.1) p.2
  | none => .empty

/-- R132: a record of ADDRESSES, its age in whole seconds, rounded down (log 56). -/
def readAddress (n : Nat) (b : Block) : ReadRecord :=
  match tableAt b.fwd.addresses n with
  | some p => .address (keySegment p.1) (keyHw p.1) p.2.port p.2.net (addressAge b.time.now p.2 / 1000)
  | none => .empty

/-- R145: a record of GUEST_SESSIONS. -/
def readSession (n : Nat) (b : Block) : ReadRecord :=
  match tableAt b.guest.sessions n with
  | some p => .session (sessionView b.time.now p.1 p.2)
  | none => .empty

/-- R187: the record at a position of a table, as it stands; a till's silence timer is read in the milliseconds that
State holds (log 56). -/
def readAt (t : TableName) (n : Nat) (b : Block) : ReadRecord :=
  match t with
  | .ports => readPorts n b
  | .policy => if h : n < 25 then .policyCell (b.fwd.policy.get ⟨n, h⟩) else .empty
  | .schedule => if h : n < 16 then .scheduleEntry (b.mode.schedule.get ⟨n, h⟩) else .modeSettings b.mode.settings
  | .priceSettings => .priceSettings b.price
  | .templates => if h : n < 32 then .template (b.composer.templates.get ⟨n, h⟩) else .empty
  | .glyphs => readGlyphs n b
  | .radioSettings => if n = 0 then .radioSettings b.radio.settings else .radioStatus (radioStatus b)
  | .guestProfile => if n = 0 then .guestProfile b.guest.profile else .guestStatus (guestStatus b)
  | .tills => .till (tillRecord b (n + 1))
  | .items => readItem n b
  | .labels => readLabel n b
  | .addresses => readAddress n b
  | .guestSessions => readSession n b
  | .notices =>
    match b.mgmt.notices[n]? with
    | some e => .notice e
    | none => .empty
  | .counters => readCounter n b

/-- R187: the longest body of an ANSWER, 4,096 bytes. -/
def maxBody : Nat := 4096

/-- R187: whether an ANSWER with these records and cursor keeps within its longest body (log 10). -/
def bodyFits (rs : List ReadRecord) (cursor : Nat) : Bool :=
  decide (Config.bodyBytes ReplyBody (.records rs cursor) ≤ maxBody)

/-- R187: up to `count` records from the cursor; the reading stops before one that would make the body too long. -/
def readFrom (b : Block) : Nat → List ReadRecord → TableWindow → List ReadRecord × TableWindow
  | 0, acc, w => (acc, w)
  | count + 1, acc, w =>
    if bodyFits (acc ++ [readAt w.table w.cursor b]) (nextCursor w) then
      readFrom b count (acc ++ [readAt w.table w.cursor b]) (stepWindow w)
    else (acc, w)

/-- R187: a READ: the count, then the window (log 39). -/
def applyRead (src : MgmtSource) (count : Nat) (b : Block) : Block × ReplyBody :=
  if within 1 64 count then
    match windowOf b src with
    | none => (b, .refusal .windowRange none)
    | some w =>
      (setWindow src (readFrom b count [] w).2 b,
       .records (readFrom b count [] w).1 (readFrom b count [] w).2.cursor)
  else (b, .refusal .fieldRange none)

/-- R187: the part identification, BIPORA 4860, as character codes. -/
def partIdentification : Text := [66, 73, 80, 79, 82, 65, 32, 52, 56, 54, 48]

/-- R187: the answer to STATUS. -/
def statusReport (b : Block) : StatusReport where
  identification := partIdentification
  revision := Config.revision
  mode := b.mode.mode
  lineUp := b.line.up
  exchange := b.exch.state
  window := b.mode.window
  clock := b.mode.clock
  items := b.items.table.length
  labels := b.labels.table.length
  tills := registeredTills b
  sessions := b.guest.sessions.length
  journal := b.till.journal.length

end Sys2Proof.Machine
end

