-- ==== Sys2Proof/Machine/Restart.lean ====
section
/-! DEFINITION. The settings flash (R190) and the restarts (R191). -/

namespace Sys2Proof.Machine

/-! ## The settings flash (R190) -/

/-- R190: the stored settings as they stand. -/
def storedSettings (b : Block) : StoredSettings where
  ports := b.fwd.ports.map PortRecord.settings
  gateways := b.fwd.gateways
  aging := b.fwd.aging
  collector := b.mgmt.collector
  policy := b.fwd.policy
  schedule := b.mode.schedule
  modeSettings := b.mode.settings
  decimals := b.price.decimals
  mark := b.price.mark
  glyph := b.price.glyph
  templates := b.composer.templates
  fonts := b.composer.fonts
  glyphs := b.composer.glyphs
  radio := b.radio.settings
  guest := b.guest.profile

/-- R190: the SAVE_SETTINGS command: a save of 2 s begins with a copy, or BUSY. -/
def applySave (b : Block) : Block × ReplyBody :=
  if b.mgmt.save.isSome then (b, .refusal .busy none)
  else ({ b with mgmt := { b.mgmt with save := some (SaveInProgress.mk (storedSettings b) 2000) } }, .done)

/-- R190: SAVE_COMPLETE: the image, newly written, is VALID and passes its check; without a save in progress there is no
such event. -/
def saveComplete (b : Block) : Block :=
  match b.mgmt.save with
  | none => b
  | some x =>
    notice .settingsSaved .flash { b with mgmt := { b.mgmt with flash := some x.copy, flashSound := true, save := none } }

/-- R190: the image after a restart: INVALID when a save was in progress. -/
def flashAfterRestart (m : MgmtBlock) : Option StoredSettings := if m.save.isSome then none else m.flash

/-- R190: whether the image passes its check at a cold restart: a free value for each check, and an image that failed one
fails until a save completes (log 50). -/
def imagePasses (m : MgmtBlock) : Bool := m.flashSound && Config.imagePasses m.checks

/-- R190: the settings a cold restart loads: the image when it is VALID and passes its check. -/
def goodImage (m : MgmtBlock) : Option StoredSettings := if imagePasses m then flashAfterRestart m else none

/-! ## Restarts (R191) -/

/-- R189, R191: the management interface at a warm restart. -/
def warmMgmt (b : Block) : Block :=
  { b with mgmt := { b.mgmt with
      storeWindow := none
      officeWindow := none
      writes := []
      notices := []
      flash := flashAfterRestart b.mgmt
      save := none } }

/-- R90, R107: the first beacon after a restart comes a slot later (log 6). -/
def warmTime (b : Block) : Block := { b with time := { b.time with toBeacon := 250 } }

/-- R74, R75, R107: the label directory, the radio and the composer at a warm restart. -/
def warmLabels (b : Block) : Block := warmComposer (warmRadio (warmDirectory (warmCycle b) b))

/-- R191: a warm restart, block by block (log 30); the notice queue is emptied first. -/
def warmRestart (b : Block) : Block :=
  warmTime (warmExchange (warmLine (warmGuest (warmForwarder (warmTill (warmLabels (warmMode (warmMgmt b))))))))

/-- R191: a cold restart: every stored setting from a good flash image, or its default. -/
def coldRestart (b : Block) : Block :=
  coldBlock ((goodImage b.mgmt).getD defaultSettings) (goodImage b.mgmt).isSome (flashAfterRestart b.mgmt)
    (imagePasses b.mgmt) (b.mgmt.checks + 1) b.fwd.hwAddress b.line.runs b.time.now b.pins b.out

/-- R191: the reset line, with the retain line as it stands: high starts a warm restart, low a cold one. -/
def resetBy (retain : Bool) (b : Block) : Block :=
  if retain then warmRestart { b with pins := { b.pins with retain := retain } }
  else coldRestart { b with pins := { b.pins with retain := retain } }

/-! ## Meanings -/

/-- SAVE_COMPLETE (R190). -/
def execSaveComplete (s : State) : Host.Outcome State Fault Refusal := act saveComplete s

/-- RESET_LINE (R191). -/
def execResetLine (retain : Bool) (s : State) : Host.Outcome State Fault Refusal := act (resetBy retain) s

/-- POWER_UP (R191). -/
def execPowerUp (s : State) : Host.Outcome State Fault Refusal := act coldRestart s

end Sys2Proof.Machine
end

