-- ==== Sys2Proof/Machine/Manage.lean ====
section
/-! DEFINITION. Management messages (R184 to R188), the sending of notices (R189), and the meanings of the commands and
record writes that reach the part by them. -/

namespace Sys2Proof.Machine

/-! ## Messages (R184) -/

/-- R159, R184: whether a source's message is taken at all: head office's only while the line passes frames on
(log 7). -/
def sourceTakes (b : Block) : MgmtSource → Bool
  | .storeServer _ _ _ => true
  | .headOffice => lineTakes b

/-- R184: a message for another station is ignored and counted. -/
def ignoreMessage (b : Block) : Block := bump .mgmtIgnored b

/-- R184: a message taken: its effect, then its one answer. -/
def answered (h : MgmtHeader) (f : Block → Block × ReplyBody) (b : Block) : Block :=
  answerMgmt h.source h.tag (f b).2 (f b).1

/-- R184: a message for this station is taken as `f`; any other is ignored. -/
def forStation (h : MgmtHeader) (f : Block → Block) (b : Block) : Block :=
  if h.station = b.pins.straps.val then f b else ignoreMessage b

/-- R184: a message of a source, taken as `f` and answered once. -/
def message (h : MgmtHeader) (f : Block → Block × ReplyBody) (b : Block) : Block :=
  if sourceTakes b h.source then forStation h (answered h f) b else b

/-- R184: a message of a source, taken as `f`, which answers it where an answer is due: a restart command is not answered
(R191), and a WRITE taken record by record not before its last record (R186). -/
def silentMessage (h : MgmtHeader) (f : Block → Block) (b : Block) : Block :=
  if sourceTakes b h.source then forStation h f b else b

/-! ## Commands (R188) -/

/-- R189: CLEAR_NOTICES empties the queue. -/
def applyClearNotices (b : Block) : Block × ReplyBody := ({ b with mgmt := { b.mgmt with notices := [] } }, .done)

/-- R188: a command of a COMMAND message that is answered; a restart command is taken by `commandMessage`. -/
def applyCommand (c : MgmtCommand) (b : Block) : Block × ReplyBody :=
  match c with
  | .openStore => applyOpen b
  | .closeStore => applyClose b
  | .closeNow => applyCloseNow b
  | .windowOpen => applyWindowOpen b
  | .windowClose => applyWindowClose b
  | .setClock v => applySetClock v b
  | .release code => applyRelease code b
  | .forceLabel id => applyForce id b
  | .qualifyLine len insertion => applyQualify len insertion b
  | .loopback mode duration => applyLoopback mode duration b
  | .endGuest hw => applyEndGuest hw b
  | .clearNotices => applyClearNotices b
  | .saveSettings => applySave b
  | .warmRestart => (b, .done)
  | .coldRestart => (b, .done)
  | .unknown => (b, .refusal .unknownKind none)

/-- R188, R191: a COMMAND message for this station. -/
def commandMessage (h : MgmtHeader) (c : MgmtCommand) (b : Block) : Block :=
  match c with
  | .warmRestart => warmRestart b
  | .coldRestart => coldRestart b
  | _ => answered h (applyCommand c) b

/-- R184: a message for this station, by kind; the REFUSAL of a malformed one carries no index, of a WRITE neither
(log 65). -/
def takeBody (h : MgmtHeader) (m : MgmtBody) (b : Block) : Block :=
  match m with
  | .window table first last direction => answered h (applyWindow h.source table first last direction) b
  | .write rs => answered h (applyWrite h.source rs) b
  | .read count => answered h (applyRead h.source count) b
  | .command c => commandMessage h c b
  | .status => answered h (fun c => (c, .status (statusReport c))) b
  | .unknownKind => answered h (fun c => (c, .refusal .unknownKind none)) b
  | .malformed => answered h (fun c => (c, .refusal .fieldRange none)) b

/-- R184: a management message handed to the management interface. -/
def takeMessage (src : MgmtSource) (m : MgmtMessage) (b : Block) : Block :=
  forStation (MgmtHeader.mk src m.station m.tag) (takeBody (MgmtHeader.mk src m.station m.tag) m.body) b

/-! ## Record writes (R186, log 8) -/

/-- The answer of a WRITE, where it is due. -/
def answerWrite (h : MgmtHeader) (x : Block × Option ReplyBody) : Block :=
  match x.2 with
  | some r => answerMgmt h.source h.tag r x.1
  | none => x.1

/-- R186, log 9: a record of a WRITE taken record by record: the message is taken with its first record. -/
def partOfWrite (h : MgmtHeader) (index count : Nat) (r : WriteRecord) (b : Block) : Block :=
  if index ≤ 1 then
    (if index = 0 then b else silentMessage h (fun c => answerWrite h (writeFirst h count r c)) b)
  else answerWrite h (writeLater h index count r b)

/-- A record write: as the one record of a WRITE message, as one of several, or as the owner's own event at a position,
whose result is reported. -/
def writeBy (via : Via) (t : TableName) (r : WriteRecord) (b : Block) : Block :=
  match via with
  | .message h => message h (applyWrite h.source [r]) b
  | .part h index count => partOfWrite h index count r b
  | .event n => emit (.recordResult (writeAt t n r b).2) (writeAt t n r b).1

/-! ## Notices sent (R189) -/

/-- R189: a NOTICE answers no message; its tag is 0 (log 40). -/
def noticeMessage (e : NoticeEntry) : MgmtReply := MgmtReply.mk 0 (.notice e)

/-- R189: the head entry leaves the queue. -/
def dropHead (b : Block) : Block := { b with mgmt := { b.mgmt with notices := b.mgmt.notices.drop 1 } }

/-- R189: a NOTICE to a collector in the OFFICE range, through its entry's port. -/
def noticeToOffice (a : NetAddr) (p : Nat × AddressEntry) (e : NoticeEntry) (b : Block) : Block :=
  sendLan p.2.port .office (BitVec.ofNat 48 (keyHw p.1)) b.fwd.hwAddress
    (.mgmt (gatewayOf b .office).address a (noticeMessage e)) b

/-- R189: the head entry sent as a NOTICE, where its path allows; none where it does not. -/
def sendHead (a : NetAddr) (e : NoticeEntry) (b : Block) : Option Block :=
  if inRange (gatewayOf b .office) a then
    (neighbour b .office a).map (fun p => dropHead (noticeToOffice a p e b))
  else if (segmentOf b a).isSome then none
  else if b.line.up && classFits b .management (.management (noticeMessage e)) then
    some (dropHead (admitFrame .management (.management (noticeMessage e)) b))
  else none

/-- R189: NOTICE_SEND; none where there is no such event: no collector, no entry, or no path. -/
def noticeSend? (b : Block) : Option Block :=
  match b.mgmt.collector, b.mgmt.notices with
  | some a, e :: _ => sendHead a e b
  | _, _ => none

/-- R189: NOTICE_SEND. -/
def noticeSend (b : Block) : Block := (noticeSend? b).getD b

/-! ## Meanings: commands -/

/-- OPEN (R2). -/
def execOpen (h : MgmtHeader) (s : State) : Host.Outcome State Fault Refusal := act (message h applyOpen) s

/-- CLOSE (R3). -/
def execClose (h : MgmtHeader) (s : State) : Host.Outcome State Fault Refusal := act (message h applyClose) s

/-- CLOSE_NOW (R4). -/
def execCloseNow (h : MgmtHeader) (s : State) : Host.Outcome State Fault Refusal := act (message h applyCloseNow) s

/-- SET_CLOCK (R10). -/
def execSetClock (h : MgmtHeader) (v : Nat) (s : State) : Host.Outcome State Fault Refusal :=
  act (message h (applySetClock v)) s

/-- WINDOW_OPEN (R14). -/
def execWindowOpen (h : MgmtHeader) (s : State) : Host.Outcome State Fault Refusal := act (message h applyWindowOpen) s

/-- WINDOW_CLOSE (R14). -/
def execWindowClose (h : MgmtHeader) (s : State) : Host.Outcome State Fault Refusal :=
  act (message h applyWindowClose) s

/-- RELEASE (R26). -/
def execRelease (h : MgmtHeader) (code : Nat) (s : State) : Host.Outcome State Fault Refusal :=
  act (message h (applyRelease code)) s

/-- FORCE_LABEL (R71). -/
def execForceLabel (h : MgmtHeader) (id : Nat) (s : State) : Host.Outcome State Fault Refusal :=
  act (message h (applyForce id)) s

/-- END_GUEST (R152). -/
def execEndGuest (h : MgmtHeader) (hw : HwAddr) (s : State) : Host.Outcome State Fault Refusal :=
  act (message h (applyEndGuest hw)) s

/-- LOOPBACK (R166). -/
def execLoopback (h : MgmtHeader) (mode : Coded Loopback) (duration : Option Nat) (s : State) :
    Host.Outcome State Fault Refusal := act (message h (applyLoopback mode duration)) s

/-- QUALIFY_LINE (R169). -/
def execQualifyLine (h : MgmtHeader) (len : Option Nat) (insertion : Option Insertion) (s : State) :
    Host.Outcome State Fault Refusal := act (message h (applyQualify len insertion)) s

/-- WINDOW (R185). -/
def execWindow (h : MgmtHeader) (table : Coded TableName) (first last : Nat) (direction : Coded Direction) (s : State) :
    Host.Outcome State Fault Refusal := act (message h (applyWindow h.source table first last direction)) s

/-- READ (R187). -/
def execRead (h : MgmtHeader) (count : Nat) (s : State) : Host.Outcome State Fault Refusal :=
  act (message h (applyRead h.source count)) s

/-- STATUS (R187). -/
def execStatus (h : MgmtHeader) (s : State) : Host.Outcome State Fault Refusal :=
  act (message h (fun b => (b, .status (statusReport b)))) s

/-- CLEAR_NOTICES (R189). -/
def execClearNotices (h : MgmtHeader) (s : State) : Host.Outcome State Fault Refusal :=
  act (message h applyClearNotices) s

/-- NOTICE_SEND (R189). -/
def execNoticeSend (s : State) : Host.Outcome State Fault Refusal := act noticeSend s

/-- SAVE_SETTINGS (R190). -/
def execSaveSettings (h : MgmtHeader) (s : State) : Host.Outcome State Fault Refusal := act (message h applySave) s

/-- WARM_RESTART (R191). -/
def execWarmRestart (h : MgmtHeader) (s : State) : Host.Outcome State Fault Refusal :=
  act (silentMessage h warmRestart) s

/-- COLD_RESTART (R191). -/
def execColdRestart (h : MgmtHeader) (s : State) : Host.Outcome State Fault Refusal :=
  act (silentMessage h coldRestart) s

/-! ## Meanings: record writes and change records -/

/-- PRICE (R40 to R44). -/
def execPrice (via : Via) (r : PriceRecord) (s : State) : Host.Outcome State Fault Refusal :=
  act (writeBy via .items (.price r)) s

/-- DESCRIPTION (R46). -/
def execDescription (via : Via) (code : Nat) (text : Text) (s : State) : Host.Outcome State Fault Refusal :=
  act (writeBy via .items (.description code text)) s

/-- WITHDRAW (R47). -/
def execWithdraw (via : Via) (code : Nat) (s : State) : Host.Outcome State Fault Refusal :=
  act (writeBy via .items (.withdraw code)) s

/-- LABEL (R54). -/
def execLabel (via : Via) (id : Nat) (cls : Coded DisplayClass) (s : State) : Host.Outcome State Fault Refusal :=
  act (writeBy via .labels (.label id cls)) s

/-- BIND (R60). -/
def execBind (via : Via) (id code template : Nat) (s : State) : Host.Outcome State Fault Refusal :=
  act (writeBy via .labels (.bind id code template)) s

/-- UNBIND (R61). -/
def execUnbind (via : Via) (id : Nat) (s : State) : Host.Outcome State Fault Refusal :=
  act (writeBy via .labels (.unbind id)) s

/-- TEMPLATE (R61). -/
def execTemplate (via : Via) (id template : Nat) (s : State) : Host.Outcome State Fault Refusal :=
  act (writeBy via .labels (.templateChange id template)) s

/-- PORT_WRITE (R128, R129). -/
def execPortWrite (via : Via) (r : PortWrite) (s : State) : Host.Outcome State Fault Refusal :=
  act (writeBy via .ports (.port r)) s

/-- GATEWAY_RECORD_WRITE (R131). -/
def execGatewayRecordWrite (via : Via) (r : GatewayWrite) (s : State) : Host.Outcome State Fault Refusal :=
  act (writeBy via .ports (.gateway r)) s

/-- AGING_TIME_WRITE (R131, R134). -/
def execAgingTimeWrite (via : Via) (aging : Nat) (s : State) : Host.Outcome State Fault Refusal :=
  act (writeBy via .ports (.forwarder aging)) s

/-- COLLECTOR_RECORD_WRITE (R189). -/
def execCollectorRecordWrite (via : Via) (a : Option NetAddr) (s : State) : Host.Outcome State Fault Refusal :=
  act (writeBy via .ports (.collector a)) s

/-- POLICY_CELL_WRITE (R140). -/
def execPolicyCellWrite (via : Via) (allow : Coded Bool) (s : State) : Host.Outcome State Fault Refusal :=
  act (writeBy via .policy (.policyCell allow)) s

/-- SCHEDULE_ENTRY_WRITE (R11). -/
def execScheduleEntryWrite (via : Via) (r : ScheduleWrite) (s : State) : Host.Outcome State Fault Refusal :=
  act (writeBy via .schedule (.scheduleEntry r)) s

/-- MODE_SETTINGS_WRITE (R8). -/
def execModeSettingsWrite (via : Via) (r : ModeSettingsWrite) (s : State) : Host.Outcome State Fault Refusal :=
  act (writeBy via .schedule (.modeSettings r)) s

/-- PRICE_SETTINGS_WRITE (R16). -/
def execPriceSettingsWrite (via : Via) (r : PriceSettingsWrite) (s : State) : Host.Outcome State Fault Refusal :=
  act (writeBy via .priceSettings (.priceSettings r)) s

/-- TEMPLATE_WRITE (R76, R77). -/
def execTemplateWrite (via : Via) (r : TemplateWrite) (s : State) : Host.Outcome State Fault Refusal :=
  act (writeBy via .templates (.template r)) s

/-- FONT_WRITE (R78). -/
def execFontWrite (via : Via) (height : Nat) (s : State) : Host.Outcome State Fault Refusal :=
  act (writeBy via .glyphs (.font height)) s

/-- GLYPH_WRITE (R78). -/
def execGlyphWrite (via : Via) (r : GlyphWrite) (s : State) : Host.Outcome State Fault Refusal :=
  act (writeBy via .glyphs (.glyph r)) s

/-- RADIO_SETTINGS_WRITE (R92). -/
def execRadioSettingsWrite (via : Via) (r : RadioSettingsWrite) (s : State) : Host.Outcome State Fault Refusal :=
  act (writeBy via .radioSettings (.radioSettings r)) s

/-- GUEST_PROFILE_WRITE (R144). -/
def execGuestProfileWrite (via : Via) (r : GuestProfileWrite) (s : State) : Host.Outcome State Fault Refusal :=
  act (writeBy via .guestProfile (.guestProfile r)) s

/-- READ_ONLY_WRITE (R186): a WRITE of any records; where its window is read only it is refused with READ_ONLY. -/
def execReadOnlyWrite (h : MgmtHeader) (records : List WriteRecord) (s : State) : Host.Outcome State Fault Refusal :=
  act (message h (applyWrite h.source records)) s

end Sys2Proof.Machine
end

