-- ==== Sys2Proof/Machine/Frames.lean ====
section
/-! DEFINITION. Frames arriving at the part: LAN_FRAME (R129 to R139) and LINE_FRAME (R159, R167, R168), and the hand-offs
of the label directory. -/

namespace Sys2Proof.Machine

/-! ## LAN frames -/

/-- R137: a service of the 4860 takes what the forwarder hands it. -/
def serve (x : ServiceHandoff) (b : Block) : Block :=
  match x with
  | .nothing => b
  | .till sender f => tillFrame sender f b
  | .mgmt src m => takeMessage src m b

/-- LAN_FRAME: a frame taken at a port. -/
def lanFrame (p : Port) (f : LanFrame) (b : Block) : Block := serve (forwardFrame p f b).2 (forwardFrame p f b).1

/-! ## Line frames -/

/-- R159: a kind that is not passed on; also content that its kind cannot have (log 25). -/
def unexpected (b : Block) : Block := bump .unexpectedKind b

/-- R159: a valid frame passed on by its kind. -/
def passOn (c : LineContent) (b : Block) : Block :=
  match c with
  | .alive => b
  | .data src dst content => fromUplink src dst content b
  | .management m => takeMessage .headOffice m b
  | .exchange f => takeExchange f b
  | .journalBlock => unexpected b
  | .journalAck n => takeAck n b
  | .testLoop => takeTestLoop b
  | .testPattern number bits => if bits.length = 256 then takePattern number bits b else unexpected b
  | .malformed => unexpected b
  | .unknownKind => unexpected b

/-- R159, R161: a valid frame received and counted for the line state. -/
def receiveValid (b : Block) : Block := countForState (bump .framesReceived b)

/-- R159: a valid frame with no loopback: passed on once the line is UP, the change it brings included. -/
def validFrame (c : LineContent) (b : Block) : Block :=
  if (receiveValid b).line.up then passOn c (receiveValid b) else bump .receivedWhileDown (receiveValid b)

/-- R159, R170: a frame whose CRC does not match; a pattern frame still goes to a running qualification (log 23). -/
def damagedFrame (c : LineContent) (b : Block) : Block :=
  match c, b.line.qual with
  | .testPattern number bits, some q =>
    if bits.length = 256 then examine number bits q (bump .crcError b) else bump .crcError b
  | _, _ => bump .crcError b

/-- R159: what the framing and CRC of an arriving frame say. -/
inductive FrameCheck where
  | badFrame
  | badCrc
  | valid
  deriving DecidableEq, Repr

/-- R159: the longest content of a line frame. -/
def maxContent : Nat := 4608

/-- R159: a frame's length and completeness, then its CRC. -/
def checkFrame (f : LineInput) : FrameCheck :=
  if maxContent < f.length ∨ f.complete = false then .badFrame
  else if f.crcOk then .valid
  else .badCrc

/-- R159: a frame of the line with no loopback in force. -/
def receiveFrame (f : LineInput) (b : Block) : Block :=
  match checkFrame f with
  | .badFrame => bump .frameError b
  | .badCrc => damagedFrame f.content b
  | .valid => validFrame f.content b

/-- R168: a frame of the line in REMOTE: checked and counted for the line state, and not passed on. -/
def checkRemote (f : LineInput) (b : Block) : Block :=
  match checkFrame f with
  | .badFrame => bump .frameError b
  | .badCrc => bump .crcError b
  | .valid => if (receiveValid b).line.up then receiveValid b else bump .receivedWhileDown (receiveValid b)

/-- R168: in REMOTE a frame is sent back as received. -/
def echoFrame (f : LineInput) (b : Block) : Block := checkRemote f (bump .remoteEchoed (emit (.lineEcho f) b))

/-- R159, R167, R168: a frame arriving from the line; in LOCAL the receive input is ignored. -/
def arriveFromLine (f : LineInput) (b : Block) : Block :=
  match b.line.loopback with
  | .off => receiveFrame f b
  | .localLoop => b
  | .remoteLoop => echoFrame f b

/-- R167: a valid returned frame once it was counted: TEST frames go to the qualification engine while the line is UP;
every other one is discarded and counted (log 24). A pattern frame of a test aborted before goes to the one that runs now
(log 57). -/
def sortReturned (f : SentFrame) (b : Block) : Block :=
  match f with
  | .queued .testLoop => if b.line.up then takeTestLoop b else bump .receivedWhileDown b
  | .queued (.testPattern _ number insertion) =>
    if b.line.up then takePattern number (patternBits number insertion) b else bump .receivedWhileDown b
  | _ => bump .loopedBack (if b.line.up then b else bump .receivedWhileDown b)

/-- The length of the content of a frame the transmitter sent. -/
def sentLength : SentFrame → Nat
  | .alive => 0
  | .queued c => uplinkBytes c

/-- R159, R167: a returned frame taken for its framing and counted. -/
def takeReturned (f : SentFrame) (b : Block) : Block :=
  if maxContent < sentLength f then bump .frameError b else sortReturned f (receiveValid b)

/-- R167: the next frame that LOCAL returns; with none there is no such event. -/
def arriveReturned (b : Block) : Block :=
  match b.line.loopback, b.line.returning with
  | .localLoop, f :: rest => takeReturned f { b with line := { b.line with returning := rest } }
  | _, _ => b

/-- LINE_FRAME: a frame at the receive input. -/
def lineFrame (a : LineArrival) (b : Block) : Block :=
  match a with
  | .fromLine f => arriveFromLine f b
  | .returned => arriveReturned b

/-! ## Meanings -/

/-- LAN_FRAME (R129 to R139). -/
def execLanFrame (p : Port) (f : LanFrame) (s : State) : Host.Outcome State Fault Refusal := act (lanFrame p f) s

/-- LINE_FRAME (R159, R167, R168). -/
def execLineFrame (a : LineArrival) (s : State) : Host.Outcome State Fault Refusal := act (lineFrame a) s

/-- ITEM_RETARGET (R62). -/
def execItemRetarget (s : State) : Host.Outcome State Fault Refusal := act itemRetarget s

/-- TEMPLATE_RETARGET (R62). -/
def execTemplateRetarget (s : State) : Host.Outcome State Fault Refusal := act templateRetarget s

/-- SWEEP_VISIT (R72). -/
def execSweepVisit (s : State) : Host.Outcome State Fault Refusal := act sweepVisit s

end Sys2Proof.Machine
end

