-- ==== Sys2Proof/Machine/Time.lean ====
section
/-! DEFINITION. The time base (log 1): which of the part's own events is due, and a millisecond that passes when none
is. -/

namespace Sys2Proof.Machine

/-! ## Events that are due -/

/-- A timer that has run out. -/
def runOut (t : Option Nat) : Bool := decide (t = some 0)

/-- R62, R72, R121, R189: the hand-offs and the sending that wait for nothing. -/
def dueHandoff (b : Block) : Option Instr :=
  if !b.labels.handoffs.isEmpty then some .itemRetarget
  else if !b.labels.templateHandoffs.isEmpty then some .templateRetarget
  else if b.labels.sweep.isSome then some .sweepVisit
  else if (noticeSend? b).isSome then some .noticeSend
  else if blockReady b then some .journalBlock
  else none

/-- R5, R9, R156, R190: the timers of the mode controller, the governor and the flash. -/
def dueStore (b : Block) : Option Instr :=
  if runOut b.mode.drain then some .drainTimerExpiry
  else if b.time.toSecond = 0 then some .clockAdvance
  else if b.time.toGovernor = 0 then some .governorReading
  else if b.mgmt.save.map SaveInProgress.remaining = some 0 then some .saveComplete
  else none

/-- R160, R161, R166, R170, R177: the timers of the uplink line and the exchange engine. -/
def dueLine (b : Block) : Option Instr :=
  if b.line.up && runOut b.line.loss then some .lossTimerExpiry
  else if b.line.aliveTimer = 0 then some .aliveTimerExpiry
  else if decide (b.line.loopback ≠ .off) && runOut b.line.loopTimer then some .loopbackTimerExpiry
  else if (b.line.qual.bind Qualification.timer) = some 0 then some .qualifyTimeout
  else if runOut b.exch.hold then some .reopenHoldExpiry
  else none

/-- The numbers of the 96 tills. -/
def tillNumbers : List Nat := (List.range 96).map (· + 1)

/-- R112: a till whose silence timer has run out. -/
def silenceDue (b : Block) (n : Nat) : Bool :=
  decide ((tillRecord b n).state = .active) && runOut (tillRecord b n).timer

/-- R112, R123: the timers of the till service. -/
def dueTill (b : Block) : Option Instr :=
  if runOut b.till.ackTimer then some .acknowledgementTimerExpiry
  else (tillNumbers.find? (silenceDue b)).map Instr.silenceTimerExpiry

/-- R134: an address entry that has reached the aging time. -/
def dueAddress (b : Block) : Option Instr :=
  (b.fwd.addresses.find? (fun e => overAge b e.2)).map
    (fun e => .addressAgingExpiry (keySegment e.1) (BitVec.ofNat 48 (keyHw e.1)))

/-- R150: the expiry a session has reached. -/
def sessionDue (now : Nat) (g : GuestProfile) (hw : HwAddr) (s : Session) : Option Instr :=
  match s.state with
  | .active =>
    if overTime now g s then some (.timeLimitExpiry hw)
    else if overIdle now g s then some (.idleLimitExpiry hw)
    else none
  | .exhausted => if overTime now g s then some (.timeLimitExpiry hw) else none
  | .cooldown => if overCooldown now g s then some (.cooldownEnd hw) else none

/-- R150: the first session with an expiry. -/
def dueGuest (b : Block) : Option Instr :=
  b.guest.sessions.findSome? (fun p => sessionDue b.time.now b.guest.profile (BitVec.ofNat 48 p.1) p.2)

/-- R90: the beacon. -/
def dueBeacon (b : Block) : Option Instr := if b.time.toBeacon = 0 then some .beacon else none

/-- Log 1: the event of the part's own that is due, in a fixed order. -/
def due (b : Block) : Option Instr :=
  (dueHandoff b).orElse fun _ => (dueStore b).orElse fun _ => (dueLine b).orElse fun _ => (dueTill b).orElse fun _ =>
    (dueAddress b).orElse fun _ => (dueGuest b).orElse fun _ => dueBeacon b

/-! ## A millisecond -/

/-- A timer a millisecond later. -/
def tickTimer (t : Option Nat) : Option Nat := t.map (· - 1)

/-- The time base and the periodic events a millisecond later. -/
def tickTime (t : TimeBlock) : TimeBlock where
  now := t.now + 1
  toSecond := t.toSecond - 1
  toGovernor := t.toGovernor - 1
  toBeacon := t.toBeacon - 1

/-- The qualification's timer a millisecond later. -/
def tickQual (q : Qualification) : Qualification := { q with timer := tickTimer q.timer }

/-- The line's timers a millisecond later. -/
def tickLine (l : LineBlock) : LineBlock :=
  { l with
    loss := tickTimer l.loss
    aliveTimer := l.aliveTimer - 1
    loopTimer := tickTimer l.loopTimer
    qual := l.qual.map tickQual }

/-- The till service's timers a millisecond later. -/
def tickTill (t : TillBlock) : TillBlock :=
  { t with
    ackTimer := tickTimer t.ackTimer
    records := t.records.map (fun r => { r with timer := tickTimer r.timer }) }

/-- A save a millisecond later. -/
def tickSave (x : SaveInProgress) : SaveInProgress := { x with remaining := x.remaining - 1 }

/-- Log 1: a millisecond of the time base: every timer runs down and the buckets fill. -/
def tick (b : Block) : Block :=
  { fillBuckets b with
    mode := { b.mode with drain := tickTimer b.mode.drain }
    line := tickLine b.line
    till := tickTill b.till
    exch := { b.exch with hold := tickTimer b.exch.hold }
    mgmt := { b.mgmt with save := b.mgmt.save.map tickSave }
    time := tickTime b.time }

end Sys2Proof.Machine
end

