-- ==== Sys2Proof/Machine/Dispatch.lean ====
section
/-! DEFINITION. The meaning of each command: one arm per row of spec/opcode_table.json. -/

namespace Sys2Proof.Machine

/-- A command's effect on everything but the queue of waiting commands. -/
def exec (i : Instr) (s : State) : Host.Outcome State Fault Refusal :=
  match i with
  | .openCmd h => Sys2Proof.Machine.execOpen h s
  | .closeCmd h => Sys2Proof.Machine.execClose h s
  | .closeNow h => Sys2Proof.Machine.execCloseNow h s
  | .drainTimerExpiry => Sys2Proof.Machine.execDrainTimerExpiry s
  | .setClock h value => Sys2Proof.Machine.execSetClock h value s
  | .clockAdvance => Sys2Proof.Machine.execClockAdvance s
  | .windowOpen h => Sys2Proof.Machine.execWindowOpen h s
  | .windowClose h => Sys2Proof.Machine.execWindowClose h s
  | .release h code => Sys2Proof.Machine.execRelease h code s
  | .price via r => Sys2Proof.Machine.execPrice via r s
  | .description via code text => Sys2Proof.Machine.execDescription via code text s
  | .withdraw via code => Sys2Proof.Machine.execWithdraw via code s
  | .label via id cls => Sys2Proof.Machine.execLabel via id cls s
  | .bind via id code template => Sys2Proof.Machine.execBind via id code template s
  | .unbind via id => Sys2Proof.Machine.execUnbind via id s
  | .templateRecord via id template => Sys2Proof.Machine.execTemplate via id template s
  | .itemRetarget => Sys2Proof.Machine.execItemRetarget s
  | .templateRetarget => Sys2Proof.Machine.execTemplateRetarget s
  | .sweepVisit => Sys2Proof.Machine.execSweepVisit s
  | .forceLabel h id => Sys2Proof.Machine.execForceLabel h id s
  | .beacon => Sys2Proof.Machine.execBeacon s
  | .labelReply t => Sys2Proof.Machine.execLabelReply t s
  | .replyWindowClose => Sys2Proof.Machine.execReplyWindowClose s
  | .checkIn c => Sys2Proof.Machine.execCheckIn c s
  | .hello sender till => Sys2Proof.Machine.execHello sender till s
  | .priceQuery sender till code => Sys2Proof.Machine.execPriceQuery sender till code s
  | .saleRecord sender till sequence time lines => Sys2Proof.Machine.execSaleRecord sender till sequence time lines s
  | .silenceTimerExpiry till => Sys2Proof.Machine.execSilenceTimerExpiry till s
  | .journalBlock => Sys2Proof.Machine.execJournalBlock s
  | .journalAck number => Sys2Proof.Machine.execJournalAck number s
  | .acknowledgementTimerExpiry => Sys2Proof.Machine.execAcknowledgementTimerExpiry s
  | .lanFrame port f => Sys2Proof.Machine.execLanFrame port f s
  | .linkUp port => Sys2Proof.Machine.execLinkUp port s
  | .linkDown port => Sys2Proof.Machine.execLinkDown port s
  | .addressAgingExpiry segment hw => Sys2Proof.Machine.execAddressAgingExpiry segment hw s
  | .timeLimitExpiry hw => Sys2Proof.Machine.execTimeLimitExpiry hw s
  | .idleLimitExpiry hw => Sys2Proof.Machine.execIdleLimitExpiry hw s
  | .cooldownEnd hw => Sys2Proof.Machine.execCooldownEnd hw s
  | .endGuest h hw => Sys2Proof.Machine.execEndGuest h hw s
  | .governorReading => Sys2Proof.Machine.execGovernorReading s
  | .lineFrame a => Sys2Proof.Machine.execLineFrame a s
  | .lossTimerExpiry => Sys2Proof.Machine.execLossTimerExpiry s
  | .aliveTimerExpiry => Sys2Proof.Machine.execAliveTimerExpiry s
  | .transmitStart => Sys2Proof.Machine.execTransmitStart s
  | .loopback h mode duration => Sys2Proof.Machine.execLoopback h mode duration s
  | .loopbackTimerExpiry => Sys2Proof.Machine.execLoopbackTimerExpiry s
  | .qualifyLine h length insertion => Sys2Proof.Machine.execQualifyLine h length insertion s
  | .qualifyTimeout => Sys2Proof.Machine.execQualifyTimeout s
  | .exchangeOpen => Sys2Proof.Machine.execExchangeOpen s
  | .batchStart n k => Sys2Proof.Machine.execBatchStart n k s
  | .exchangeRecords records => Sys2Proof.Machine.execExchangeRecords records s
  | .batchEnd check => Sys2Proof.Machine.execBatchEnd check s
  | .reopenHoldExpiry => Sys2Proof.Machine.execReopenHoldExpiry s
  | .window h table first last direction => Sys2Proof.Machine.execWindow h table first last direction s
  | .read h count => Sys2Proof.Machine.execRead h count s
  | .status h => Sys2Proof.Machine.execStatus h s
  | .portWrite via r => Sys2Proof.Machine.execPortWrite via r s
  | .gatewayRecordWrite via r => Sys2Proof.Machine.execGatewayRecordWrite via r s
  | .agingTimeWrite via aging => Sys2Proof.Machine.execAgingTimeWrite via aging s
  | .collectorRecordWrite via address => Sys2Proof.Machine.execCollectorRecordWrite via address s
  | .policyCellWrite via allow => Sys2Proof.Machine.execPolicyCellWrite via allow s
  | .scheduleEntryWrite via r => Sys2Proof.Machine.execScheduleEntryWrite via r s
  | .modeSettingsWrite via r => Sys2Proof.Machine.execModeSettingsWrite via r s
  | .priceSettingsWrite via r => Sys2Proof.Machine.execPriceSettingsWrite via r s
  | .templateWrite via r => Sys2Proof.Machine.execTemplateWrite via r s
  | .fontWrite via height => Sys2Proof.Machine.execFontWrite via height s
  | .glyphWrite via r => Sys2Proof.Machine.execGlyphWrite via r s
  | .radioSettingsWrite via r => Sys2Proof.Machine.execRadioSettingsWrite via r s
  | .guestProfileWrite via r => Sys2Proof.Machine.execGuestProfileWrite via r s
  | .readOnlyWrite h records => Sys2Proof.Machine.execReadOnlyWrite h records s
  | .clearNotices h => Sys2Proof.Machine.execClearNotices h s
  | .noticeSend => Sys2Proof.Machine.execNoticeSend s
  | .saveSettings h => Sys2Proof.Machine.execSaveSettings h s
  | .saveComplete => Sys2Proof.Machine.execSaveComplete s
  | .warmRestart h => Sys2Proof.Machine.execWarmRestart h s
  | .coldRestart h => Sys2Proof.Machine.execColdRestart h s
  | .resetLine retain => Sys2Proof.Machine.execResetLine retain s
  | .powerUp => Sys2Proof.Machine.execPowerUp s

end Sys2Proof.Machine
end

