-- ==== Sys2Proof/Machine/Step.lean ====
section
/-! DEFINITION. The step: the command at the front of the queue, or, on an empty queue, the part's own time (log 1). -/

namespace Sys2Proof.Machine

/-- Log 1: an empty queue: the event of the part's own that is due, or else a millisecond of the time base. -/
def idle (s : State) : Host.Outcome State Fault Refusal :=
  match due s.block with
  | some c => exec c s
  | none => act tick s

/-- One step: the command at the front of the queue is taken, with the queue's rest left waiting. -/
def step (s : State) : Host.Outcome State Fault Refusal :=
  match s.pending with
  | c :: rest => exec c { s with pending := rest }
  | [] => idle s

/-- The state with the command a word spells put at the front of the queue; no row of the table has bits, so no word
spells one and the state stays as it is (log 2). -/
def State.withFetchWord (s : State) (nbits w : Nat) : State :=
  match decodeTableWord nbits w with
  | some c => { s with pending := c :: s.pending }
  | none => s

end Sys2Proof.Machine
end

