-- ==== Sys2Proof/Safety.lean ====
section
/-! DEFINITION. What counts as a safe step, and the terms statements use: the parts of the block, what an effect leaves
alone, and the invariants of the manual. -/

namespace Sys2Proof.Machine

/-- A step is safe from a state when it goes on: neither a fault nor a refusal. The manual stops the 4860 nowhere. -/
def State.stepsOn (s : State) : Prop := ∃ t, step s = .next t

/-! ## What an effect leaves alone -/

/-- The parts of the block: the twelve blocks of the manual, the counters, the time base, the pins and the outputs. -/
inductive Part where
  | mode | price | items | labels | composer | radio | till | fwd | guest | line | exch | mgmt | counts | time | pins
  | out
  deriving DecidableEq, Repr

/-- Two blocks agree in a part. -/
def Part.same (p : Part) (b c : Block) : Prop :=
  match p with
  | .mode => b.mode = c.mode
  | .price => b.price = c.price
  | .items => b.items = c.items
  | .labels => b.labels = c.labels
  | .composer => b.composer = c.composer
  | .radio => b.radio = c.radio
  | .till => b.till = c.till
  | .fwd => b.fwd = c.fwd
  | .guest => b.guest = c.guest
  | .line => b.line = c.line
  | .exch => b.exch = c.exch
  | .mgmt => b.mgmt = c.mgmt
  | .counts => b.counts = c.counts
  | .time => b.time = c.time
  | .pins => b.pins = c.pins
  | .out => b.out = c.out

/-- From `b` to `c` nothing changed but the parts listed. -/
def Touches (ps : List Part) (b c : Block) : Prop := ∀ p, p ∉ ps → p.same b c

/-! ## Outcomes -/

/-- The outcome whose next state has the part `b`, the waiting commands as they were. -/
def State.becomes (s : State) (b : Block) : Host.Outcome State Fault Refusal := .next { s with block := b }

/-- R184: the outcome of a message that makes the part `b` and is answered with `r`. -/
def State.answers (s : State) (h : MgmtHeader) (r : ReplyBody) (b : Block) : Host.Outcome State Fault Refusal :=
  s.becomes (answerMgmt h.source h.tag r b)

/-- The outcome of a record taken as its owner's own event, which makes the part `b` and has the result `v` (log 8). -/
def State.reports (s : State) (v : Verdict) (b : Block) : Host.Outcome State Fault Refusal :=
  s.becomes (emit (.recordResult v) b)

/-- R159, R184: a management message is taken: it names this station, and one of head office arrives over a line that
passes frames on (log 7). -/
def Taken (h : MgmtHeader) (b : Block) : Prop :=
  h.station = b.pins.straps.val ∧ (h.source = .headOffice → b.line.up = true ∧ b.line.loopback = .off)

/-- R13: the command of the same effect as a schedule action. -/
def commandOf (h : MgmtHeader) : ScheduleAction → Instr
  | .openStore => .openCmd h
  | .closeBegin => .closeCmd h
  | .windowOpen => .windowOpen h
  | .windowClose => .windowClose h

/-! ## Terms of the blocks -/

/-- The pixels a sequence of run bytes stands for (R85): the top bit is the value, the low 7 bits the length less 1. -/
def expandRuns (l : List Byte) : List Bool := l.flatMap (fun x => List.replicate (x.toNat % 128 + 1) (decide (128 ≤ x.toNat)))

/-- R113: version `x` in slot `k` is a candidate of an item by one of its bound labels. -/
def Candidate (b : Block) (code : Nat) (i : Item) (k : Slot) (x : Version) : Prop :=
  ∃ id ∈ i.bound, ∃ l, getLabel b id = some l ∧ l.binding = .normal ∧
    ∃ number template, RefWhat.version code k number template ∈ labelRefs l ∧
      namedVersion b code k number = some x ∧ x.status = .valid

/-- R48: an item of the pending list whose PENDING version is HELD. -/
def pendingHeld (b : Block) (code : Nat) : Bool :=
  match (getItem b code).bind pendingVersion with
  | some v => decide (v.status = .held)
  | none => false

/-- The number a text of digits stands for (R28). -/
def digitsValue (t : Text) : Nat := t.foldl (fun a c => a * 10 + (c - 48)) 0

/-- R34: at most one PENDING and at most one ACTIVE slot. -/
def OneOfEach (i : Item) : Prop :=
  ∀ (k l : Slot) (v w : Version), slotOf i k = some v → slotOf i l = some w → v.role = w.role → v.role ≠ .retired → k = l

/-- R35: a number is held by a non-EMPTY slot of an item other than `k`. -/
def HeldElsewhere (i : Item) (k : Slot) (n : Nat) : Prop := ∃ l v, l ≠ k ∧ slotOf i l = some v ∧ v.number = n

/-- R35: the number a new version in slot `k` takes: the first from the last one issued on that no other slot holds. -/
def FreshNumber (i : Item) (k : Slot) (n : Nat) : Prop :=
  ∃ d, n = numberAfter^[d + 1] i.last ∧ ¬ HeldElsewhere i k n ∧ ∀ e, e < d → HeldElsewhere i k (numberAfter^[e + 1] i.last)

/-- R35, R44: item `j` is item `i` with a new version of `inputs` placed in slot `k`; the other slots apart. -/
def Placed (m : PriceMasks) (role : Role) (inputs : PriceInputs) (i j : Item) (k : Slot) : Prop :=
  ∃ n, FreshNumber i k n ∧ j.last = n ∧ j.bound = i.bound ∧
    slotOf j k = some (Version.mk role (statusUnder m (evaluate inputs).faults) n inputs (evaluate inputs) 0)

/-- R42, R48: what becomes of the slot that was ACTIVE when another version takes the role. -/
def retiredFrom (v : Version) : Option Version :=
  if v.role = .active then (if 0 < v.refs then some { v with role := .retired } else none) else some v

/-- R17: the promotion a record carries in range. -/
inductive PromotionInRange : RawPromotion → Option Promotion → Prop where
  | absent : PromotionInRange .absent none
  | percent (p : Nat) (m : Rounding) (h : 1 ≤ p ∧ p ≤ 9999) : PromotionInRange (.percent p (some m)) (some (.percent p m))
  | amount (a : Nat) (h : 1 ≤ a ∧ a ≤ 9999999) : PromotionInRange (.amount a) (some (.amount a))
  | fixed (p : Nat) (h : p ≤ 9999999) : PromotionInRange (.fixed p) (some (.fixed p))

/-- R17: the pack quantity and unit code a record carries in range. -/
inductive PackInRange : Option Nat → Option (Coded UnitCode) → Option UnitCode → Prop where
  | absent : PackInRange none none none
  | present (q : Nat) (u : UnitCode) (h : 1 ≤ q ∧ q ≤ 999999) : PackInRange (some q) (some (some u)) (some u)

/-- R17: a text in range, of at most `n` characters. -/
def TextInRange (n : Nat) (t : Text) : Prop := t.length ≤ n ∧ ∀ c ∈ t, 32 ≤ c ∧ c ≤ 127

/-- R17, R33: a PRICE record in range, with the inputs and the effect it carries. -/
def PriceInRange (r : PriceRecord) (inputs : PriceInputs) (effect : Effect) : Prop :=
  r.code ≤ 9999999999999 ∧ r.base ≤ 9999999 ∧ (∀ f, r.floor = some f → f ≤ 9999999) ∧
    (∀ t, r.badge = some t → TextInRange 16 t ∧ t ≠ [] ∧ r.promotion ≠ .absent) ∧ TextInRange 40 r.description ∧
    r.effect = some effect ∧ PromotionInRange r.promotion inputs.promotion ∧ PackInRange r.pack r.unit inputs.unit ∧
    inputs.base = r.base ∧ inputs.badge = r.badge ∧ inputs.floor = r.floor ∧ inputs.pack = r.pack ∧
    inputs.description = r.description

/-- The block with till record `x + 1` replaced. -/
def setTillRecord (x : Fin 96) (r : TillRecord) (b : Block) : Block :=
  { b with till := { b.till with records := b.till.records.set x.val r x.isLt } }

/-- R109: a frame is the till's own. -/
def TillOwn (sender : TillSender) (r : TillRecord) : Prop := r.state ≠ .unregistered ∧ r.hw = some sender.hw

/-- R110, R116: the fields of a SALE_RECORD in range. -/
def SaleInRange (sequence time : Nat) (lines : List SaleLine) : Prop :=
  sequence ≤ 4294967295 ∧ time ≤ 4294967295 ∧ 1 ≤ lines.length ∧ lines.length ≤ 16 ∧
    ∀ l ∈ lines, l.kind ≠ none ∧ l.code ≤ 9999999999999 ∧ -999 ≤ l.quantity ∧ l.quantity ≤ 999 ∧ l.price ≤ 9999999 ∧
      l.version ≤ 65535

/-- R117: a line that is checked: SALE with quantity above 0. -/
def LineChecked (l : SaleLine) : Prop := l.kind = some .sale ∧ 0 < l.quantity

/-- R113, R117: an item answers PRICED with a charged price. -/
def AnswersPriced (b : Block) (code charged : Nat) : Prop :=
  ∃ number lowest promotion uncertain text, itemAnswer b code = .priced code charged number lowest promotion uncertain text

/-- R130: the source segment of a frame by the port's role and the frame's tag. -/
def Classified (r : PortSettings) (tag : Option Nat) (seg : Segment) : Prop :=
  (r.role = .till ∧ tag = none ∧ seg = .till) ∨ (r.role = .office ∧ tag = none ∧ seg = .office) ∨
    (r.role = .accessPoint ∧ tag = some r.staffTag ∧ seg = .staff) ∨
    (r.role = .accessPoint ∧ tag = some r.guestTag ∧ tag ≠ some r.staffTag ∧ seg = .guest)

/-- R133: the network address that an entry of a segment takes from a frame: its source, in the segment's range and not
its gateway address. -/
def learnedNet (b : Block) (seg : Segment) (f : LanFrame) : Option NetAddr :=
  (payloadSource f.payload).filter (fun a => inRange (gatewayOf b seg) a && decide (a ≠ (gatewayOf b seg).address))

/-- R188: the row of a command of a COMMAND message. -/
def commandRow (h : MgmtHeader) : MgmtCommand → Option Instr
  | .openStore => some (.openCmd h)
  | .closeStore => some (.closeCmd h)
  | .closeNow => some (.closeNow h)
  | .windowOpen => some (.windowOpen h)
  | .windowClose => some (.windowClose h)
  | .setClock v => some (.setClock h v)
  | .release code => some (.release h code)
  | .forceLabel id => some (.forceLabel h id)
  | .qualifyLine len insertion => some (.qualifyLine h len insertion)
  | .loopback mode duration => some (.loopback h mode duration)
  | .endGuest hw => some (.endGuest h hw)
  | .clearNotices => some (.clearNotices h)
  | .saveSettings => some (.saveSettings h)
  | .warmRestart => some (.warmRestart h)
  | .coldRestart => some (.coldRestart h)
  | .unknown => none

/-- R184: the row of a management message, by kind; a WRITE is the row of any records (R186). -/
def messageRow (h : MgmtHeader) : MgmtBody → Option Instr
  | .window table first last direction => some (.window h table first last direction)
  | .write rs => some (.readOnlyWrite h rs)
  | .read count => some (.read h count)
  | .command c => commandRow h c
  | .status => some (.status h)
  | .unknownKind => none
  | .malformed => none

/-- R110: the row of a till service frame, by kind. -/
def tillRow (sender : TillSender) : TillFrame → Option Instr
  | .hello till => some (.hello sender till)
  | .priceQuery till code => some (.priceQuery sender till code)
  | .saleRecord till sequence time lines => some (.saleRecord sender till sequence time lines)
  | .unknownKind _ _ => none
  | .malformed _ _ => none
  | .empty => none

/-- R174: the row of an exchange frame, by kind. -/
def exchangeRow : ExchangeFrame → Option Instr
  | .empty => none
  | .exchangeOpen => some .exchangeOpen
  | .batchStart n k => some (.batchStart n k)
  | .exchangeRecords rs => some (.exchangeRecords rs)
  | .batchEnd check => some (.batchEnd check)
  | .unknown _ => none
  | .malformed _ => none

/-- R186: the row of a record, which arrives by `via`; a record of no known kind has none. -/
def recordRow (via : Via) : WriteRecord → Option Instr
  | .port r => some (.portWrite via r)
  | .gateway r => some (.gatewayRecordWrite via r)
  | .forwarder aging => some (.agingTimeWrite via aging)
  | .collector a => some (.collectorRecordWrite via a)
  | .policyCell allow => some (.policyCellWrite via allow)
  | .scheduleEntry r => some (.scheduleEntryWrite via r)
  | .modeSettings r => some (.modeSettingsWrite via r)
  | .priceSettings r => some (.priceSettingsWrite via r)
  | .template r => some (.templateWrite via r)
  | .font height => some (.fontWrite via height)
  | .glyph r => some (.glyphWrite via r)
  | .radioSettings r => some (.radioSettingsWrite via r)
  | .guestProfile r => some (.guestProfileWrite via r)
  | .price r => some (.price via r)
  | .description code text => some (.description via code text)
  | .withdraw code => some (.withdraw via code)
  | .label id cls => some (.label via id cls)
  | .bind id code template => some (.bind via id code template)
  | .unbind id => some (.unbind via id)
  | .templateChange id template => some (.templateRecord via id template)
  | .other => none

/-- R185: the table that holds the records of a kind. -/
def recordTable : WriteRecord → Option TableName
  | .port _ => some .ports
  | .gateway _ => some .ports
  | .forwarder _ => some .ports
  | .collector _ => some .ports
  | .policyCell _ => some .policy
  | .scheduleEntry _ => some .schedule
  | .modeSettings _ => some .schedule
  | .priceSettings _ => some .priceSettings
  | .template _ => some .templates
  | .font _ => some .glyphs
  | .glyph _ => some .glyphs
  | .radioSettings _ => some .radioSettings
  | .guestProfile _ => some .guestProfile
  | .price _ => some .items
  | .description _ _ => some .items
  | .withdraw _ => some .items
  | .label _ _ => some .labels
  | .bind _ _ _ => some .labels
  | .unbind _ => some .labels
  | .templateChange _ _ => some .labels
  | .other => none

/-- R140, R185: a position of a table that no WRITE changes. -/
def ReadOnlyAt (t : TableName) (n : Nat) : Prop :=
  match t with
  | .policy => (15 ≤ n ∧ n ≤ 19) ∨ n = 23 ∨ n = 24
  | .radioSettings => 1 ≤ n
  | .guestProfile => 1 ≤ n
  | .tills => True
  | .addresses => True
  | .guestSessions => True
  | .notices => True
  | .counters => True
  | .ports => False
  | .schedule => False
  | .priceSettings => False
  | .templates => False
  | .glyphs => False
  | .items => False
  | .labels => False

/-- R185: the counters at positions 0 to 51 of the COUNTERS table, in order. -/
def countersFrom0 : List Counter :=
  [.lateOutcome, .oversizeCount, .truncatedCount, .beacons, .updatesSent, .queriesSent, .fragmentsSent, .noReplyCount,
    .replyError, .strayReply, .duplicateReply, .unknownLabel, .tillFramesRefused, .ackBeyond, .journalRewinds,
    .tagMismatch, .untagged, .unusedPort, .badSource, .policyDenied, .noNeighbour, .noRoute, .serviceRefused,
    .gatewayDiscard, .learnRefused, .guestAdmitted, .guestNotAdmitted, .guestPoliced, .guestBlocked, .guestLineDown,
    .framesReceived, .frameError, .crcError, .unexpectedKind, .receivedWhileDown, .framesSent, .aliveSent, .lineDowns,
    .loopedBack, .remoteEchoed,
    .dropped .tillAuth, .dropped .management, .dropped .exchange, .dropped .office, .dropped .journal, .dropped .guest,
    .discarded .tillAuth, .discarded .management, .discarded .exchange, .discarded .office, .discarded .journal,
    .discarded .guest]

/-- R185: the counters at positions 55 to 60 of the COUNTERS table, in order. -/
def countersFrom55 : List Counter :=
  [.batchesCommitted, .batchesRejected, .exchangeRefusals, .exchangeAborts, .exchangeRepliesLost, .mgmtIgnored]

/-- R186: from `b` the records of a WRITE of a source are all accepted, each at the cursor, which steps after it; what
they leave is `c`. -/
def AllWritten (src : MgmtSource) : List WriteRecord → Block → Block → Prop
  | [], b, c => c = b
  | r :: rest, b, c => ∃ w d, windowOf b src = some w ∧ writeAt w.table w.cursor r b = (d, none) ∧
      AllWritten src rest (setWindow src (stepWindow w) d) c

/-- R189: entry `e` put into a queue behind the last of the entries of its priority or of a lower number. -/
def QueuedBehind (e : NoticeEntry) (q r : List NoticeEntry) : Prop :=
  ∃ u v, q = u ++ v ∧ r = u ++ e :: v ∧ (∀ x ∈ u, entryPriority x ≤ entryPriority e) ∧
    ∀ x, v.head? = some x → entryPriority e < entryPriority x

/-- R57, R59: a label is settled: its target is the one the mode and its item give, its state follows, and it is queued
exactly when STALE. -/
def SettledIn (b : Block) (m : Label) : Prop :=
  m.target = targetOf b m ∧ m.state = settledState m ∧ (m.queued.isSome = true ↔ m.state = .stale)

/-- R59: a label whose place was `old` joins a class anew: it had no place, or its class has risen. -/
def JoinsAnew (old : Option QueuePlace) (cls : PriorityClass) : Prop := ∀ o, old = some o → classRank cls < classRank o.cls

/-- R59: the place of a label whose place was `old`, its class being `cls`: it keeps its joining order, or takes one from
`first` on where it joins anew. -/
def QueuedFrom (first : Nat) (old : Option QueuePlace) (cls : PriorityClass) (place : Option QueuePlace) : Prop :=
  ∃ p, place = some p ∧ p.cls = cls ∧ (JoinsAnew old cls → first ≤ p.order) ∧
    ∀ o, old = some o → classRank o.cls ≤ classRank cls → p.order = o.order

/-- R59: of the labels `ids`, those that join anew from `a` to `b` do so in this order. -/
def JoinInOrder (a b : Block) (ids : List Nat) : Prop :=
  ids.Pairwise (fun x y => ∀ l m p l' m' p', getLabel a x = some l → getLabel b x = some m → m.queued = some p →
    JoinsAnew l.queued p.cls → getLabel a y = some l' → getLabel b y = some m' → m'.queued = some p' →
    JoinsAnew l'.queued p'.cls → p.order < p'.order)

/-- R59, R62, R64, R68: label `l` retargeted from `a` to `b`, where it is `m`: settled again; or left in its state, a
FAILED label with the oversize flag whose target changed apart, which returns. -/
def Retargeted (a b : Block) (l m : Label) : Prop :=
  m = { l with
    target := targetOf a l, marks := m.marks, state := m.state, queued := m.queued, retry := m.retry,
    oversize := m.oversize } ∧
  (l.state ≠ .failed → m.retry = l.retry ∧ m.oversize = l.oversize) ∧
  (isSettledState l.state = true → SettledIn b m) ∧
  (l.state = .inFlight → m.state = .inFlight ∧ m.queued = l.queued) ∧
  (l.state = .uncertain → m.state = .uncertain ∧ m.queued ≠ none) ∧
  (l.state = .failed →
    (l.oversize = false ∨ targetOf a l = l.target → m = { l with target := targetOf a l, marks := m.marks }) ∧
    (l.oversize = true → targetOf a l ≠ l.target → m.retry = 0 ∧ m.oversize = false ∧
      (l.inFlight = none → SettledIn b m) ∧ (l.inFlight ≠ none → m.state = .uncertain ∧ m.queued ≠ none))) ∧
  (m.state = .stale ∨ m.state = .uncertain → QueuedFrom a.labels.nextJoin l.queued (classOf b m) m.queued)

/-- R70: the notice queue after a transmission of a label is heard in cycle `c`: LABEL_FOUND for one that was LOST and has a
found candidate cycle no more than 16 cycles before. -/
def noticesHeard (c id : Nat) (l : Label) (clock : Option Nat) (q : List NoticeEntry) : List NoticeEntry :=
  if !l.present && l.candidate.any (fun k => decide ((c + 65536 - k) % 65536 ≤ 16)) then
    noticeQueueAfter .labelFound (.label id) none clock q
  else q

/-- R61: the next binding `y` of a label, which was `l` in `a`, has been applied after its transaction, leaving `m` in `b`; `q`
is the notice queue before it. -/
def NextTaken (a b : Block) (id : Nat) (l m : Label) (y : NextBinding) (q : List NoticeEntry) : Prop :=
  m.next = none ∧
  (∀ code t serves, y = .bind code t →
    (serves ↔ (∃ (x : Fin 32) (d : Template), x.val = t ∧ a.composer.templates.get x = some d ∧ d.cls = l.cls) ∧
      (l.item = some code ∨ ∃ i, getItem a code = some i ∧ i.bound.length < 8)) →
    (serves → b.mgmt = { a.mgmt with notices := q } ∧ m.item = some code ∧ m.template = some t ∧
      (l.item ≠ some code → SettledIn b m ∧ m.binding = .foreign ∧ m.confirmed = none ∧ m.inFlight = none ∧
        m.retry = 0 ∧ m.marks = Marks.mk false false false ∧ m.oversize = false)) ∧
    (¬ serves → b.mgmt = { a.mgmt with notices := noticeQueueAfter .bindDropped (.label id) none a.mode.clock q } ∧
      m.item = none ∧ (l.item ≠ none → SettledIn b m ∧ m.target = some .blank ∧ m.template = none ∧
        m.binding = .foreign ∧ m.confirmed = none ∧ m.inFlight = none ∧ m.retry = 0 ∧
        m.marks = Marks.mk false false false ∧ m.oversize = false))) ∧
  (y = .unbind → b.mgmt = { a.mgmt with notices := q } ∧
    m.item = none ∧ (l.item ≠ none → SettledIn b m ∧ m.target = some .blank ∧ m.template = none ∧
      m.binding = .foreign ∧ m.confirmed = none ∧ m.inFlight = none ∧ m.retry = 0 ∧
      m.marks = Marks.mk false false false ∧ m.oversize = false))

/-- R97, R106: from `a` to `b` the transaction of a plan entry is begun, or none where there is none: its ANNOUNCE goes out,
then the fragments of its coded update in the composition buffer, 64 bytes each, and they are counted. -/
def Transmitted (entry : Option PlanEntry) (a b : Block) : Prop :=
  (entry = none → b.out = a.out ∧ ∀ k, k = .updatesSent ∨ k = .queriesSent ∨ k = .fragmentsSent →
    counterValue b k = counterValue a k) ∧
  ∀ e, entry = some e →
    (∃ bytes : List Byte,
      (∀ u, a.composer.buffer.find? (fun x => decide (x.label = e.label)) = some u → bytes = u.bytes) ∧
      b.out = a.out ++ .announce b.radio.channel e.label e.kind e.newTag e.baseTag e.fragments ::
        (List.range e.fragments).map (fun k => .fragment b.radio.channel k ((bytes.drop (64 * k)).take 64))) ∧
    counterValue b .updatesSent = (if e.kind = .query then counterValue a .updatesSent
      else min (counterValue a .updatesSent + 1) 4294967295) ∧
    counterValue b .queriesSent = (if e.kind = .query then min (counterValue a .queriesSent + 1) 4294967295
      else counterValue a .queriesSent) ∧
    counterValue b .fragmentsSent = (if e.fragments = 0 then counterValue a .fragmentsSent
      else min (counterValue a .fragmentsSent + e.fragments) 4294967295)

/-- R5, R9, R62, R72, R90, R112, R121, R123, R134, R150, R156, R160, R161, R166, R170, R177, R189, R190: an event of the
part's own is due: its timer has run out, or what it hands on waits. -/
inductive EventDue (b : Block) : Instr → Prop where
  | itemRetarget (h : b.labels.handoffs ≠ []) : EventDue b .itemRetarget
  | templateRetarget (h : b.labels.templateHandoffs ≠ []) : EventDue b .templateRetarget
  | sweepVisit (h : b.labels.sweep ≠ none) : EventDue b .sweepVisit
  | noticeToOffice (a : NetAddr) (hc : b.mgmt.collector = some a) (hn : b.mgmt.notices ≠ [])
      (ha : inRange (gatewayOf b .office) a = true) (hp : neighbour b .office a ≠ none) : EventDue b .noticeSend
  | noticeToLine (a : NetAddr) (e : NoticeEntry) (hc : b.mgmt.collector = some a) (he : b.mgmt.notices.head? = some e)
      (ha : ∀ d, inRange (gatewayOf b d) a = false) (hu : b.line.up = true)
      (hf : classBytes b .management + uplinkBytes (.management (MgmtReply.mk 0 (.notice e))) ≤ 16384) :
      EventDue b .noticeSend
  | journalBlock (capacity : Nat) (hs : b.till.sent < b.till.journal.length) (hu : b.line.up = true)
      (hc : capacity = (match b.line.result.map QualResult.result with
        | some .classA => 128
        | some .classB => 32
        | _ => 8))
      (hf : classBytes b .journal + (8 + 32 * min capacity (b.till.journal.length - b.till.sent)) ≤ 49152) :
      EventDue b .journalBlock
  | drainTimer (h : b.mode.drain = some 0) : EventDue b .drainTimerExpiry
  | clock (h : b.time.toSecond = 0) : EventDue b .clockAdvance
  | governor (h : b.time.toGovernor = 0) : EventDue b .governorReading
  | save (h : b.mgmt.save.map SaveInProgress.remaining = some 0) : EventDue b .saveComplete
  | lossTimer (hu : b.line.up = true) (h : b.line.loss = some 0) : EventDue b .lossTimerExpiry
  | aliveTimer (h : b.line.aliveTimer = 0) : EventDue b .aliveTimerExpiry
  | loopbackTimer (hl : b.line.loopback ≠ .off) (h : b.line.loopTimer = some 0) : EventDue b .loopbackTimerExpiry
  | qualifyTimer (q : Qualification) (hq : b.line.qual = some q) (h : q.timer = some 0) : EventDue b .qualifyTimeout
  | hold (h : b.exch.hold = some 0) : EventDue b .reopenHoldExpiry
  | ackTimer (h : b.till.ackTimer = some 0) : EventDue b .acknowledgementTimerExpiry
  | silenceTimer (x : Fin 96) (hs : (b.till.records.get x).state = .active)
      (h : (b.till.records.get x).timer = some 0) : EventDue b (.silenceTimerExpiry (x.val + 1))
  | aging (p : Nat × AddressEntry) (hp : p ∈ b.fwd.addresses)
      (h : b.fwd.aging * 1000 ≤ b.time.now - p.2.heardAt) :
      EventDue b (.addressAgingExpiry (keySegment p.1) (BitVec.ofNat 48 (keyHw p.1)))
  | timeLimit (p : Nat × Session) (hp : p ∈ b.guest.sessions) (hs : p.2.state = .active ∨ p.2.state = .exhausted)
      (h : b.guest.profile.timeLimit * 1000 ≤ b.time.now - p.2.start) : EventDue b (.timeLimitExpiry (BitVec.ofNat 48 p.1))
  | idleLimit (p : Nat × Session) (hp : p ∈ b.guest.sessions) (hs : p.2.state = .active)
      (h : b.guest.profile.idleLimit * 1000 ≤ b.time.now - p.2.lastTraffic) :
      EventDue b (.idleLimitExpiry (BitVec.ofNat 48 p.1))
  | cooldown (p : Nat × Session) (hp : p ∈ b.guest.sessions) (hs : p.2.state = .cooldown)
      (h : b.guest.profile.cooldown * 1000 ≤ b.time.now - p.2.cooldownStart.getD b.time.now) :
      EventDue b (.cooldownEnd (BitVec.ofNat 48 p.1))
  | beacon (h : b.time.toBeacon = 0) : EventDue b .beacon

/-- R163, R164: of the frames `q`, waiting for a class that holds `held` bytes of its limit, those at the head are admitted
one after another for as long as the next fits: `taken` are admitted, and `waiting` stay. -/
def AdmittedInOrder (limit held : Nat) (q taken waiting : List UplinkContent) : Prop :=
  q = taken ++ waiting ∧ (taken = [] ∨ held + (taken.map uplinkBytes).sum ≤ limit) ∧
    ∀ f, waiting.head? = some f → limit < held + (taken.map uplinkBytes).sum + uplinkBytes f

/-- R164, R169, R174: room is signalled from `a` to `b`: of the senders that hold refused frames the engine offers its held
replies, of which `replies` are taken and `later` stay held, and the qualification engine its TEST frames, of which `tests`
are taken; each stops only where the wait list holds 64 frames. -/
def RoomTaken (a b : Block) (replies later : List ExchangeReply) (tests : List UplinkContent) : Prop :=
  b.exch = { a.exch with held := b.exch.held } ∧
  (.engine ∉ a.line.refused → replies = [] ∧ b.exch = a.exch ∧ .engine ∉ b.line.refused) ∧
  (.engine ∈ a.line.refused → a.exch.held = replies ++ later ∧ b.exch.held = later ∧
    (later ≠ [] → 64 ≤ b.line.wait.length) ∧ (.engine ∈ b.line.refused ↔ later ≠ []) ∧
    (later ≠ [] → a.line.refused.head? = some .engine → tests = [])) ∧
  (.pattern ∉ a.line.refused → tests = [] ∧ .pattern ∉ b.line.refused) ∧
  (a.line.qual = none → tests = [] ∧ b.line.qual = none) ∧
  ∀ q total, a.line.qual = some q → total = (q.length + 255) / 256 →
    (∃ timer, b.line.qual = some { q with nextOffer := q.nextOffer + tests.length, timer := timer }) ∧
    (∀ k x, tests[k]? = some x → x = (if q.nextOffer + k = 0 then UplinkContent.testLoop
      else .testPattern q.run (q.nextOffer + k - 1) q.insertion)) ∧
    (.pattern ∈ a.line.refused → q.nextOffer ≤ total + 1 →
      q.nextOffer + tests.length ≤ total + 1 ∧
      (q.nextOffer + tests.length < total + 1 → 64 ≤ b.line.wait.length) ∧
      (.pattern ∈ b.line.refused ↔ q.nextOffer + tests.length < total + 1) ∧
      (q.nextOffer + tests.length < total + 1 → a.line.refused.head? = some .pattern → replies = []))

/-- R164, R174: what the two senders offer, in the order in which each first had a frame refused. -/
def offeredInOrder (a : Block) (replies : List ExchangeReply) (tests : List UplinkContent) : List UplinkContent :=
  if a.line.refused.head? = some .pattern then tests ++ replies.map .exchange else replies.map .exchange ++ tests

/-! ## Invariants -/

/-- R163, R164, R174: no class holds more bytes than its limit, no more than 64 frames wait, and the exchange engine
holds no more than 64 replies. -/
def UplinkLimits (b : Block) : Prop :=
  (∀ c, classBytes b c ≤ classLimit c) ∧ b.line.wait.length ≤ Config.maxWaiting ∧ b.exch.held.length ≤ Config.maxHeld

/-- R1 to R5, R145, R153, R156: the drain timer runs exactly in CLOSING; no session in CLOSED, and never more than
1,024; the governor level lies from 1 to 8; no bucket holds more than its depth. -/
def GuestRules (b : Block) : Prop :=
  (b.mode.drain.isSome = true ↔ b.mode.mode = .closing) ∧ (b.mode.mode = .closed → b.guest.sessions = []) ∧
    tableSorted b.guest.sessions ∧ b.guest.sessions.length ≤ Config.maxSessions ∧
    1 ≤ b.guest.level ∧ b.guest.level ≤ 8 ∧ b.guest.tokens ≤ Config.aggregateDepth ∧
    ∀ p ∈ b.guest.sessions, p.2.tokens ≤ Config.sessionDepth

/-- R118 to R123: the journal holds at most 262,144 entries; its SENT entries are a run from its head; the
acknowledgement timer runs exactly while there are any; the high-water flag is set exactly from 196,608 entries on; and
the entry numbers run up to the next one. -/
def JournalRules (b : Block) : Prop :=
  b.till.journal.length ≤ Config.journalCapacity ∧ b.till.sent ≤ b.till.journal.length ∧
    (b.till.ackTimer.isSome = true ↔ 0 < b.till.sent) ∧
    (b.till.highFlag = true ↔ Config.journalHigh ≤ b.till.journal.length) ∧
    b.till.nextNumber < 4294967296 ∧
    ∀ i e, b.till.journal[i]? = some e →
      e.number < 4294967296 ∧ (e.number + (b.till.journal.length - i)) % 4294967296 = b.till.nextNumber

/-- R140: a matrix holds the fixed values in its fixed cells. -/
def FixedCells (v : Vector Bool 25) : Prop :=
  v[15] = false ∧ v[16] = false ∧ v[17] = false ∧ v[18] = false ∧ v[19] = true ∧ v[23] = true ∧ v[24] = false

/-- R140, R190: the matrix in force holds them, and so does every one a restart can load. -/
def PolicyFixed (b : Block) : Prop :=
  FixedCells b.fwd.policy ∧ (∀ x, b.mgmt.flash = some x → FixedCells x.policy) ∧
    ∀ x, b.mgmt.save = some x → FixedCells x.copy.policy

/-- R33, R53, R132: no two records with one key, in every keyed table, and no more records than its room; no item has
more than 8 bound labels. -/
def TablesKept (b : Block) : Prop :=
  tableSorted b.items.table ∧ b.items.table.length ≤ Config.maxItems ∧
    tableSorted b.labels.table ∧ b.labels.table.length ≤ Config.maxLabels ∧
    tableSorted b.fwd.addresses ∧ b.fwd.addresses.length ≤ Config.maxAddresses ∧
    ∀ p ∈ b.items.table, p.2.bound.length ≤ Config.maxBound

/-- R55, R59: a label is queued exactly when STALE or UNCERTAIN; it holds an in-flight reference when IN_FLIGHT or
UNCERTAIN, and in no other state but FAILED. -/
def LabelStates (b : Block) : Prop :=
  ∀ p ∈ b.labels.table,
    (p.2.queued.isSome = true ↔ p.2.state = .stale ∨ p.2.state = .uncertain) ∧
      (p.2.state = .inFlight ∨ p.2.state = .uncertain → p.2.inFlight.isSome = true) ∧
      (p.2.inFlight.isSome = true → p.2.state = .inFlight ∨ p.2.state = .uncertain ∨ p.2.state = .failed)

/-- R53: a label's reference names version `number` in slot `k` of item `code`. -/
def namesVersion (code : Nat) (k : Slot) (number : Nat) : RefWhat → Bool
  | .blank => false
  | .version c j n _ => decide (c = code) && decide (j = k) && decide (n = number)

/-- R35, R60: a label's reference is BLANK, or names a version of the label's own item that its slot holds. -/
def referenceStands (b : Block) (l : Label) : RefWhat → Bool
  | .blank => true
  | .version code k number _ => decide (l.item = some code) && (namedVersion b code k number).isSome

/-- R33, R36, R38, R45, R53: the reference count of every version is the number of confirmed and in-flight references of
labels that name it; every reference stands; and an item's bound list holds, once each, exactly the labels of that item. -/
def References (b : Block) : Prop :=
  tableSorted b.items.table ∧ tableSorted b.labels.table ∧
    (∀ p ∈ b.items.table, ∀ k : Slot, ∀ v ∈ slotOf p.2 k,
      v.refs = (b.labels.table.map (fun q => (labelRefs q.2).countP (namesVersion p.1 k v.number))).sum) ∧
    (∀ q ∈ b.labels.table, ∀ w ∈ labelRefs q.2, referenceStands b q.2 w = true) ∧
    (∀ q ∈ b.labels.table, ∀ code ∈ q.2.item, ∃ p ∈ b.items.table, p.1 = code) ∧
    ∀ p ∈ b.items.table, p.2.bound.Nodup ∧
      (∀ id ∈ p.2.bound, ∃ q ∈ b.labels.table, q.1 = id ∧ q.2.item = some p.1) ∧
      ∀ q ∈ b.labels.table, q.2.item = some p.1 → q.1 ∈ p.2.bound

/-- R189: at most 64 keyed entries, no key twice, at most one OVERFLOW entry, in order of priority. -/
def NoticeRules (b : Block) : Prop :=
  (b.mgmt.notices.filter entryIsKeyed).length ≤ Config.maxNotices ∧
    b.mgmt.notices.countP (fun e => !entryIsKeyed e) ≤ 1 ∧
    b.mgmt.notices.Pairwise (fun x y => entryPriority x ≤ entryPriority y) ∧
    b.mgmt.notices.Pairwise (fun x y => ∀ kind subject, entryHasKey kind subject x = true → entryHasKey kind subject y = false)

/-- R15, R33 to R37: every item has at most one PENDING and one ACTIVE slot, version numbers that differ, the results
its inputs evaluate to and no RETIRED version without references; and the pending list holds, once each, the items that
have a PENDING slot. -/
def ItemRules (b : Block) : Prop :=
  (∀ code i, getItem b code = some i → OneOfEach i ∧
    (∀ (k l : Slot) (v w : Version), slotOf i k = some v → slotOf i l = some w → v.number = w.number → k = l) ∧
    ∀ k v, slotOf i k = some v → v.results = evaluate v.inputs ∧ (v.role = .retired → 0 < v.refs)) ∧
    b.items.pending.Nodup ∧
    ∀ code, code ∈ b.items.pending ↔ ∃ i k v, getItem b code = some i ∧ slotOf i k = some v ∧ v.role = .pending

end Sys2Proof.Machine
end

