-- ==== Sys2Proof/Certificates/Slice0/Obligations.lean ====
section
/-! DEFINITION. The statements for the provers. Each says in its docstring which rules it formalises; a clause that rests
on a choice of the model names its log entry. -/

open Sys2Proof Sys2Proof.Machine

/-! ## The step, reset and the invariants -/

/-- A command at the front of the queue is taken, with the queue's rest left waiting. -/
def Obligations.StepTakesFrontCommand : Prop :=
  ∀ (c : Instr) (rest : List Instr) (s : State), s.pending = c :: rest → step s = exec c { s with pending := rest }

/-- The model's choice (log 1): on an empty queue the part takes an event of its own that is due (`EventDue`), and where none
is due a millisecond of the time base passes: every running timer is a millisecond nearer its end, the buckets of R149 and
R155 fill by their rates, in bits (log 5), and nothing is sent. -/
def Obligations.EmptyQueueRunsThePartsOwnTime : Prop :=
  (∀ b : Block, (∀ c, due b = some c → EventDue b c) ∧ (due b = none → ∀ c, ¬ EventDue b c)) ∧
  ∀ s : State, s.pending = [] →
    (∀ c, due s.block = some c → step s = exec c s) ∧
    (due s.block = none → ∃ b, step s = s.becomes b ∧
      Touches [.mode, .till, .guest, .line, .exch, .mgmt, .time] s.block b ∧
      b.time = TimeBlock.mk (s.block.time.now + 1) (s.block.time.toSecond - 1) (s.block.time.toGovernor - 1)
        (s.block.time.toBeacon - 1) ∧
      b.mode = { s.block.mode with drain := s.block.mode.drain.map (· - 1) } ∧
      b.till = { s.block.till with
        ackTimer := s.block.till.ackTimer.map (· - 1)
        records := s.block.till.records.map (fun r => { r with timer := r.timer.map (· - 1) }) } ∧
      b.line = { s.block.line with
        loss := s.block.line.loss.map (· - 1)
        aliveTimer := s.block.line.aliveTimer - 1
        loopTimer := s.block.line.loopTimer.map (· - 1)
        qual := s.block.line.qual.map (fun q => { q with timer := q.timer.map (· - 1) }) } ∧
      b.exch = { s.block.exch with hold := s.block.exch.hold.map (· - 1) } ∧
      b.mgmt = { s.block.mgmt with
        save := s.block.mgmt.save.map (fun x => { x with remaining := x.remaining - 1 }) } ∧
      b.guest = { s.block.guest with
        sessions := b.guest.sessions
        tokens := min (s.block.guest.tokens + s.block.guest.profile.maximum * s.block.guest.level / 8) 524288 } ∧
      ∀ hw, getSession b hw = (getSession s.block hw).map (fun x =>
        { x with tokens := min (x.tokens + s.block.guest.profile.rateCap) 131072 }))

/-- R1, R9, R14, R52, R74, R108, R127, R143, R158, R172, R183, R184: what a cold restart leaves of each block. -/
def Obligations.ResetLeavesEachBlockAsAColdRestart : Prop :=
  State.reset.pending = [] ∧
    (State.reset.block.mode.mode = .closed ∧ State.reset.block.mode.drain = none ∧
      State.reset.block.mode.clock = none ∧ State.reset.block.mode.window = .shut) ∧
    (State.reset.block.items.table = [] ∧ State.reset.block.items.pending = []) ∧
    (State.reset.block.labels.table = [] ∧ State.reset.block.labels.sweep = none) ∧
    (State.reset.block.composer.buffer = [] ∧ State.reset.block.composer.style = []) ∧
    (State.reset.block.radio.slot = 0 ∧ State.reset.block.radio.cycle = 0 ∧ State.reset.block.radio.plan = []) ∧
    (State.reset.block.till.records = Vector.replicate 96 (TillRecord.mk .unregistered none none none 0 none) ∧
      State.reset.block.till.journal = [] ∧ State.reset.block.till.nextNumber = 1 ∧
      State.reset.block.till.ackTimer = none ∧ State.reset.block.till.fullFlag = false ∧
      State.reset.block.till.highFlag = false) ∧
    (State.reset.block.fwd.addresses = [] ∧ State.reset.block.fwd.full = false ∧
      ∀ p, (State.reset.block.fwd.ports.get p).up = false) ∧
    (State.reset.block.guest.sessions = [] ∧ State.reset.block.guest.level = 4 ∧
      State.reset.block.guest.tokens = 65536 * 8) ∧
    (State.reset.block.line.up = false ∧ State.reset.block.line.loopback = .off ∧ State.reset.block.line.qual = none ∧
      State.reset.block.line.result = none ∧ ∀ c, classFrames State.reset.block c = []) ∧
    (State.reset.block.exch.state = .idle ∧ State.reset.block.exch.last = 0 ∧ State.reset.block.exch.stored = none ∧
      State.reset.block.exch.hold = none) ∧
    (State.reset.block.mgmt.storeWindow = none ∧ State.reset.block.mgmt.officeWindow = none ∧
      ∀ c, counterValue State.reset.block c = 0)

/-- The state after reset meets every invariant below. -/
def Obligations.ResetMeetsEveryInvariant : Prop :=
  UplinkLimits State.reset.block ∧ GuestRules State.reset.block ∧ JournalRules State.reset.block ∧
    PolicyFixed State.reset.block ∧ TablesKept State.reset.block ∧ LabelStates State.reset.block ∧
    ItemRules State.reset.block ∧ NoticeRules State.reset.block ∧ References State.reset.block

/-- R163, R164, R174. -/
def Obligations.EveryStepKeepsTheUplinkQueueLimits : Prop :=
  ∀ s t : State, UplinkLimits s.block → step s = .next t → UplinkLimits t.block

/-- R145, R149, R153, R155, R156, and the drain timer of R2 to R7. -/
def Obligations.EveryStepKeepsTheGuestRules : Prop :=
  ∀ s t : State, GuestRules s.block → step s = .next t → GuestRules t.block

/-- R118 to R123. -/
def Obligations.EveryStepKeepsTheJournalRules : Prop :=
  ∀ s t : State, JournalRules s.block → step s = .next t → JournalRules t.block

/-- R140: no command and no restart changes a fixed cell. -/
def Obligations.EveryStepKeepsTheFixedPolicyCells : Prop :=
  ∀ s t : State, PolicyFixed s.block → step s = .next t → PolicyFixed t.block

/-- R33, R38, R53, R132; R189 for the notice queue. -/
def Obligations.EveryStepKeepsTheTablesKeyed : Prop :=
  (∀ s t : State, TablesKept s.block → step s = .next t → TablesKept t.block) ∧
  ∀ s t : State, NoticeRules s.block → step s = .next t → NoticeRules t.block

/-- R55, R59; R33, R36, R38, R45, R53 for the reference counts and the bound lists. -/
def Obligations.EveryStepKeepsLabelsQueuedByState : Prop :=
  (∀ s t : State, LabelStates s.block → step s = .next t → LabelStates t.block) ∧
  ∀ s t : State, LabelStates s.block → References s.block → step s = .next t → References t.block

/-! ## The mode controller (file 01) -/

/-- R2, R3, R5, R6: the store mode under OPEN, CLOSE and the drain timer's expiry; that MODE_CHANGED is queued before the
ITEM_HELD notices of the activation is the model's order (log 51). -/
def Obligations.StoreModeMovesAsTheTableSays : Prop :=
  ∀ (h : MgmtHeader) (s : State),
    (Taken h s.block →
      (s.block.mode.mode = .closed →
        exec (.openCmd h) s = s.answers h (.mode .trading) (activate
          (notice .modeChanged (.mode .trading)
            { s.block with mode := { s.block.mode with mode := .trading } })) ∧
        exec (.closeCmd h) s = s.answers h (.refusal .already none) s.block) ∧
      (s.block.mode.mode = .closing →
        exec (.openCmd h) s = s.answers h (.mode .trading) (notice .modeChanged (.mode .trading)
          { s.block with mode := { s.block.mode with mode := .trading, drain := none } }) ∧
        exec (.closeCmd h) s = s.answers h (.refusal .already none) s.block) ∧
      (s.block.mode.mode = .trading →
        exec (.openCmd h) s = s.answers h (.refusal .already none) s.block ∧
        exec (.closeCmd h) s = s.answers h (.mode .closing) (notice .modeChanged (.mode .closing)
          { s.block with mode := { s.block.mode with
              mode := .closing, drain := some (s.block.mode.settings.drainPeriod * 1000) } }))) ∧
    (∀ n, s.block.mode.drain = some n →
      exec .drainTimerExpiry s = s.becomes (notice .modeChanged (.mode .closed)
        { s.block with
          mode := { s.block.mode with mode := .closed, drain := none }
          guest := { s.block.guest with sessions := [], full := false }
          labels := { s.block.labels with
            sweep := if s.block.items.pending.isEmpty then none else some (Sweep.mk s.block.items.pending 0) } }))

/-- R4: CLOSE_NOW. -/
def Obligations.CloseNowClosesAsTheDrainTimerWould : Prop :=
  (∀ (h : MgmtHeader) (s : State), Taken h s.block →
    (s.block.mode.mode = .closing → s.block.mode.drain.isSome = true → ∃ b, exec .drainTimerExpiry s = s.becomes b ∧
      b.mode.mode = .closed ∧ b.mode.drain = none ∧ exec (.closeNow h) s = s.answers h (.mode .closed) b) ∧
    (s.block.mode.mode ≠ .closing → exec (.closeNow h) s = s.answers h (.refusal .notInMode none) s.block)) ∧
  ∀ (a : ScheduleAction) (b : Block), b.mode.mode = .closing → (fireAction a b).mode.mode ≠ .closed

/-- R10: SET_CLOCK and the TIME record; neither fires an entry. That SET_CLOCK of a value out of R10's range is refused
with FIELD_RANGE is read from R188, the model's inference (log 43). -/
def Obligations.SetClockSetsAndFiresNothing : Prop :=
  ∀ (h : MgmtHeader) (v : Nat) (s : State),
    (Taken h s.block → v ≤ 4294967295 →
      exec (.setClock h v) s = s.answers h (.clock v) { s.block with mode := { s.block.mode with clock := some v } }) ∧
    (v ≤ 4294967295 → applyStaged (.time (some v)) s.block =
      ({ s.block with mode := { s.block.mode with clock := some v } }, none)) ∧
    (Taken h s.block → 4294967295 < v → exec (.setClock h v) s = s.answers h (.refusal .fieldRange none) s.block)

/-- R9, R11, R12, R13: an advance of the clock, and the entries it fires, in entry-number order; a fired entry does what
the command of the same effect does, without the answer. -/
def Obligations.ClockAdvanceFiresTheEntriesOfTheNewSecond : Prop :=
  (∀ s : State, s.block.mode.clock = none ∨ s.block.mode.clock = some 4294967295 →
    exec .clockAdvance s = s.becomes { s.block with time := { s.block.time with toSecond := 1000 } }) ∧
  (∀ (s : State) (c : Nat), s.block.mode.clock = some c → c < 4294967295 →
    exec .clockAdvance s = s.becomes
      ((s.block.mode.schedule.toList.filter (fun e => decide (e.enabled = true ∧ e.time = (c + 1) % 86400 ∧
          ∃ d ∈ e.weekdays,
            weekdayIndex d = (weekdayIndex s.block.mode.settings.epochWeekday + (c + 1) / 86400) % 7))).foldl
        (fun d e => fireAction e.action d)
        { s.block with
          mode := { s.block.mode with clock := some (c + 1) }
          time := { s.block.time with toSecond := 1000 } })) ∧
  ∀ (a : ScheduleAction) (h : MgmtHeader) (s : State), Taken h s.block →
    ∃ r, exec (commandOf h a) s = s.answers h r (fireAction a s.block)

/-- R14, R171, R177, R182: the exchange window opens and shuts; that WINDOW_CHANGED is queued before EXCHANGE_ABORTED is the
model's order (log 51). -/
def Obligations.WindowCommandsOpenAndShutTheWindow : Prop :=
  ∀ (h : MgmtHeader) (s : State), Taken h s.block →
    (s.block.mode.window = .shut →
      exec (.windowOpen h) s = s.answers h (.windowState .opened) (notice .windowChanged (.windowState .opened)
        { s.block with
          mode := { s.block.mode with window := .opened }
          line := { s.block.line with result := none } }) ∧
      exec (.windowClose h) s = s.answers h (.refusal .already none) s.block) ∧
    (s.block.mode.window = .opened →
      exec (.windowOpen h) s = s.answers h (.refusal .already none) s.block ∧
      ∃ b, exec (.windowClose h) s = s.answers h (.windowState .shut) b ∧ Touches [.mode, .mgmt, .line, .exch, .counts]
          s.block b ∧
        b.mode = { s.block.mode with window := .shut } ∧
        b.line = { s.block.line with
          qual := none
          result := none
          refused := s.block.line.refused.filter (fun x => decide
            (¬ (x = .pattern ∧ s.block.line.qual ≠ none) ∧ ¬ (x = .engine ∧ s.block.exch.state ≠ .idle))) } ∧
        (s.block.exch.state = .idle → b.exch = { s.block.exch with hold := none } ∧ b.counts = s.block.counts ∧
          b.mgmt = { s.block.mgmt with
            notices := noticeQueueAfter .windowChanged (.windowState .shut) none s.block.mode.clock
              s.block.mgmt.notices }) ∧
        (s.block.exch.state ≠ .idle →
          b.exch = { s.block.exch with state := .idle, hold := none, staging := none, held := [] } ∧
          b.counts = (bump .exchangeAborts s.block).counts ∧
          b.mgmt = { s.block.mgmt with
            notices := noticeQueueAfter .exchangeAborted .exchange none s.block.mode.clock (noticeQueueAfter .windowChanged
              (.windowState .shut) none s.block.mode.clock s.block.mgmt.notices) }))

/-- R15, R33 to R37. -/
def Obligations.EveryStepKeepsTheItemRules : Prop :=
  ∀ s t : State, ItemRules s.block → step s = .next t → ItemRules t.block

/-! ## The price evaluator (file 02) -/

/-- R18: stage 1 without a promotion and with a PERCENT one. -/
def Obligations.PercentPriceIsRoundedByItsMode : Prop :=
  (∀ base : Nat, promotionPrice base none = (base : Int)) ∧
  ∀ base p : Nat, 1 ≤ p → p ≤ 9999 →
    (base ≤ 9999999 → base * (10000 - p) ≤ 99989990001) ∧
    (∀ m, promotionPrice base (some (.percent p m)) = (percentPrice base p m : Int) ∧
      percentPrice base p m ≤ base ∧ percentPrice 0 p m = 0) ∧
    (percentPrice base p .down * 10000 ≤ base * (10000 - p) ∧
      base * (10000 - p) < (percentPrice base p .down + 1) * 10000) ∧
    (base * (10000 - p) ≤ percentPrice base p .up * 10000 ∧
      percentPrice base p .up * 10000 < base * (10000 - p) + 10000) ∧
    (percentPrice base p .nearest * 10000 ≤ base * (10000 - p) + 5000 ∧
      base * (10000 - p) + 5000 < (percentPrice base p .nearest + 1) * 10000)

/-- R19 to R23: the other promotions, the floor, the unit price, the fault set, the status under the masks, and whether
the promotion shows. -/
def Obligations.EvaluationTakesThePriceThroughItsStages : Prop :=
   ((∀ base a : Nat, promotionPrice base (some (.amount a)) = (base : Int) - (a : Int)) ∧
    (∀ base p : Nat, promotionPrice base (some (.fixed p)) = (min p base : Nat)) ∧
    (∀ i : PriceInputs,
      (((evaluate i).e : Int) = max ((i.floor.getD 0 : Nat) : Int) (promotionPrice i.base i.promotion)) ∧
      ((evaluate i).faults.floor = true ↔ promotionPrice i.base i.promotion < ((i.floor.getD 0 : Nat) : Int)) ∧
      ((evaluate i).faults.zeroPrice = true ↔ (evaluate i).e = 0) ∧
      ((evaluate i).faults.promoAboveBase = true ↔ ∃ p, i.promotion = some (.fixed p) ∧ i.base < p) ∧
      (i.base ≤ 9999999 → i.floor.getD 0 ≤ 9999999 → (evaluate i).e ≤ 9999999) ∧
      ∀ r, showsPromotion i r = true ↔ i.promotion ≠ none ∧ r.faults.promoAboveBase = false ∧ r.e < i.base) ∧
    ∀ (m : PriceMasks) (f : PriceFaults), statusUnder m f = .held ↔
      (f.promoAboveBase = true ∧ m.promoAboveBase = false) ∨ (f.floor = true ∧ m.floor = false) ∨
        (f.zeroPrice = true ∧ m.zeroPrice = false) ∨ (f.unitOverflow = true ∧ m.unitOverflow = false)) ∧
  ∀ i : PriceInputs,
    (i.pack = none → (evaluate i).u = .absent ∧ (evaluate i).faults.unitOverflow = false) ∧
    ∀ q u, i.pack = some q → i.unit = some u → 1 ≤ q → ∃ n,
      2 * q * n ≤ 2 * ((evaluate i).e * referenceQuantity u) + q ∧
      2 * ((evaluate i).e * referenceQuantity u) + q < 2 * q * (n + 1) ∧
      ((evaluate i).e = 0 → n = 0) ∧
      (n ≤ 9999999 → (evaluate i).u = .amount n ∧ (evaluate i).faults.unitOverflow = false) ∧
      (9999999 < n → (evaluate i).u = .blank ∧ (evaluate i).faults.unitOverflow = true)

/-- R28: a money text. -/
def Obligations.MoneyTextReadsBackAsItsAmount : Prop :=
  ∀ (s : PriceSettings) (m : Nat), m ≤ 9999999 → s.decimals = 0 ∨ s.decimals = 2 ∨ s.decimals = 3 →
    ∃ whole minor : Text,
      (s.decimals = 0 → moneyText s m = s.glyph.toList ++ whole) ∧
      (s.decimals ≠ 0 → moneyText s m =
        s.glyph.toList ++ whole ++ [match s.mark with | .dot => 46 | .comma => 44] ++ minor) ∧
      (∀ c ∈ whole ++ minor, 48 ≤ c ∧ c ≤ 57) ∧
      whole ≠ [] ∧ (whole.head? = some 48 → whole = [48]) ∧ minor.length = s.decimals ∧
      digitsValue whole = m / 10 ^ s.decimals ∧ digitsValue minor = m % 10 ^ s.decimals ∧
      (moneyText s m).length ≤ s.glyph.toList.length + 8

/-! ## The item table (file 03) -/

/-- R17, R22, R33, R35, R37, R39, R40, R43, R44: a PRICE record as the item table's own event (log 8): which records are out
of range; that one in range carries its own fields as inputs; what it does, and that it is taken as version 1 of an item
that was not in a table with room. -/
def Obligations.PricePutsTheVersionIntoItsItem : Prop :=
   (∀ (n : Nat) (r : PriceRecord) (s : State),
      (9999999999999 < r.code ∨ 9999999 < r.base ∨ (∃ f, r.floor = some f ∧ 9999999 < f) ∨
        (∃ q, r.pack = some q ∧ (q = 0 ∨ 999999 < q)) ∨ r.unit = some none ∨ r.effect = none ∨ r.promotion = .unknown ∨
        (∃ p m, r.promotion = .percent p m ∧ (p = 0 ∨ 9999 < p ∨ m = none)) ∨
        (∃ a, r.promotion = .amount a ∧ (a = 0 ∨ 9999999 < a)) ∨ (∃ p, r.promotion = .fixed p ∧ 9999999 < p) ∨
        (r.pack ≠ none ∧ r.unit = none) ∨ (r.pack = none ∧ r.unit ≠ none) ∨
        (∃ t, r.badge = some t ∧
          (r.promotion = .absent ∨ t = [] ∨ 16 < t.length ∨ ∃ c ∈ t, c < 32 ∨ 127 < c)) ∨
        40 < r.description.length ∨ ∃ c ∈ r.description, c < 32 ∨ 127 < c) →
      checkPrice r = none ∧ exec (.price (.event n) r) s = s.reports (some .fieldRange) s.block) ∧
  ∀ (n : Nat) (r : PriceRecord) (s : State) (inputs : PriceInputs) (effect : Effect),
    PriceInRange r inputs effect →
    checkPrice r = some (inputs, effect) ∧
    (getItem s.block r.code = none → 65536 ≤ s.block.items.table.length →
      exec (.price (.event n) r) s = s.reports (some .tableFull) s.block) ∧
    (getItem s.block r.code = none → s.block.items.table.length < 65536 →
      ∃ b, exec (.price (.event n) r) s = s.reports none b ∧
        getItem b r.code = some (Item.mk 1 #v[some (Version.mk
          (if effect = .immediate then .active else .pending)
          (statusUnder s.block.price.masks (evaluate inputs).faults) 1 inputs (evaluate inputs) 0), none, none, none] [])) ∧
    ∀ i, (getItem s.block r.code = some i ∨ (getItem s.block r.code = none ∧ s.block.items.table.length < 65536 ∧
        i = Item.mk 0 (Vector.replicate 4 none) [])) →
      (placeVersion s.block.price.masks inputs i effect = none →
        exec (.price (.event n) r) s = s.reports (some .slotsFull) s.block) ∧
      ∀ j, placeVersion s.block.price.masks inputs i effect = some j →
        ∃ b, exec (.price (.event n) r) s = s.reports none b ∧ Touches [.items, .labels, .mgmt] s.block b ∧
          getItem b r.code = some j ∧ (∀ c, c ≠ r.code → getItem b c = getItem s.block c) ∧
          b.items.pending = (if effect = .nextOpen ∧ r.code ∉ s.block.items.pending
            then s.block.items.pending ++ [r.code] else s.block.items.pending) ∧
          b.labels = { s.block.labels with handoffs := s.block.labels.handoffs ++ [Handoff.mk r.code []] } ∧
          b.mgmt = { s.block.mgmt with
            notices := if statusUnder s.block.price.masks (evaluate inputs).faults = .held
              then noticeQueueAfter .itemHeld (.item r.code) none s.block.mode.clock s.block.mgmt.notices
              else s.block.mgmt.notices }

/-- R35, R36, R41, R42, R43, R44, R45: the slot a version takes, what becomes of the slot it replaces, and when none can be
had; and the two reference requests, which change one slot of one item, and nothing where they name no version. -/
def Obligations.SlotsAreTakenAndReferencesCounted : Prop :=
  (∀ (m : PriceMasks) (inputs : PriceInputs) (i : Item), OneOfEach i →
     (∀ k v, slotOf i k = some v → v.role = .pending → v.refs = 0 →
       ∃ j, placeVersion m inputs i .nextOpen = some j ∧ Placed m .pending inputs i j k ∧
         ∀ l, l ≠ k → slotOf j l = slotOf i l) ∧
     ((∀ k v, slotOf i k = some v → v.role = .pending → 0 < v.refs) →
       (∀ e, slotOf i e = none → (∀ l, l < e → slotOf i l ≠ none) →
         ∃ j, placeVersion m inputs i .nextOpen = some j ∧ Placed m .pending inputs i j e ∧
           ∀ l, l ≠ e → slotOf j l =
             (slotOf i l).map (fun v => if v.role = .pending then { v with role := .retired } else v)) ∧
       ((∀ k, slotOf i k ≠ none) → placeVersion m inputs i .nextOpen = none)) ∧
     (∀ e, slotOf i e = none → (∀ l, l < e → slotOf i l ≠ none) →
       ∃ j, placeVersion m inputs i .immediate = some j ∧ Placed m .active inputs i j e ∧
         ∀ l, l ≠ e → slotOf j l = (slotOf i l).bind retiredFrom) ∧
     ((∀ k, slotOf i k ≠ none) → placeVersion m inputs i .immediate = none)) ∧
  ∀ (b : Block) (code : Nat) (k : Slot) (number : Nat),
    (namedVersion b code k number = none →
      takeReference code k number b = b ∧ releaseReference code k number b = b) ∧
    ∀ i v, getItem b code = some i → slotOf i k = some v → v.number = number →
      Touches [.items] b (takeReference code k number b) ∧ Touches [.items] b (releaseReference code k number b) ∧
      (∃ j, getItem (takeReference code k number b) code = some j ∧ j.last = i.last ∧ j.bound = i.bound ∧
        slotOf j k = some { v with refs := v.refs + 1 } ∧ ∀ l, l ≠ k → slotOf j l = slotOf i l) ∧
      (∃ j, getItem (releaseReference code k number b) code = some j ∧ j.last = i.last ∧ j.bound = i.bound ∧
        slotOf j k = (if v.role = .retired ∧ v.refs ≤ 1 then none else some { v with refs := v.refs - 1 }) ∧
        ∀ l, l ≠ k → slotOf j l = slotOf i l) ∧
      ∀ c, c ≠ code → getItem (takeReference code k number b) c = getItem b c ∧
        getItem (releaseReference code k number b) c = getItem b c

/-- R48, R72: the activation an opening asks for. -/
def Obligations.ActivationTakesEachValidPendingVersion : Prop :=
  ∀ b : Block, b.items.pending.Nodup → (∀ code i, getItem b code = some i → OneOfEach i) →
    Touches [.items, .labels, .mgmt] b (activate b) ∧
    (activate b).items.pending = b.items.pending.filter (pendingHeld b) ∧
    (∀ code, code ∉ b.items.pending ∨ pendingHeld b code = true → getItem (activate b) code = getItem b code) ∧
    (∀ code ∈ b.items.pending, ∀ i k v, getItem b code = some i → slotOf i k = some v → v.role = .pending →
      v.status = .valid → ∃ j, getItem (activate b) code = some j ∧ j.last = i.last ∧ j.bound = i.bound ∧
        slotOf j k = some { v with role := .active } ∧ ∀ l, l ≠ k → slotOf j l = (slotOf i l).bind retiredFrom) ∧
    (activate b).labels = { b.labels with
      sweep := if b.items.pending = [] then none else some (Sweep.mk b.items.pending 0) } ∧
    (activate b).mgmt = { b.mgmt with
      notices := (b.items.pending.filter (pendingHeld b)).foldl
        (fun q code => noticeQueueAfter .itemHeld (.item code) none b.mode.clock q) b.mgmt.notices }

/-- R39, R46, R47: DESCRIPTION and WITHDRAW, as the item table's own events (log 8); that a code above 9,999,999,999,999 is
NOT_FOUND, as one of no item, is the model's inference (log 44). -/
def Obligations.DescriptionAndWithdrawChangeOneItem : Prop :=
  (∀ (n code : Nat) (text : Text) (s : State),
    ((40 < text.length ∨ ∃ c ∈ text, c < 32 ∨ 127 < c) →
      exec (.description (.event n) code text) s = s.reports (some .fieldRange) s.block) ∧
    (text.length ≤ 40 → (∀ c ∈ text, 32 ≤ c ∧ c ≤ 127) →
      (getItem s.block code = none →
        exec (.description (.event n) code text) s = s.reports (some .notFound) s.block) ∧
      ∀ i, getItem s.block code = some i →
        ∃ b j, exec (.description (.event n) code text) s = s.reports none b ∧ Touches [.items, .labels] s.block b ∧
          getItem b code = some j ∧ j.last = i.last ∧ j.bound = i.bound ∧
          (∀ k, slotOf j k = (slotOf i k).map (fun v =>
            if v.role = .retired then v else { v with inputs := { v.inputs with description := text } })) ∧
          (∀ c, c ≠ code → getItem b c = getItem s.block c) ∧ b.items.pending = s.block.items.pending ∧
          ∃ ks, (∀ k, k ∈ ks ↔ ∃ v, slotOf i k = some v ∧ v.role ≠ .retired) ∧
            b.labels = { s.block.labels with
              handoffs := s.block.labels.handoffs ++ (if ks = [] then [] else [Handoff.mk code ks]) })) ∧
  ∀ (n code : Nat) (s : State),
    (getItem s.block code = none → exec (.withdraw (.event n) code) s = s.reports (some .notFound) s.block) ∧
    ∀ i, getItem s.block code = some i →
      (i.bound ≠ [] → exec (.withdraw (.event n) code) s = s.reports (some .boundLabels) s.block) ∧
      (i.bound = [] → ∃ b, exec (.withdraw (.event n) code) s = s.reports none b ∧ Touches [.items] s.block b ∧
        getItem b code = none ∧ (∀ c, c ≠ code → getItem b c = getItem s.block c) ∧
        b.items.pending = s.block.items.pending.filter (fun c => decide (c ≠ code)))

/-- R26: RELEASE; a code out of range is refused before the item is looked for, the model's inference from R188
(log 43). -/
def Obligations.ReleaseEvaluatesTheHeldVersionsAgain : Prop :=
  ∀ (h : MgmtHeader) (code : Nat) (s : State), Taken h s.block →
    (9999999999999 < code → exec (.release h code) s = s.answers h (.refusal .fieldRange none) s.block) ∧
    (code ≤ 9999999999999 → getItem s.block code = none →
      exec (.release h code) s = s.answers h (.refusal .notFound none) s.block) ∧
    ∀ i, code ≤ 9999999999999 → getItem s.block code = some i →
      (∀ k v, slotOf i k = some v → v.results = evaluate v.inputs) →
      ∃ b j valid held, exec (.release h code) s = s.answers h (.released valid held) b ∧
        Touches [.items, .labels, .mgmt] s.block b ∧ getItem b code = some j ∧ j.last = i.last ∧ j.bound = i.bound ∧
        (∀ k, slotOf j k = (slotOf i k).map (fun v => if v.status = .held ∧
          statusUnder s.block.price.masks v.results.faults = .valid then { v with status := .valid } else v)) ∧
        (∀ c, c ≠ code → getItem b c = getItem s.block c) ∧ b.items.pending = s.block.items.pending ∧
        held = countStatus j .held ∧ valid + held = countStatus i .held ∧
        b.labels = { s.block.labels with
          handoffs := s.block.labels.handoffs ++ (if valid = 0 then [] else [Handoff.mk code []]) } ∧
        b.mgmt = { s.block.mgmt with
          notices := if held = 0 then s.block.mgmt.notices
            else noticeQueueAfter .itemHeld (.item code) none s.block.mode.clock s.block.mgmt.notices }

/-! ## The label directory (file 04) -/

/-- R56, R57, R58: what a label should show under the mode in force, the state it settles in, and its priority class. -/
def Obligations.TargetStateAndClassAreAsListed : Prop :=
  (∀ (b : Block) (l : Label), l.item = none →
    targetOf b l = (if l.binding = .foreign then some .blank else none)) ∧
  (∀ (b : Block) (l : Label) (code : Nat) (i : Item), l.item = some code → getItem b code = some i → OneOfEach i →
    (∀ k v, slotOf i k = some v → v.status = .valid → v.role = .pending → b.mode.mode = .closed →
      targetOf b l = some (.version code k v.number)) ∧
    (∀ k v, slotOf i k = some v → v.status = .valid → v.role = .active →
      (b.mode.mode = .closed → ∀ j w, slotOf i j = some w → w.role = .pending → w.status = .held) →
      targetOf b l = some (.version code k v.number)) ∧
    ((∀ k v, slotOf i k = some v → v.status = .valid →
        v.role = .retired ∨ (v.role = .pending ∧ b.mode.mode ≠ .closed)) → targetOf b l = none)) ∧
  (∀ l : Label,
    (l.target = none → settledState l = (if l.item = none then .unbound else .current)) ∧
    (l.target = some .blank → settledState l = .stale) ∧
    ∀ code k n, l.target = some (.version code k n) →
      (settledState l = .current ↔ l.marks.redraw = false ∧ l.marks.force = false ∧
        ∃ r t, l.confirmed = some r ∧ r.what = .version code k n t ∧ l.template = some t) ∧
      (settledState l = .current ∨ settledState l = .stale)) ∧
  ∀ (b : Block) (l : Label),
    (classOf b l = .urgent ↔ l.marks.force = true ∨ l.displayKnown = false ∨ l.binding = .foreign ∨
      ∀ w ∈ labelRefs l, w = .blank) ∧
    (classOf b l ≠ .urgent →
      (l.target = none → classOf b l = .cosmetic) ∧
      ∀ t, l.target = some t →
        (classOf b l = .increase ↔ largestE b l < targetE b t) ∧
        (classOf b l = .decrease ↔ targetE b t < largestE b l) ∧
        (classOf b l = .cosmetic ↔ targetE b t = largestE b l))

/-- R53, R54, R61, R68: LABEL and TEMPLATE records, as the directory's own events (log 8). -/
def Obligations.LabelAndTemplateRecordsChangeOneLabel : Prop :=
  (∀ (n id : Nat) (cls : Coded DisplayClass) (s : State),
     (id = 0 ∨ 4294967295 < id ∨ cls = none → exec (.label (.event n) id cls) s = s.reports (some .fieldRange) s.block) ∧
     ∀ c, 1 ≤ id → id ≤ 4294967295 → cls = some c →
       (getLabel s.block id ≠ none → exec (.label (.event n) id cls) s = s.reports (some .labelExists) s.block) ∧
       (getLabel s.block id = none → 65536 ≤ s.block.labels.table.length →
         exec (.label (.event n) id cls) s = s.reports (some .tableFull) s.block) ∧
       (getLabel s.block id = none → s.block.labels.table.length < 65536 →
         ∃ b, exec (.label (.event n) id cls) s = s.reports none b ∧ Touches [.labels] s.block b ∧
           getLabel b id = some (Label.mk c none none .normal none none none none false .unbound
             (Marks.mk false false false) false none 0 false none none 0 none 0) ∧
           (∀ j, j ≠ id → getLabel b j = getLabel s.block j) ∧
           b.labels = { s.block.labels with table := b.labels.table })) ∧
  ∀ (n id t : Nat) (s : State),
    (getLabel s.block id = none → exec (.templateRecord (.event n) id t) s = s.reports (some .notFound) s.block) ∧
    ∀ l, getLabel s.block id = some l →
      (l.item = none → exec (.templateRecord (.event n) id t) s = s.reports (some .notFound) s.block) ∧
      (l.item ≠ none →
        ((∀ (x : Fin 32) d, x.val = t → s.block.composer.templates.get x = some d → d.cls ≠ l.cls) →
          exec (.templateRecord (.event n) id t) s = s.reports (some .fieldRange) s.block) ∧
        ∀ (x : Fin 32) d, x.val = t → s.block.composer.templates.get x = some d → d.cls = l.cls →
          ∃ b m, exec (.templateRecord (.event n) id t) s = s.reports none b ∧ Touches [.labels] s.block b ∧
            getLabel b id = some m ∧ (∀ j, j ≠ id → getLabel b j = getLabel s.block j) ∧
            (l.state = .inFlight ∨ l.state = .uncertain ∨
                (l.state = .failed ∧ (l.oversize = false ∨ l.template = some t)) →
              m = { l with template := some t }) ∧
            (l.state = .unbound ∨ l.state = .current ∨ l.state = .stale → SettledIn b m ∧
              m = { l with template := some t, target := m.target, state := m.state, queued := m.queued }) ∧
            (l.state = .failed ∧ l.oversize = true ∧ l.template ≠ some t →
              m = { l with
                template := some t, retry := 0, oversize := false, target := m.target, state := m.state,
                queued := m.queued } ∧
              (l.inFlight = none → SettledIn b m) ∧
              (l.inFlight ≠ none → m.state = .uncertain ∧ m.queued ≠ none)))

/-- R38, R60, R61, R89: a BIND or UNBIND that takes effect at once, as the directory's own event (log 8), and their
refusals; a BIND of the item a label is bound to already is a TEMPLATE record, or changes nothing. -/
def Obligations.BindingsTakeEffectAtOnceOnALabelNotInFlight : Prop :=
  (∀ (n id code t : Nat) (s : State),
     (getLabel s.block id = none → exec (.bind (.event n) id code t) s = s.reports (some .notFound) s.block) ∧
     ∀ l, getLabel s.block id = some l →
       ((∀ (x : Fin 32) d, x.val = t → s.block.composer.templates.get x = some d → d.cls ≠ l.cls) →
         exec (.bind (.event n) id code t) s = s.reports (some .fieldRange) s.block) ∧
       ∀ (x : Fin 32) d, x.val = t → s.block.composer.templates.get x = some d → d.cls = l.cls →
         (getItem s.block code = none → exec (.bind (.event n) id code t) s = s.reports (some .notFound) s.block) ∧
         (∀ i, getItem s.block code = some i → l.state ≠ .inFlight → l.item = some code →
           (l.template = some t → exec (.bind (.event n) id code t) s = s.reports none s.block) ∧
           (l.template ≠ some t →
             exec (.bind (.event n) id code t) s = exec (.templateRecord (.event n) id t) s)) ∧
         ∀ i, getItem s.block code = some i → l.state ≠ .inFlight → l.item ≠ some code →
           (8 ≤ i.bound.length → exec (.bind (.event n) id code t) s = s.reports (some .labelLimit) s.block) ∧
           (i.bound.length < 8 → ∃ b m, exec (.bind (.event n) id code t) s = s.reports none b ∧
             Touches [.labels, .items, .composer] s.block b ∧ getLabel b id = some m ∧ SettledIn b m ∧
             (∀ j, j ≠ id → getLabel b j = getLabel s.block j) ∧
             m = { l with
               item := some code, template := some t, binding := .foreign, confirmed := none, inFlight := none, retry := 0,
               marks := Marks.mk false false false, oversize := false,
               target := m.target, state := m.state, queued := m.queued } ∧
             m.state = (if m.target = none then .current else .stale) ∧
             (∀ q, m.queued = some q → q.cls = .urgent) ∧
             (∀ c, (getItem b c).map Item.bound = (getItem s.block c).map (fun o =>
               if c = code then o.bound ++ [id] else if l.item = some c then o.bound.filter (fun j => decide (j ≠ id))
               else o.bound)) ∧
             (∀ c, (getItem b c).map Item.slots =
               (getItem (releaseInFlight l (releaseConfirmed l s.block)) c).map Item.slots) ∧
             b.composer = { s.block.composer with style := s.block.composer.style.filter (fun j => decide (j ≠ id)) })) ∧
  ∀ (n id : Nat) (s : State),
    (getLabel s.block id = none → exec (.unbind (.event n) id) s = s.reports (some .notFound) s.block) ∧
    ∀ l, getLabel s.block id = some l → l.state ≠ .inFlight →
      (l.item = none → exec (.unbind (.event n) id) s = s.reports none s.block) ∧
      ∀ old, l.item = some old →
        ∃ b m q, exec (.unbind (.event n) id) s = s.reports none b ∧
          Touches [.labels, .items, .composer] s.block b ∧ getLabel b id = some m ∧
          (∀ j, j ≠ id → getLabel b j = getLabel s.block j) ∧
          m = { l with
            item := none, template := none, binding := .foreign, confirmed := none, inFlight := none, retry := 0,
            marks := Marks.mk false false false, oversize := false, target := some .blank, state := .stale,
            queued := some q } ∧
          q.cls = .urgent ∧
          (∀ c, (getItem b c).map Item.bound = (getItem s.block c).map (fun o =>
            if old = c then o.bound.filter (fun j => decide (j ≠ id)) else o.bound)) ∧
          (∀ c, (getItem b c).map Item.slots =
            (getItem (releaseInFlight l (releaseConfirmed l s.block)) c).map Item.slots) ∧
          b.composer = { s.block.composer with style := s.block.composer.style.filter (fun j => decide (j ≠ id)) }

/-- R60, R61: a BIND or UNBIND of a label that is IN_FLIGHT, as the directory's own event (log 8), is stored as its next
binding, checked against the binding stored before. -/
def Obligations.BindAndUnbindWaitBehindATransaction : Prop :=
  ∀ (n id : Nat) (s : State) (l : Label), getLabel s.block id = some l → l.state = .inFlight →
    (∀ (code : Nat) (x : Fin 32) (d : Template) (i : Item), s.block.composer.templates.get x = some d → d.cls = l.cls →
      getItem s.block code = some i →
      (effectiveItem l = some code → l.next = none → l.template = some x.val →
        exec (.bind (.event n) id code x.val) s = s.reports none s.block) ∧
      (effectiveItem l = some code → l.next = none → l.template ≠ some x.val →
        exec (.bind (.event n) id code x.val) s =
          s.reports none (putLabel id { l with template := some x.val } s.block)) ∧
      (effectiveItem l ≠ some code → 8 ≤ (i.bound.filter (fun j => decide (j ≠ id))).length →
        exec (.bind (.event n) id code x.val) s = s.reports (some .labelLimit) s.block) ∧
      ((effectiveItem l = some code ∧ l.next ≠ none) ∨
          (effectiveItem l ≠ some code ∧ (i.bound.filter (fun j => decide (j ≠ id))).length < 8) →
        exec (.bind (.event n) id code x.val) s =
          s.reports none (putLabel id { l with next := some (.bind code x.val) } s.block))) ∧
    (l.item = none → l.next = none → exec (.unbind (.event n) id) s = s.reports none s.block) ∧
    (l.item ≠ none ∨ l.next ≠ none → exec (.unbind (.event n) id) s =
      s.reports none (putLabel id { l with next := some .unbind } s.block))

/-- R59, R62, R64, R68, R72: ITEM_RETARGET, TEMPLATE_RETARGET and SWEEP_VISIT: the labels they reach, FAILED ones too, and
the class and joining order of those they queue; the ascending order of the labels of a template is the model's (log 53). -/
def Obligations.RetargetsSettleTheLabelsTheyReach : Prop :=
  (∀ (s : State) (h : Handoff) (rest : List Handoff), s.block.labels.handoffs = h :: rest →
    ∃ b, exec .itemRetarget s = s.becomes b ∧ Touches [.labels] s.block b ∧ b.labels.handoffs = rest ∧
      (∀ id, id ∉ boundLabels s.block h.code → getLabel b id = getLabel s.block id) ∧
      ∀ id ∈ boundLabels s.block h.code, ∀ l, getLabel s.block id = some l →
        ∃ m, getLabel b id = some m ∧ Retargeted s.block b l m ∧
          m.marks = { l.marks with redraw := m.marks.redraw } ∧
          (m.marks.redraw = true ↔ l.marks.redraw = true ∨ ∃ k ∈ h.redrawn, ∃ number template,
            RefWhat.version h.code k number template ∈ labelRefs l)) ∧
  (∀ (s : State) (h : Handoff) (rest : List Handoff) (b : Block), s.block.labels.handoffs = h :: rest →
    exec .itemRetarget s = s.becomes b → (boundLabels s.block h.code).Nodup →
    JoinInOrder s.block b (boundLabels s.block h.code)) ∧
  (∀ (s : State) (t : Nat) (rest : List Nat), s.block.labels.templateHandoffs = t :: rest →
    tableSorted s.block.labels.table →
    ∃ b, exec .templateRetarget s = s.becomes b ∧ Touches [.labels] s.block b ∧ b.labels.templateHandoffs = rest ∧
      (∀ ids, ids.Pairwise (· < ·) → (∀ id ∈ ids, ∃ l, getLabel s.block id = some l ∧ l.template = some t) →
        JoinInOrder s.block b ids) ∧
      ∀ id l, getLabel s.block id = some l →
        (l.template ≠ some t → getLabel b id = some l) ∧
        (l.template = some t → ∃ m, getLabel b id = some m ∧ m.marks.redraw = true ∧
          (l.state ≠ .uncertain → m.state = .stale ∨ m.state = .uncertain →
            QueuedFrom s.block.labels.nextJoin l.queued (classOf b m) m.queued) ∧
          (isSettledState l.state = true → SettledIn b m) ∧
          (l.state = .inFlight ∨ l.state = .uncertain ∨ (l.state = .failed ∧ l.oversize = false) →
            m = { l with marks := { l.marks with redraw := true } }) ∧
          (l.state = .failed ∧ l.oversize = true → m.oversize = false ∧ m.retry = 0 ∧
            (l.inFlight = none → SettledIn b m) ∧ (l.inFlight ≠ none → m.state = .uncertain ∧ m.queued ≠ none)))) ∧
  ∀ (s : State) (w : Sweep), s.block.labels.sweep = some w →
    ∃ b, exec .sweepVisit s = s.becomes b ∧ Touches [.labels] s.block b ∧
      b.labels.sweep = (if w.cursor + 1 < w.items.length then some { w with cursor := w.cursor + 1 } else none) ∧
      ∀ id l, getLabel s.block id = some l →
        ((∀ code, w.items[w.cursor]? = some code → id ∉ boundLabels s.block code) → getLabel b id = some l) ∧
        ∀ code, w.items[w.cursor]? = some code → id ∈ boundLabels s.block code →
          (∃ m, getLabel b id = some m ∧ Retargeted s.block b l m ∧ m.marks = l.marks) ∧
          ((boundLabels s.block code).Nodup → JoinInOrder s.block b (boundLabels s.block code))

/-- R68, R71: FORCE_LABEL; a label id out of range is refused before the label is looked for, the model's inference from
R188 (log 43). -/
def Obligations.ForceLabelAsksForAFullUrgentRedraw : Prop :=
  ∀ (h : MgmtHeader) (id : Nat) (s : State), Taken h s.block →
    (id = 0 ∨ 4294967295 < id → exec (.forceLabel h id) s = s.answers h (.refusal .fieldRange none) s.block) ∧
    (1 ≤ id → id ≤ 4294967295 →
      (getLabel s.block id = none → exec (.forceLabel h id) s = s.answers h (.refusal .notFound none) s.block) ∧
      ∀ l, getLabel s.block id = some l →
        (l.item = none → l.binding = .normal →
          exec (.forceLabel h id) s = s.answers h (.refusal .notFound none) s.block) ∧
        (l.item ≠ none ∨ l.binding = .foreign →
          ∃ b m, exec (.forceLabel h id) s = s.answers h .done b ∧ Touches [.labels] s.block b ∧
            getLabel b id = some m ∧ (∀ j, j ≠ id → getLabel b j = getLabel s.block j) ∧
            m = { l with
              marks := Marks.mk true true true, oversize := false, retry := 0, target := m.target, state := m.state,
              queued := m.queued } ∧
            (l.state = .inFlight → m.state = .inFlight ∧ m.target = l.target ∧ m.queued = l.queued) ∧
            (l.state ≠ .inFlight → ∀ q, m.queued = some q → q.cls = .urgent) ∧
            (l.state = .uncertain ∨ (l.state = .failed ∧ l.inFlight ≠ none) → m.state = .uncertain ∧ m.queued ≠ none) ∧
            (isSettledState l.state = true ∨ (l.state = .failed ∧ l.inFlight = none) → SettledIn b m ∧
              (m.target ≠ none → m.state = .stale))))

/-! ## The image composer (file 05) -/

/-- R29, R79 to R82, R85: the text of each field source; a text laid out as its font's glyphs, of which the line keeps the
longest run of leading ones that fits, placed by its alignment; the window cursor, which runs over its window by R81's table
of orientations and meets each pixel once;
the fields drawn in order, a later one over an earlier one; a region scanned row by row; and the runs, which stand for the
pixels they code, none of which could be longer. An empty text is not truncated, however high its font (log 54). -/
def Obligations.TextsAreLaidOutAndPixelsAreCoded : Prop :=
   ((∀ (gs : List Glyph) (extent : Nat), ∃ n, n ≤ gs.length ∧ fitLine gs extent = gs.take n ∧
      lineWidth (gs.take n) ≤ extent ∧ ∀ k, n < k → k ≤ gs.length → extent < lineWidth (gs.take k)) ∧
    (∀ (f : TemplateField) (x y : Nat), f.xStart ≤ x → x ≤ f.xEnd → f.yStart ≤ y → y ≤ f.yEnd →
      (cursorPosition f x y).1 < fastExtent f ∧ (cursorPosition f x y).2 < slowExtent f ∧
        cursorPixel f (cursorPosition f x y).1 (cursorPosition f x y).2 = (x, y)) ∧
    (∀ (f : TemplateField) (i j width height : Nat), width = f.xEnd - f.xStart + 1 → height = f.yEnd - f.yStart + 1 →
      (fastExtent f, slowExtent f, cursorPixel f i j) = (match f.orientation with
        | .deg0 => (width, height, f.xStart + i, f.yStart + j)
        | .deg180 => (width, height, f.xEnd - i, f.yEnd - j)
        | .deg90 => (height, width, f.xEnd - j, f.yStart + i)
        | .deg270 => (height, width, f.xStart + j, f.yEnd - i))) ∧
    ∀ (f : TemplateField) (i j : Nat), f.xStart ≤ f.xEnd → f.yStart ≤ f.yEnd → i < fastExtent f → j < slowExtent f →
      f.xStart ≤ (cursorPixel f i j).1 ∧ (cursorPixel f i j).1 ≤ f.xEnd ∧
        f.yStart ≤ (cursorPixel f i j).2 ∧ (cursorPixel f i j).2 ≤ f.yEnd ∧
        cursorPosition f (cursorPixel f i j).1 (cursorPixel f i j).2 = (i, j)) ∧
  (∀ l : List Bool, expandRuns (codeRuns l) = l ∧ (codeRuns l).length ≤ l.length ∧
    (l.length + 127) / 128 ≤ (codeRuns l).length ∧
    ∀ (i : Nat) (x y : Byte), (codeRuns l)[i]? = some x → (codeRuns l)[i + 1]? = some y →
      (128 ≤ x.toNat ↔ 128 ≤ y.toNat) → x.toNat % 128 = 127) ∧
  (∀ (p : PriceSettings) (code : Nat) (v : Version),
    fieldText p code v .effectivePrice = moneyText p v.results.e ∧
    fieldText p code v .basePrice = (if showsPromotion v.inputs v.results then moneyText p v.inputs.base else []) ∧
    fieldText p code v .description = v.inputs.description ∧
    fieldText p code v .promoBadge = (if showsPromotion v.inputs v.results then v.inputs.badge.getD [] else []) ∧
    (v.results.u = .absent → fieldText p code v .unitPrice = []) ∧
    (v.results.u = .blank → fieldText p code v .unitPrice = "----".toList.map Char.toNat) ∧
    (∀ n u, v.results.u = .amount n → v.inputs.unit = some u → fieldText p code v .unitPrice =
      moneyText p n ++ (match u with
        | .perKg => "/kg" | .perL => "/l" | .per100g => "/100g" | .per100ml => "/100ml" | .perPiece => "/pc"
        | .perM => "/m").toList.map Char.toNat) ∧
    (fieldText p code v .itemCode).length = 13 ∧ (∀ c ∈ fieldText p code v .itemCode, 48 ≤ c ∧ c ≤ 57) ∧
    (code ≤ 9999999999999 → digitsValue (fieldText p code v .itemCode) = code)) ∧
  (∀ (c : ComposerBlock) (f : TemplateField) (text : Text) (gs : List Glyph) (laid : LaidField), laid = layField c f text →
    gs.length = text.length →
    (∀ (k ch : Nat) (g : Glyph), text[k]? = some ch → gs[k]? = some g →
      32 ≤ ch ∧ ch ≤ 127 ∧ c.glyphs.toList[96 * f.font.val + (ch - 32)]? = some g) →
    laid.field = f ∧ laid.line = fitLine gs (fastExtent f) ∧
    laid.width = (laid.line.map Glyph.width).sum + (laid.line.length - 1) ∧ laid.height = c.fonts.get f.font ∧
    laid.start = (match f.alignment with
      | .left => 0
      | .right => fastExtent f - laid.width
      | .centre => (fastExtent f - laid.width) / 2) ∧
    (laid.truncated = true ↔ laid.line.length < text.length ∨ (text ≠ [] ∧ slowExtent f < laid.height))) ∧
  (∀ (gs : List Glyph) (n row col : Nat),
    (∀ g, gs[n]? = some g → col < g.width →
      linePixel gs row (((gs.take n).map Glyph.width).sum + n + col) = (g.pattern.getD row []).getD col false) ∧
    (n + 1 < gs.length → linePixel gs row (((gs.take (n + 1)).map Glyph.width).sum + n) = false)) ∧
  (∀ (ls : List LaidField) (l : LaidField) (x y i j : Nat), (i, j) = cursorPosition l.field x y →
    imagePixel [] x y = Pixel.mk false false ∧
    (x < l.field.xStart ∨ l.field.xEnd < x ∨ y < l.field.yStart ∨ l.field.yEnd < y ∨ l.line = [] ∨ l.height ≤ j →
      imagePixel (ls ++ [l]) x y = imagePixel ls x y) ∧
    (l.field.xStart ≤ x → x ≤ l.field.xEnd → l.field.yStart ≤ y → y ≤ l.field.yEnd → l.line ≠ [] → j < l.height →
      ∀ ink, (ink = true ↔ l.start ≤ i ∧ i < l.start + l.width ∧ linePixel l.line j (i - l.start) = true) →
        imagePixel (ls ++ [l]) x y =
          Pixel.mk (ink && decide (l.field.plane = .black)) (ink && decide (l.field.plane = .accent)))) ∧
  ∀ (fields : List LaidField) (plane : Plane) (x0 x1 y0 y1 : Nat), x0 ≤ x1 → y0 ≤ y1 →
    (regionPixels fields plane x0 x1 y0 y1).length = (x1 - x0 + 1) * (y1 - y0 + 1) ∧
    ∀ k, k < (x1 - x0 + 1) * (y1 - y0 + 1) → ∀ p,
      p = imagePixel fields (x0 + k % (x1 - x0 + 1)) (y0 + k / (x1 - x0 + 1)) →
      (regionPixels fields plane x0 x1 y0 y1)[k]? = some (match plane with | .black => p.black | .accent => p.accent)

/-- R79, R82, R83, R84, R86, R87, R88, R97, R192: what a composition gives: at most 96 fragments of 64 bytes that carry the
coded update whole; PARTIAL exactly under the conditions of R83, with a window for each field that differs, unless it would
take more than 96 fragments; else FULL, or OVERSIZE where that takes more than 96; the BLANK image; and the bytes of the image
header, the class code free (log 36), the kind code that of the ANNOUNCE (log 37), and bits 2 and 1 of the first byte, to
which R192 gives no meaning, 0 by the model's choice (log 66). -/
def Obligations.ACompositionFitsItsFragments : Prop :=
  (∀ (b : Block) (id : Nat) (l : Label) (t : Target) (u : Composed), compose b id l t = some u →
    1 ≤ fragmentCount u ∧ fragmentCount u ≤ 96 ∧
    (∀ newTag baseTag, (codedUpdate u newTag baseTag).length = codedLength u ∧
      (fragmentsOf (codedUpdate u newTag baseTag) (fragmentCount u)).flatten = codedUpdate u newTag baseTag ∧
      ∀ k x, (fragmentsOf (codedUpdate u newTag baseTag) (fragmentCount u))[k]? = some x →
        x.length ≤ 64 ∧ 1 ≤ x.length ∧ (k + 1 < fragmentCount u → x.length = 64)) ∧
    (u.kind = .full → u.windows = 0) ∧
    (u.kind = .partialUpdate → u.windows ≤ 4 ∧ l.displayKnown = true ∧ l.inFlight = none ∧
      l.marks = Marks.mk false false false ∧ id ∈ b.composer.style ∧
      ∃ code k n r j m template, t = .version code k n ∧ l.confirmed = some r ∧ r.what = .version code j m template ∧
        l.template = some template)) ∧
  (∀ (b : Block) (id : Nat) (l : Label) (code : Nat) (k : Slot) (n : Nat),
    fragmentCount (composeFull (boundTemplate b l).cls (boundTemplate b l).planes
        (layTemplate b (boundTemplate b l) code (namedVersion b code k n))) ≤ 96 →
      compose b id l (.version code k n) ≠ none) ∧
  (∀ (b : Block) (id : Nat) (l : Label) (code : Nat) (k : Slot) (n : Nat) (i : Item) (v : Version) (x : Fin 32)
      (t : Template) (fields : List LaidField) (runs : Nat → Nat → Nat → Nat → List Byte) (whole : List Byte)
      (cut : Bool) (differing : Version → List TemplateField) (windows : Version → List Byte)
      (eligible : Version → Prop),
    getItem b code = some i → slotOf i k = some v → v.number = n → l.template = some x.val →
    b.composer.templates.get x = some t →
    fields = t.fields.map (fun f => layField b.composer f (fieldText b.price code v f.source)) →
    (∀ x0 x1 y0 y1, runs x0 x1 y0 y1 = codeRuns (regionPixels fields .black x0 x1 y0 y1) ++
      (if t.planes = 2 then codeRuns (regionPixels fields .accent x0 x1 y0 y1) else [])) →
    whole = runs 0 (classWidth t.cls - 1) 0 (classHeight t.cls - 1) →
    (cut = true ↔ ∃ f ∈ fields, f.truncated = true) →
    (∀ o, differing o =
      t.fields.filter (fun f => decide (fieldText b.price code o f.source ≠ fieldText b.price code v f.source))) →
    (∀ o, windows o = (differing o).flatMap (fun f =>
      [BitVec.ofNat 8 (f.xStart / 256), BitVec.ofNat 8 f.xStart, BitVec.ofNat 8 (f.xEnd / 256), BitVec.ofNat 8 f.xEnd,
        BitVec.ofNat 8 f.yStart, BitVec.ofNat 8 f.yEnd] ++ runs f.xStart f.xEnd f.yStart f.yEnd)) →
    (∀ o, eligible o ↔ l.displayKnown = true ∧ l.inFlight = none ∧ l.marks = Marks.mk false false false ∧
      id ∈ b.composer.style ∧ (differing o).length ≤ 4 ∧
      ∃ r j m, l.confirmed = some r ∧ r.what = .version code j m x.val ∧ namedVersion b code j m = some o) →
    (∀ r j m, l.confirmed = some r → r.what = .version code j m x.val → namedVersion b code j m ≠ none) →
    (∀ o, eligible o → 8 + (windows o).length ≤ 6144 → compose b id l (.version code k n) =
      some (Composed.mk .partialUpdate t.cls t.planes (differing o).length cut (windows o))) ∧
    ((∀ o, eligible o → 6144 < 8 + (windows o).length) →
      (8 + whole.length ≤ 6144 →
        compose b id l (.version code k n) = some (Composed.mk .full t.cls t.planes 0 cut whole)) ∧
      (6144 < 8 + whole.length → compose b id l (.version code k n) = none))) ∧
  (∀ (b : Block) (id : Nat) (l : Label), compose b id l .blank = some (Composed.mk .full l.cls 1 0 false
    (List.replicate (classWidth l.cls * classHeight l.cls / 128) 127#8))) ∧
  [(classWidth .small, classHeight .small), (classWidth .medium, classHeight .medium),
    (classWidth .large, classHeight .large)] = [(128, 64), (256, 128), (400, 240)] ∧
  ∀ (u : Composed) (newTag baseTag check : Nat), check = (u.content.map BitVec.toNat).sum % 65536 →
    checkValue u = check ∧ codedLength u = 8 + u.content.length ∧ fragmentCount u = (codedLength u + 63) / 64 ∧
    ∃ first : Byte, codedUpdate u newTag baseTag =
      [first, BitVec.ofNat 8 newTag, BitVec.ofNat 8 baseTag, BitVec.ofNat 8 u.windows, BitVec.ofNat 8 (check / 256),
        BitVec.ofNat 8 check, BitVec.ofNat 8 (codedLength u / 256), BitVec.ofNat 8 (codedLength u)] ++ u.content ∧
      first.toNat / 64 = (match u.kind with | .full => 1 | .partialUpdate => 2) ∧
      first.toNat / 16 % 4 = (Config.classCode (match u.cls with | .small => 0 | .medium => 1 | .large => 2)).val ∧
      (first.toNat / 8 % 2 = 1 ↔ u.planes = 2) ∧ first.toNat / 2 % 4 = 0 ∧ (first.toNat % 2 = 1 ↔ u.truncated = true)

/-! ## The radio scheduler (file 06) -/

/-- R59, R63, R70, R75, R87, R88, R89, R90, R93 to R97, R105, R106: BEACON: the slot it opens; the queue of the slot, by
class and joining order; the first-fit walk over it, which stops at 16 labels or at no budget; and what the walk does
with each label it reaches: a QUERY, a label declined, OVERSIZE, an update passed over, an update selected. The
model's readings: windows of the old slot still open are closed first (log 18), labels go LOST in ascending id (log
53), and the presence check comes before the walk (log 51). The presence check queues LABEL_LOST for each label gone
LOST, the first entry's transaction is begun with its fragments, and the moment at which the counters of R106 rise is
the model's (log 19). -/
def Obligations.BeaconOpensTheNextSlotAndSelectsItsLabels : Prop :=
  (∀ s : State, ∃ b slot, exec .beacon s = s.becomes b ∧
    Touches [.radio, .labels, .items, .composer, .mgmt, .counts, .time, .out] s.block b ∧
    slot = (if s.block.radio.fresh then s.block.radio.slot else (s.block.radio.slot + 1) % 64) ∧
    b.radio = { s.block.radio with
      slot := slot
      cycle := if s.block.radio.fresh = false ∧ slot = 0 then (s.block.radio.cycle + 1) % 65536 else s.block.radio.cycle
      channel := if slot = 0 then s.block.radio.settings.channel else s.block.radio.channel
      fresh := false
      budget := if s.block.mode.mode = .closed then s.block.radio.settings.closedBudget
        else s.block.radio.settings.tradingBudget
      plan := b.radio.plan
      cursor := 0
      taken := none } ∧
    b.time = { s.block.time with toBeacon := 250 } ∧
    Output.beacon b.radio.channel slot b.radio.cycle ∈ b.out ∧
    b.radio.plan.length ≤ 16 ∧ (b.radio.plan.map entryCost).sum ≤ b.radio.budget ∧
    (∀ e ∈ b.radio.plan, e.outcome = none ∧ e.label % 64 = slot) ∧
    (∀ e rest, b.radio.plan = e :: rest →
      Output.announce b.radio.channel e.label e.kind e.newTag e.baseTag e.fragments ∈ b.out) ∧
    (tableSorted s.block.labels.table → ∀ e ∈ b.radio.plan, e.kind ≠ .query →
      ∃ m f, getLabel b e.label = some m ∧ m.state = .inFlight ∧ m.queued = none ∧ m.inFlight = some f ∧
        f.ref.tag = e.newTag ∧ m.lastTag = e.newTag) ∧
    (s.block.radio.plan.length ≤ s.block.radio.cursor → slot = 0 →
      ∀ id l, getLabel s.block id = some l → ∃ m, getLabel b id = some m ∧
        ((l.present = true ∧ ∃ c, l.heard = some c ∧ 33 ≤ (b.radio.cycle + 65536 - c) % 65536) →
          m.present = false ∧ m.lostCount = min (l.lostCount + 1) 65535) ∧
        (¬ (l.present = true ∧ ∃ c, l.heard = some c ∧ 33 ≤ (b.radio.cycle + 65536 - c) % 65536) →
          m.present = l.present ∧ m.lostCount = l.lostCount)) ∧
    ∃ d, (s.block.radio.plan.length ≤ s.block.radio.cursor →
        Touches [.radio, .labels, .composer, .mgmt, .counts, .time, .out] s.block d ∧
        d.out = s.block.out ++ [.beacon b.radio.channel slot b.radio.cycle] ∧
        (∀ k, counterValue d k = (if k = .beacons then min (counterValue s.block k + 1) 4294967295
          else counterValue s.block k)) ∧
        (tableSorted s.block.labels.table → ∃ lost : List Nat, lost.Pairwise (· < ·) ∧
          (∀ id, id ∈ lost ↔ slot = 0 ∧ ∃ l c, getLabel s.block id = some l ∧ l.present = true ∧ l.heard = some c ∧
            33 ≤ (b.radio.cycle + 65536 - c) % 65536) ∧
          d.mgmt = { s.block.mgmt with
            notices := lost.foldl (fun q id => noticeQueueAfter .labelLost (.label id) none s.block.mode.clock q)
              s.block.mgmt.notices }) ∧
        d.composer = { s.block.composer with buffer := [] } ∧ d.labels.nextJoin = s.block.labels.nextJoin ∧
        (∀ id, getLabel s.block id = none → getLabel d id = none) ∧
        ∀ id l, getLabel s.block id = some l → ∃ m, getLabel d id = some m ∧
          m = { l with present := m.present, lostCount := m.lostCount, candidate := m.candidate }) ∧
      ∀ w, w = walkQueue (wakeQueue d slot) (Walk.mk d b.radio.budget []) →
        b.radio.plan = w.plan ∧ b.labels = w.block.labels ∧ b.items = w.block.items ∧ b.composer = w.block.composer ∧
        b.mgmt = w.block.mgmt ∧ w.block.out = d.out ∧ Transmitted w.plan.head? w.block b ∧
        (∀ k, k ≠ .updatesSent → k ≠ .queriesSent → k ≠ .fragmentsSent → counterValue b k = counterValue w.block k) ∧
        ∀ k, k ≠ .oversizeCount → k ≠ .truncatedCount → counterValue w.block k = counterValue d k) ∧
  (∀ (d : Block) (g : Nat), tableSorted d.labels.table →
    (wakeQueue d g).Nodup ∧
    (∀ id, id ∈ wakeQueue d g ↔ id % 64 = g ∧ ∃ l, getLabel d id = some l ∧ l.queued ≠ none) ∧
    (wakeQueue d g).Pairwise (fun x y => ∀ l m p q, getLabel d x = some l → l.queued = some p →
      getLabel d y = some m → m.queued = some q →
        classRank p.cls < classRank q.cls ∨ (p.cls = q.cls ∧ p.order ≤ q.order))) ∧
  [classRank .urgent, classRank .increase, classRank .decrease, classRank .cosmetic] = [0, 1, 2, 3] ∧
  (∀ (w : Walk) (id : Nat) (rest : List Nat),
    walkQueue [] w = w ∧
    (w.remaining = 0 ∨ 16 ≤ w.plan.length → walkQueue (id :: rest) w = w) ∧
    (w.remaining ≠ 0 → w.plan.length < 16 → walkQueue (id :: rest) w = walkQueue rest (walkReach id w))) ∧
  ∀ (w : Walk) (id : Nat) (l : Label), getLabel w.block id = some l →
    (l.state = .uncertain →
      walkReach id w = Walk.mk w.block (w.remaining - 1) (w.plan ++ [PlanEntry.mk id .query 0 0 0 none])) ∧
    (l.state = .stale → targetOf w.block l ≠ l.target → ∀ p, l.queued = some p →
      ∃ c cls, walkReach id w = { w with block := c } ∧ Touches [.labels] w.block c ∧
        (∀ j, j ≠ id → getLabel c j = getLabel w.block j) ∧
        cls = classOf w.block { l with target := targetOf w.block l } ∧
        getLabel c id = some { l with
          target := targetOf w.block l
          queued := some (QueuePlace.mk cls
            (if classRank cls < classRank p.cls then w.block.labels.nextJoin else p.order)) }) ∧
    (l.state = .stale → ∀ t, targetOf w.block l = l.target → l.target = some t →
      (compose w.block id l t = none → ∃ c, walkReach id w = { w with block := c } ∧
        Touches [.labels, .mgmt, .counts] w.block c ∧ (∀ j, j ≠ id → getLabel c j = getLabel w.block j) ∧
        getLabel c id = some { l with state := .failed, oversize := true, queued := none } ∧
        counterValue c .oversizeCount = min (counterValue w.block .oversizeCount + 1) 4294967295 ∧
        c.mgmt.notices = noticeQueueAfter .labelOversize (.label id) none w.block.mode.clock w.block.mgmt.notices) ∧
      ∀ u, compose w.block id l t = some u →
        (w.remaining < fragmentCount u → walkReach id w = w) ∧
        (fragmentCount u ≤ w.remaining → ∃ c tag base what, walkReach id w = Walk.mk c (w.remaining - fragmentCount u)
            (w.plan ++ [PlanEntry.mk id (if u.kind = .full then .full else .partialUpdate) tag base (fragmentCount u)
              none]) ∧
          Touches [.items, .labels, .composer, .mgmt, .counts] w.block c ∧
          (l.confirmed = none ∨ (if 255 ≤ l.lastTag then 1 else l.lastTag + 1) ≠ confirmedTag l →
            tag = (if 255 ≤ l.lastTag then 1 else l.lastTag + 1)) ∧
          (l.confirmed ≠ none → (if 255 ≤ l.lastTag then 1 else l.lastTag + 1) = confirmedTag l →
            tag = (if 255 ≤ confirmedTag l then 1 else confirmedTag l + 1)) ∧
          base = (if u.kind = .full then 0 else confirmedTag l) ∧
          (t = .blank → what = .blank ∧ c.items = w.block.items) ∧
          (∀ code k n, t = .version code k n →
            (∀ x, l.template = some x → what = .version code k n x) ∧
            c.items = (takeReference code k n w.block).items) ∧
          (∀ j, j ≠ id → getLabel c j = getLabel w.block j) ∧
          getLabel c id = some { l with
            lastTag := tag
            inFlight := some (InFlight.mk (LabelRef.mk what tag (checkValue u)) u.kind
              (Marks.mk l.marks.redraw l.marks.force (l.marks.fullRequired && decide (u.kind = .full))))
            marks := Marks.mk false false (l.marks.fullRequired && decide (u.kind = .partialUpdate))
            state := .inFlight
            queued := none } ∧
          c.composer = { w.block.composer with
            buffer := w.block.composer.buffer ++ [BufferedUpdate.mk id (codedUpdate u tag base)]
            style := c.composer.style } ∧
          (∀ j, j ∈ c.composer.style ↔ j ∈ w.block.composer.style ∨ (j = id ∧ u.kind = .full ∧ t ≠ .blank)) ∧
          counterValue c .truncatedCount = (if u.truncated then min (counterValue w.block .truncatedCount + 1) 4294967295
            else counterValue w.block .truncatedCount) ∧
          c.mgmt.notices = (if u.truncated then
            noticeQueueAfter .labelTruncated (.label id) none w.block.mode.clock w.block.mgmt.notices
            else w.block.mgmt.notices)))

/-- R61, R65 to R68, R70, R97, R99, R100, R106: LABEL_REPLY, and REPLY_WINDOW_CLOSE, which hands the window's outcome on, applies
the label's next binding after it, and begins the next transaction. The model's choices: a damaged reply is counted outside a
window too (log 20), a window is open exactly while the cursor stands on an entry of the plan (log 35), its close without one
is no event (log 3), a report of a tag that is neither in flight nor confirmed gives both references up also of a label with
no item whose BLANK image is in flight (log 16), a report leaves a label FAILED (log 59), LATE_OUTCOME has the maximum of the
other counters (log 60), the next transaction is counted as it begins (log 19), and LABEL_FOUND comes before LABEL_FAILED and
this before BIND_DROPPED (log 51). -/
def Obligations.RepliesAreTakenInTheirWindowAndHandedOnAtItsClose : Prop :=
  (∀ (t : ReplyTransmission) (s : State),
     (t.sound = false → exec (.labelReply t) s = s.becomes (bump .replyError s.block)) ∧
     (t.sound = true →
       (s.block.radio.plan.length ≤ s.block.radio.cursor →
         exec (.labelReply t) s = s.becomes (bump .strayReply s.block)) ∧
       ∀ e, s.block.radio.plan[s.block.radio.cursor]? = some e →
         (e.label ≠ t.label ∨ ¬ (e.kind = .query ↔ ∃ g, t.reply = .report g) →
           exec (.labelReply t) s = s.becomes (bump .strayReply s.block)) ∧
         (e.label = t.label → (e.kind = .query ↔ ∃ g, t.reply = .report g) →
           (s.block.radio.taken = none → exec (.labelReply t) s =
             s.becomes { s.block with radio := { s.block.radio with taken := some t.reply } }) ∧
           (s.block.radio.taken ≠ none → exec (.labelReply t) s = s.becomes (bump .duplicateReply s.block))))) ∧
  (∀ s : State, s.block.radio.plan.length ≤ s.block.radio.cursor → exec .replyWindowClose s = s.becomes s.block) ∧
  ∀ (s : State) (e : PlanEntry), s.block.radio.plan[s.block.radio.cursor]? = some e →
    ∃ b, exec .replyWindowClose s = s.becomes b ∧
      Touches [.radio, .labels, .items, .composer, .mgmt, .counts, .out] s.block b ∧
      b.radio = { s.block.radio with
        plan := s.block.radio.plan.modify s.block.radio.cursor
          (fun x => { x with outcome := some (windowOutcome s.block.radio.taken) })
        cursor := s.block.radio.cursor + 1
        taken := none } ∧
      (∀ j, j ≠ e.label → getLabel b j = getLabel s.block j) ∧
      Transmitted s.block.radio.plan[s.block.radio.cursor + 1]? s.block b ∧
      counterValue b .noReplyCount = (if s.block.radio.taken = none then
        min (counterValue s.block .noReplyCount + 1) 4294967295 else counterValue s.block .noReplyCount) ∧
      (∀ k, k ≠ .updatesSent → k ≠ .queriesSent → k ≠ .fragmentsSent → k ≠ .noReplyCount → k ≠ .lateOutcome →
        counterValue b k = counterValue s.block k) ∧
      (getLabel s.block e.label = none → b.mgmt = s.block.mgmt) ∧
      (∀ l heard queue failed late, getLabel s.block e.label = some l →
        heard = (if s.block.radio.taken = none then s.block.mgmt.notices
          else noticesHeard s.block.radio.cycle e.label l s.block.mode.clock s.block.mgmt.notices) →
        (failed ↔ s.block.radio.settings.retryLimit ≤ min (l.retry + 1) 8 ∧
          ((s.block.radio.taken = some .nakCheck ∧ l.state = .inFlight) ∨
            (s.block.radio.taken = none ∧ e.kind ≠ .query ∧ l.state = .inFlight) ∨
            (s.block.radio.taken = none ∧ e.kind = .query ∧ l.state = .uncertain))) →
        (failed → queue = noticeQueueAfter .labelFailed (.label e.label) none s.block.mode.clock heard) →
        (¬ failed → queue = heard) →
        (late ↔ ((s.block.radio.taken = some .nakBase ∨ s.block.radio.taken = some .nakCheck ∨
            (∃ g, s.block.radio.taken = some (.ack g)) ∨ (s.block.radio.taken = none ∧ e.kind ≠ .query)) ∧
              l.state ≠ .inFlight) ∨
          (s.block.radio.taken = none ∧ e.kind = .query ∧ l.state ≠ .uncertain)) →
        (l.next = none → b.mgmt = { s.block.mgmt with notices := queue }) ∧
        (¬ late → counterValue b .lateOutcome = counterValue s.block .lateOutcome) ∧
        ∀ y, l.next = some y → l.state = .inFlight → l.inFlight ≠ none →
          (s.block.radio.taken = none → e.kind ≠ .query) →
          ∃ m, getLabel b e.label = some m ∧ NextTaken s.block b e.label l m y queue) ∧
      (∀ l n, getLabel s.block e.label = some l → n = heardLabel s.block.radio.cycle l → l.next = none →
        ∃ m, getLabel b e.label = some m ∧
          (∀ g f, s.block.radio.taken = some (.ack g) ∧ l.state = .inFlight ∨
              s.block.radio.taken = some (.report g) ∧ l.state ≠ .failed → l.inFlight = some f →
            SettledIn b m ∧
            (f.ref.tag = g → m = { n with
              confirmed := some f.ref, inFlight := none, retry := 0, binding := .normal,
              displayKnown := if f.kind = .full then true else l.displayKnown,
              target := m.target, state := m.state, queued := m.queued }) ∧
            (f.ref.tag ≠ g → confirmedTag l = g → m = { n with
              inFlight := none, marks := joinMarks l.marks f.carried,
              target := m.target, state := m.state, queued := m.queued }) ∧
            (f.ref.tag ≠ g → confirmedTag l ≠ g → m = { n with
              confirmed := none, inFlight := none, displayKnown := false,
              marks := { joinMarks l.marks f.carried with fullRequired := true },
              target := m.target, state := m.state, queued := m.queued })) ∧
          (∀ g, s.block.radio.taken = some (.report g) → l.state ≠ .failed → l.inFlight = none →
            (confirmedTag l = g → l.state ≠ .uncertain → m = n) ∧
            (confirmedTag l ≠ g → l.item = none → m = { n with displayKnown := false }) ∧
            (confirmedTag l ≠ g → l.item ≠ none → SettledIn b m ∧ m = { n with
              confirmed := none, displayKnown := false, marks := { l.marks with fullRequired := true },
              target := m.target, state := m.state, queued := m.queued })) ∧
          (∀ g f, s.block.radio.taken = some (.report g) → l.state = .failed → l.oversize = false → l.inFlight = some f →
            m.state = .failed ∧ m.inFlight = none ∧ m.target = targetOf b m) ∧
          (∀ f, s.block.radio.taken = some .nakBase → l.state = .inFlight → l.inFlight = some f →
            SettledIn b m ∧ m = { n with
              inFlight := none, marks := Marks.mk (l.marks.redraw || f.carried.redraw) (l.marks.force || f.carried.force) true,
              target := m.target, state := m.state, queued := m.queued }) ∧
          (∀ f, s.block.radio.taken = some .nakCheck → l.state = .inFlight → l.inFlight = some f →
            m = { n with
              inFlight := none, retry := min (l.retry + 1) 8,
              marks := Marks.mk (l.marks.redraw || f.carried.redraw) (l.marks.force || f.carried.force)
                (l.marks.fullRequired || f.carried.fullRequired),
              target := targetOf b m, state := m.state, queued := m.queued } ∧
            (s.block.radio.settings.retryLimit ≤ min (l.retry + 1) 8 → m.state = .failed ∧ m.queued = none) ∧
            (min (l.retry + 1) 8 < s.block.radio.settings.retryLimit → SettledIn b m)) ∧
          (s.block.radio.taken = none → (e.kind ≠ .query ∧ l.state = .inFlight) ∨ (e.kind = .query ∧ l.state = .uncertain) →
            m = { l with
              retry := min (l.retry + 1) 8, target := targetOf b m, state := m.state, queued := m.queued } ∧
            (s.block.radio.settings.retryLimit ≤ min (l.retry + 1) 8 → m.state = .failed ∧ m.queued = none) ∧
            (min (l.retry + 1) 8 < s.block.radio.settings.retryLimit → m.state = .uncertain ∧
              m.queued.map QueuePlace.cls = some (classOf b m))) ∧
          ((s.block.radio.taken = some .nakBase ∨ s.block.radio.taken = some .nakCheck ∨
              ∃ g, s.block.radio.taken = some (.ack g)) → l.state ≠ .inFlight →
            m = n ∧ counterValue b .lateOutcome = min (counterValue s.block .lateOutcome + 1) 4294967295) ∧
          (s.block.radio.taken = none → (e.kind = .query → l.state ≠ .uncertain) → (e.kind ≠ .query → l.state ≠ .inFlight) →
            m = l ∧ counterValue b .lateOutcome = min (counterValue s.block .lateOutcome + 1) 4294967295))

/-- R61, R65, R69, R70, R102, R103: CHECK_IN. That a battery level above the 15 of R53 is stored as it comes is the model's
choice (log 62). -/
def Obligations.CheckInIsResolvedAgainstTheRecord : Prop :=
  ∀ (c : CheckIn) (s : State),
    (c.sound = false → exec (.checkIn c) s = s.becomes (bump .replyError s.block)) ∧
    (c.sound = true → getLabel s.block c.label = none →
      exec (.checkIn c) s = s.becomes (bump .unknownLabel s.block)) ∧
    ∀ l n, c.sound = true → getLabel s.block c.label = some l →
      n = { heardLabel s.block.radio.cycle l with battery := some c.battery } →
      ∃ b m, exec (.checkIn c) s = s.becomes b ∧ Touches [.labels, .items, .composer, .mgmt] s.block b ∧
        getLabel b c.label = some m ∧ (∀ j, j ≠ c.label → getLabel b j = getLabel s.block j) ∧
        m.heard = some s.block.radio.cycle ∧ m.battery = some c.battery ∧
        (m.present = true ↔ l.present = true ∨
          ∃ k, l.candidate = some k ∧ (s.block.radio.cycle + 65536 - k) % 65536 ≤ 16) ∧
        (l.state = .inFlight → (∀ f, l.inFlight = some f → ¬ (f.ref.tag = c.tag ∧ f.ref.check = c.check)) → m = n) ∧
        (l.state = .failed → l.oversize = false → m.state ≠ .failed ∧ m.retry = 0 ∧ m.oversize = false) ∧
        (l.state = .failed → l.oversize = true → m.state = .failed ∧ m.oversize = true) ∧
        (∀ queue, queue = noticesHeard s.block.radio.cycle c.label l s.block.mode.clock s.block.mgmt.notices →
          (l.next = none ∨ (l.state = .inFlight ∧ ∀ f, l.inFlight = some f → ¬ (f.ref.tag = c.tag ∧ f.ref.check = c.check)) →
            b.mgmt = { s.block.mgmt with notices := queue }) ∧
          ∀ f y, l.inFlight = some f → f.ref.tag = c.tag → f.ref.check = c.check → l.next = some y →
            l.state = .inFlight → NextTaken s.block b c.label l m y queue) ∧
        (l.state ≠ .failed → l.state ≠ .inFlight → l.item = none → l.inFlight = none →
          ¬ (c.tag = confirmedTag l ∧ ∀ r, l.confirmed = some r → r.check = c.check) →
          m = { n with displayKnown := false }) ∧
        (l.next = none → l.state ≠ .failed →
          (∀ f, l.inFlight = some f → f.ref.tag = c.tag → f.ref.check = c.check →
            SettledIn b m ∧ m = { n with
              confirmed := some f.ref, inFlight := none, retry := 0, binding := .normal,
              displayKnown := if f.kind = .full then true else l.displayKnown,
              target := m.target, state := m.state, queued := m.queued }) ∧
          ((∀ f, l.inFlight = some f → ¬ (f.ref.tag = c.tag ∧ f.ref.check = c.check)) → l.state ≠ .inFlight →
            (c.tag = confirmedTag l ∧ (∀ r, l.confirmed = some r → r.check = c.check) →
              (l.inFlight = none → l.state ≠ .uncertain → m = n) ∧
              (∀ f, l.inFlight = some f → SettledIn b m ∧ m = { n with
                inFlight := none, marks := m.marks, target := m.target, state := m.state, queued := m.queued })) ∧
            (¬ (c.tag = confirmedTag l ∧ (∀ r, l.confirmed = some r → r.check = c.check)) → l.item ≠ none →
              SettledIn b m ∧ m.marks.fullRequired = true ∧ m = { n with
                confirmed := none, inFlight := none, displayKnown := false, marks := m.marks,
                target := m.target, state := m.state, queued := m.queued })))

/-! ## The till service (file 07) -/

/-- R109 to R112, R114, R137: HELLO and PRICE_QUERY, and the way an answer of the till service takes. -/
def Obligations.HelloRegistersATillAndPriceQueryIsAnswered : Prop :=
   ((∀ (sender : TillSender) (a : TillAnswer) (b : Block),
      answerTill sender a b =
        if (b.fwd.ports.get sender.port).settings.role = .till ∧ (b.fwd.ports.get sender.port).up = true then
          emit (.lan sender.port sender.hw b.fwd.hwAddress none
            (.till (b.fwd.gateways.get 0).address sender.net a)) b
        else b) ∧
    ∀ (sender : TillSender) (till : Nat) (s : State),
      (till = 0 ∨ 96 < till → exec (.hello sender till) s = s.becomes
        (answerTill sender (TillAnswer.mk 129 till .fieldRange) (bump .tillFramesRefused s.block))) ∧
      ∀ x : Fin 96, till = x.val + 1 →
        ((s.block.till.records.get x).state = .active → (s.block.till.records.get x).hw ≠ some sender.hw →
          exec (.hello sender till) s = s.becomes (answerTill sender (TillAnswer.mk 129 till .inUse) s.block)) ∧
        ((s.block.till.records.get x).state ≠ .active ∨ (s.block.till.records.get x).hw = some sender.hw →
          exec (.hello sender till) s = s.becomes (answerTill sender (TillAnswer.mk 129 till .accepted)
            (setTillRecord x { s.block.till.records.get x with
              state := .active, hw := some sender.hw, port := some sender.port, lastSequence := none,
              timer := some 120000 } s.block)))) ∧
  ∀ (sender : TillSender) (till code : Nat) (s : State),
    (till = 0 ∨ 96 < till ∨ 9999999999999 < code → exec (.priceQuery sender till code) s = s.becomes
      (answerTill sender (TillAnswer.mk 130 till .fieldRange) (bump .tillFramesRefused s.block))) ∧
    ∀ x : Fin 96, till = x.val + 1 → code ≤ 9999999999999 →
      (¬ TillOwn sender (s.block.till.records.get x) → exec (.priceQuery sender till code) s = s.becomes
        (answerTill sender (TillAnswer.mk 130 till .notRegistered) (bump .tillFramesRefused s.block))) ∧
      (TillOwn sender (s.block.till.records.get x) → exec (.priceQuery sender till code) s = s.becomes
        (answerTill sender (TillAnswer.mk 130 till (itemAnswer s.block code))
          (setTillRecord x { s.block.till.records.get x with
            state := .active, port := some sender.port, timer := some 120000,
            queries := min ((s.block.till.records.get x).queries + 1) 4294967295 } s.block)))

/-- R113, R114, R115: the result for an item code; a PRICED one names the smallest price among the candidates. -/
def Obligations.APricedAnswerIsTheLowestCandidate : Prop :=
  ∀ (b : Block) (code : Nat),
    (getItem b code = none → itemAnswer b code = .notFound code) ∧
    ∀ i, getItem b code = some i →
      ((∀ k v, slotOf i k = some v → v.role ≠ .active) → itemAnswer b code = .notActive code) ∧
      ∀ k v, OneOfEach i → slotOf i k = some v → v.role = .active →
        (v.status = .held → itemAnswer b code = .held code) ∧
        (v.status = .valid → ∃ charged named lowest promotion uncertain,
          itemAnswer b code = .priced code charged (named : Version).number lowest promotion uncertain
            (named.inputs.description.take 20) ∧
          charged ≤ v.results.e ∧ (∀ j x, Candidate b code i j x → charged ≤ x.results.e) ∧
          named.results.e = charged ∧
          (charged = v.results.e → named = v) ∧
          (charged < v.results.e → ∃ j, Candidate b code i j named ∧
            ∀ j' x', Candidate b code i j' x' → x'.results.e = charged → j ≤ j') ∧
          (lowest = true ↔ charged < v.results.e) ∧ promotion = showsPromotion named.inputs named.results ∧
          (uncertain = true ↔ ∃ id ∈ i.bound, ∃ l, getLabel b id = some l ∧
            (l.state = .uncertain ∨ l.state = .failed ∨ l.present = false ∨ l.displayKnown = false ∨
              l.binding = .foreign)))

/-- R110, R112, R116 to R120: SALE_RECORD; that the PRICE_DIFFERS notices are queued before JOURNAL_HIGH is the model's order
(log 51). -/
def Obligations.SaleRecordIsJournalledOnceInSequence : Prop :=
  ∀ (sender : TillSender) (till sequence time : Nat) (lines : List SaleLine) (s : State),
    (till = 0 ∨ 96 < till ∨ ¬ SaleInRange sequence time lines → exec (.saleRecord sender till sequence time lines) s =
      s.becomes (answerTill sender (TillAnswer.mk 131 till .fieldRange) (bump .tillFramesRefused s.block))) ∧
    ∀ (x : Fin 96) (r : TillRecord), till = x.val + 1 → SaleInRange sequence time lines →
      (¬ TillOwn sender (s.block.till.records.get x) → exec (.saleRecord sender till sequence time lines) s = s.becomes
        (answerTill sender (TillAnswer.mk 131 till .notRegistered) (bump .tillFramesRefused s.block))) ∧
      (TillOwn sender (s.block.till.records.get x) →
        r = { s.block.till.records.get x with state := .active, port := some sender.port, timer := some 120000 } →
        (r.lastSequence = some sequence → exec (.saleRecord sender till sequence time lines) s = s.becomes
          (answerTill sender (TillAnswer.mk 131 till (.acceptedSequence sequence)) (setTillRecord x r s.block))) ∧
        (∀ l, r.lastSequence = some l → sequence < l → ¬ (sequence = 0 ∧ l = 4294967295) →
          exec (.saleRecord sender till sequence time lines) s = s.becomes
            (answerTill sender (TillAnswer.mk 131 till .staleSequence) (setTillRecord x r s.block))) ∧
        ((∀ l, r.lastSequence = some l → l < sequence ∨ (sequence = 0 ∧ l = 4294967295)) →
          (262144 < s.block.till.journal.length + lines.length →
            exec (.saleRecord sender till sequence time lines) s = s.becomes
              (answerTill sender (TillAnswer.mk 131 till .journalFull)
                (if s.block.till.fullFlag then setTillRecord x r s.block
                 else notice .journalFull .journal { setTillRecord x r s.block with
                   till := { (setTillRecord x r s.block).till with fullFlag := true } }))) ∧
          (s.block.till.journal.length + lines.length ≤ 262144 → s.block.till.nextNumber < 4294967296 →
            ∃ b es, exec (.saleRecord sender till sequence time lines) s = s.becomes
                (answerTill sender (TillAnswer.mk 131 till (.acceptedSequence sequence)) b) ∧
              Touches [.till, .mgmt] s.block b ∧ es.length = lines.length ∧
              b.till = { (setTillRecord x { r with lastSequence := some sequence } s.block).till with
                journal := s.block.till.journal ++ es
                nextNumber := (s.block.till.nextNumber + lines.length) % 4294967296
                fullFlag := false
                highFlag := s.block.till.highFlag || decide (196608 ≤ s.block.till.journal.length + lines.length) } ∧
              (∀ (k : Nat) (e : JournalEntry) (l : SaleLine), es[k]? = some e → lines[k]? = some l →
                e.number = (s.block.till.nextNumber + k) % 4294967296 ∧ e.till = till ∧ e.sequence = sequence ∧
                e.time = time ∧ some e.kind = l.kind ∧ e.code = l.code ∧ e.quantity = l.quantity ∧ e.price = l.price ∧
                e.version = l.version ∧
                (e.flags.gap = true ↔ ∃ last, r.lastSequence = some last ∧ last + 1 < sequence) ∧
                (e.flags.priceDiffers = true ↔
                  LineChecked l ∧ ∃ charged, AnswersPriced s.block l.code charged ∧ charged < l.price) ∧
                (e.flags.unverified = true ↔ LineChecked l ∧ ¬ ∃ charged, AnswersPriced s.block l.code charged)) ∧
              b.mgmt = { s.block.mgmt with
                notices := (if s.block.till.highFlag = false ∧ 196608 ≤ s.block.till.journal.length + lines.length
                  then noticeQueueAfter .journalHigh .journal none s.block.mode.clock else id)
                    ((es.filter (fun e => e.flags.priceDiffers)).foldl
                      (fun q _ => noticeQueueAfter .priceDiffers (.till till) none s.block.mode.clock q)
                      s.block.mgmt.notices) })))

/-- R112, R121, R123: JOURNAL_BLOCK hands the oldest UNSENT entries, by the block size in force; the timers of the till
service; and what these events do where nothing of theirs is due (log 3). -/
def Obligations.TillTimersExpireAndJournalBlocksAreHanded : Prop :=
   ((∀ (x : Fin 96) (s : State),
      ((s.block.till.records.get x).state = .active → (s.block.till.records.get x).timer ≠ none →
        exec (.silenceTimerExpiry (x.val + 1)) s = s.becomes (notice .tillSilent (.till (x.val + 1))
          (setTillRecord x { s.block.till.records.get x with state := .silent, timer := none } s.block))) ∧
      ((s.block.till.records.get x).state ≠ .active ∨ (s.block.till.records.get x).timer = none →
        exec (.silenceTimerExpiry (x.val + 1)) s = s.becomes s.block)) ∧
    ∀ s : State,
      (s.block.till.ackTimer ≠ none → exec .acknowledgementTimerExpiry s = s.becomes (bump .journalRewinds
        { s.block with till := { s.block.till with sent := 0, ackTimer := none } })) ∧
      (s.block.till.ackTimer = none → exec .acknowledgementTimerExpiry s = s.becomes s.block)) ∧
  ∀ (s : State) (capacity : Nat) (unsent : List JournalEntry),
    capacity = (match s.block.line.result.map QualResult.result with
      | some .classA => 128
      | some .classB => 32
      | _ => 8) →
    unsent = s.block.till.journal.drop s.block.till.sent →
    (∀ e rest, unsent = e :: rest → s.block.line.up = true →
      classBytes s.block .journal + (8 + 32 * min capacity unsent.length) ≤ 49152 →
      exec .journalBlock s = s.becomes { s.block with
        line := { s.block.line with classes := (s.block.line.classes.set 4
          (s.block.line.classes.get 4 ++ [.journalBlock e.number (unsent.take capacity)])) }
        till := { s.block.till with
          sent := s.block.till.sent + min capacity unsent.length
          ackTimer := if s.block.till.sent = 0 then some 30000 else s.block.till.ackTimer } }) ∧
    (unsent = [] ∨ s.block.line.up = false ∨
        49152 < classBytes s.block .journal + (8 + 32 * min capacity unsent.length) →
      exec .journalBlock s = s.becomes s.block)

/-- R122: JOURNAL_ACK, which comes over the line while it passes frames on, by the distance of its number from the oldest
entry. -/
def Obligations.JournalAckRemovesWhatItCovers : Prop :=
  ∀ (n d : Nat) (s : State),
    d = (n + 4294967296 - (match s.block.till.journal with
      | e :: _ => e.number
      | [] => s.block.till.nextNumber)) % 4294967296 →
    (s.block.line.up = true → s.block.line.loopback = .off →
      (d < s.block.till.sent → exec (.journalAck n) s = s.becomes { s.block with till := { s.block.till with
        journal := s.block.till.journal.drop (d + 1)
        sent := s.block.till.sent - (d + 1)
        ackTimer := if s.block.till.sent = d + 1 then none else some 30000
        highFlag := s.block.till.highFlag && decide (196608 ≤ s.block.till.journal.length - (d + 1)) } }) ∧
      (s.block.till.sent ≤ d → d < 2147483648 → exec (.journalAck n) s = s.becomes (bump .ackBeyond s.block)) ∧
      (s.block.till.sent ≤ d → 2147483648 ≤ d → exec (.journalAck n) s = s.becomes s.block))

/-! ## The forwarder (file 08) -/

/-- R128 to R131, R133, R135, R136, R138, R140: LAN_FRAME at a port: classification, learning, and delivery within a segment;
the copies of a flooded frame leave in ascending port number, the model's choice (log 63). Then the terms that the statements
of frames share: the cell of a path, the members of a segment, the tag a frame leaves with, the gateway and range of a
segment, the station that holds a network address, and the group bit of a hardware address, presumed (log 14). -/
def Obligations.AFrameIsClassifiedLearnedFromAndSwitched : Prop :=
  (∀ (p : Port) (f : LanFrame) (s : State) (r : PortRecord), r = s.block.fwd.ports.get p →
    (r.up = false → exec (.lanFrame p f) s = s.becomes s.block) ∧
    (r.up = true →
      (r.settings.role = .till ∨ r.settings.role = .office → f.tag ≠ none →
        exec (.lanFrame p f) s = s.becomes (bump .tagMismatch s.block)) ∧
      (r.settings.role = .accessPoint → f.tag ≠ some r.settings.staffTag → f.tag ≠ some r.settings.guestTag →
        exec (.lanFrame p f) s = s.becomes (bump .untagged s.block)) ∧
      (r.settings.role = .unused → exec (.lanFrame p f) s = s.becomes (bump .unusedPort s.block)) ∧
      ∀ seg c, Classified r.settings f.tag seg → c = learn seg p f s.block →
        (isGroup f.src = true ∨ f.src = s.block.fwd.hwAddress →
          exec (.lanFrame p f) s = s.becomes (bump .badSource s.block)) ∧
        (isGroup f.src = false → f.src ≠ s.block.fwd.hwAddress → f.dst ≠ s.block.fwd.hwAddress →
          (policyAllows s.block (some seg) (some seg) = false →
            exec (.lanFrame p f) s = s.becomes (bump .policyDenied c)) ∧
          (policyAllows s.block (some seg) (some seg) = true →
            (∀ e, isGroup f.dst = false → getAddress c seg f.dst = some e → exec (.lanFrame p f) s = s.becomes
              (if e.port ≠ p ∧ (c.fwd.ports.get e.port).up = true then
                emit (.lan e.port f.dst f.src (sendTag c e.port seg) (.switched f.payload)) c else c)) ∧
            (isGroup f.dst = true ∨ getAddress c seg f.dst = none → exec (.lanFrame p f) s = s.becomes { c with
              out := c.out ++ (ports.filter (fun q => decide (q ≠ p) && portCarries c q seg)).map
                (fun q => .lan q f.dst f.src (sendTag c q seg) (.switched f.payload)) }))))) ∧
  (∀ (seg : Segment) (p : Port) (f : LanFrame) (b c : Block), c = learn seg p f b →
    Touches [.fwd, .mgmt, .counts] b c ∧ c.fwd = { b.fwd with addresses := c.fwd.addresses, full := c.fwd.full } ∧
    (∀ e, getAddress b seg f.src = some e → c.fwd.full = b.fwd.full ∧
      getAddress c seg f.src = some (AddressEntry.mk p ((learnedNet b seg f).orElse fun _ => e.net) b.time.now)) ∧
    (getAddress b seg f.src = none → b.fwd.addresses.length < 4096 → c.fwd.full = b.fwd.full ∧
      getAddress c seg f.src = some (AddressEntry.mk p (learnedNet b seg f) b.time.now)) ∧
    (getAddress b seg f.src = none → 4096 ≤ b.fwd.addresses.length →
      c.fwd.addresses = b.fwd.addresses ∧ c.fwd.full = true ∧ c.counts = (bump .learnRefused b).counts ∧
      c.mgmt = (if b.fwd.full then b else notice .addressTableFull .addressTable b).mgmt) ∧
    ((getAddress b seg f.src ≠ none ∨ b.fwd.addresses.length < 4096) → c.mgmt = b.mgmt ∧ c.counts = b.counts ∧
      ∀ seg' hw, ¬ (seg' = seg ∧ hw = f.src) → getAddress c seg' hw = (getAddress b seg' hw).map (fun e =>
        if seg' = seg ∧ e.net ≠ none ∧ e.net = learnedNet b seg f then { e with net := none } else e))) ∧
  ∀ b : Block,
    (∀ (src dst : Option Segment) (place : Option Segment → Nat) (n : Fin 25),
      (∀ x, place x = (match x with
        | some .till => 0 | some .office => 1 | some .staff => 2 | some .guest => 3 | none => 4)) →
      n.val = 5 * place src + place dst → policyAllows b src dst = b.fwd.policy.get n) ∧
    (∀ (p : Port) (r : PortRecord), r = b.fwd.ports.get p →
      (∀ seg, portCarries b p seg = true ↔ r.up = true ∧ ((r.settings.role = .till ∧ seg = .till) ∨
        (r.settings.role = .office ∧ seg = .office) ∨
        (r.settings.role = .accessPoint ∧ (seg = .staff ∨ seg = .guest)))) ∧
      sendTag b p .till = none ∧ sendTag b p .office = none ∧ sendTag b p .staff = some r.settings.staffTag ∧
      sendTag b p .guest = some r.settings.guestTag) ∧
    [gatewayOf b .till, gatewayOf b .office, gatewayOf b .staff, gatewayOf b .guest] = b.fwd.gateways.toList ∧
    (∀ (g : Gateway) (a : NetAddr), g.prefixLength ≤ 32 →
      (inRange g a = true ↔ ∀ i, i < g.prefixLength → a.getMsbD i = g.address.getMsbD i)) ∧
    (∀ (a : NetAddr) (d : Segment), (∀ x y, inRange (gatewayOf b x) a = true → inRange (gatewayOf b y) a = true → x = y) →
      (segmentOf b a = some d ↔ inRange (gatewayOf b d) a = true)) ∧
    (∀ (d : Segment) (a : NetAddr) (k : Nat) (e : AddressEntry), neighbour b d a = some (k, e) →
      (k, e) ∈ b.fwd.addresses ∧ keySegment k = d ∧ e.net = some a) ∧
    (∀ (d : Segment) (a : NetAddr), neighbour b d a = none →
      ∀ p ∈ b.fwd.addresses, keySegment p.1 = d → p.2.net ≠ some a) ∧
    (∀ (d : Segment) (hw : HwAddr), keySegment (addressKey d hw) = d ∧ BitVec.ofNat 48 (keyHw (addressKey d hw)) = hw) ∧
    ∀ hw : HwAddr, isGroup hw = true ↔ hw.toNat / 1099511627776 % 2 = 1

/-- R110, R137, R138, R139, R184: LAN_FRAME for the 4860's own hardware address: the services, routing between segments, and
the way toward the line. The answer's kind byte to a till frame of unknown kind is the model's reading (log 47), and so are
the order of kind before fields and the answer to a till frame without a kind byte (log 48). -/
def Obligations.AFrameForTheGatewayIsServedOrRouted : Prop :=
  ∀ (p : Port) (f : LanFrame) (s : State) (seg : Segment) (c : Block),
    (s.block.fwd.ports.get p).up = true → Classified (s.block.fwd.ports.get p).settings f.tag seg →
    isGroup f.src = false → f.src ≠ s.block.fwd.hwAddress → f.dst = s.block.fwd.hwAddress → c = learn seg p f s.block →
    (∀ content, f.payload = .other content → exec (.lanFrame p f) s = s.becomes (bump .gatewayDiscard c)) ∧
    (∀ src dst x, f.payload = .service src dst x →
      (dst ≠ (gatewayOf s.block seg).address ∨ seg = .staff ∨ seg = .guest →
        exec (.lanFrame p f) s = s.becomes (bump .serviceRefused c)) ∧
      (dst = (gatewayOf s.block seg).address → seg = .till →
        (∀ i, tillRow (TillSender.mk f.src src p) x.till = some i →
          exec (.lanFrame p f) s = exec i { s with block := c }) ∧
        (∀ kind till, x.till = .unknownKind kind till ∨ (x.till = .malformed kind till ∧ (kind = 0 ∨ 3 < kind)) →
          exec (.lanFrame p f) s = s.becomes
            (answerTill (TillSender.mk f.src src p) (TillAnswer.mk ((kind + 128) % 256) till .unknownKind)
              (bump .tillFramesRefused c))) ∧
        ∀ kind till, (x.till = .malformed kind till ∧ 1 ≤ kind ∧ kind ≤ 3) ∨ (x.till = .empty ∧ kind = 0 ∧ till = 0) →
          exec (.lanFrame p f) s = s.becomes
            (answerTill (TillSender.mk f.src src p) (TillAnswer.mk (kind + 128) till .fieldRange)
              (bump .tillFramesRefused c))) ∧
      (dst = (gatewayOf s.block seg).address → seg = .office →
        (∀ i, messageRow (MgmtHeader.mk (.storeServer f.src src p) x.mgmt.station x.mgmt.tag) x.mgmt.body = some i →
          exec (.lanFrame p f) s = exec i { s with block := c }) ∧
        (x.mgmt.station = s.block.pins.straps.val →
          (x.mgmt.body = .unknownKind ∨ x.mgmt.body = .command .unknown → exec (.lanFrame p f) s =
            s.answers (MgmtHeader.mk (.storeServer f.src src p) x.mgmt.station x.mgmt.tag)
              (.refusal .unknownKind none) c) ∧
          (x.mgmt.body = .malformed → exec (.lanFrame p f) s =
            s.answers (MgmtHeader.mk (.storeServer f.src src p) x.mgmt.station x.mgmt.tag)
              (.refusal .fieldRange none) c)) ∧
        (x.mgmt.station ≠ s.block.pins.straps.val → exec (.lanFrame p f) s = s.becomes (bump .mgmtIgnored c)))) ∧
    ∀ src dst content, f.payload = .network src dst content →
      (inRange (gatewayOf s.block seg) src = false → exec (.lanFrame p f) s = s.becomes (bump .badSource c)) ∧
      (inRange (gatewayOf s.block seg) src = true →
        ((∃ d, (gatewayOf s.block d).address = dst) → exec (.lanFrame p f) s = s.becomes (bump .gatewayDiscard c)) ∧
        ((∀ d, (gatewayOf s.block d).address ≠ dst) →
          (∀ d, segmentOf s.block dst = some d → policyAllows s.block (some seg) (some d) = false →
            exec (.lanFrame p f) s = s.becomes (bump .policyDenied c)) ∧
          (∀ d, segmentOf s.block dst = some d → policyAllows s.block (some seg) (some d) = true →
            (neighbour c d dst = none → exec (.lanFrame p f) s = s.becomes (bump .noNeighbour c)) ∧
            ∀ e, (neighbour c d dst = some e → d ≠ .guest → exec (.lanFrame p f) s = s.becomes
              (if (c.fwd.ports.get e.2.port).up = true then
                emit (.lan e.2.port (BitVec.ofNat 48 (keyHw e.1)) c.fwd.hwAddress (sendTag c e.2.port d)
                  (.network src dst content)) c else c)) ∧
            ∀ x, neighbour c .guest dst = some e → d = .guest → x = guestDownlink (BitVec.ofNat 48 (keyHw e.1)) content c →
              exec (.lanFrame p f) s = s.becomes
                (if x.2 = true ∧ (c.fwd.ports.get e.2.port).up = true then
                  emit (.lan e.2.port (BitVec.ofNat 48 (keyHw e.1)) c.fwd.hwAddress
                    (some (c.fwd.ports.get e.2.port).settings.guestTag) (.network src dst content)) x.1 else x.1)) ∧
          ((∀ d, inRange (gatewayOf s.block d) dst = false) →
            (policyAllows s.block (some seg) none = false →
              exec (.lanFrame p f) s = s.becomes (bump .policyDenied c)) ∧
            (policyAllows s.block (some seg) none = true →
              (seg = .till → exec (.lanFrame p f) s = s.becomes (offer .tillAuth (.data src dst content) c)) ∧
              (seg = .office ∨ seg = .staff →
                exec (.lanFrame p f) s = s.becomes (offer .office (.data src dst content) c)) ∧
              (seg = .guest → exec (.lanFrame p f) s = s.becomes (guestUplink f.src src dst content c))))))

/-- R128, R129, R134, R150, R151: LINK_UP, LINK_DOWN, ADDRESS_AGING_EXPIRY and the expiries of a guest session: each
acts when its time has been reached, and a frame taken first stops it. An expiry of what is not there, or whose time has
not been reached, is no event (log 3). -/
def Obligations.LinksEntriesAndSessionsComeAndGo : Prop :=
  (∀ (p : Port) (s : State),
    exec (.linkUp p) s = s.becomes { s.block with fwd := { s.block.fwd with
      ports := s.block.fwd.ports.set p.val { s.block.fwd.ports.get p with up := true } p.isLt } } ∧
    exec (.linkDown p) s = s.becomes { s.block with fwd := { s.block.fwd with
      ports := s.block.fwd.ports.set p.val { s.block.fwd.ports.get p with up := false } p.isLt
      addresses := s.block.fwd.addresses.filter (fun e => decide (e.2.port ≠ p))
      full := s.block.fwd.full && decide (∀ e ∈ s.block.fwd.addresses, e.2.port ≠ p) } }) ∧
  (∀ (seg : Segment) (hw : HwAddr) (s : State), ∃ b, exec (.addressAgingExpiry seg hw) s = s.becomes b ∧
    Touches [.fwd] s.block b ∧ b.fwd = { s.block.fwd with addresses := b.fwd.addresses, full := b.fwd.full } ∧
    (∀ seg' hw', ¬ (seg' = seg ∧ hw' = hw) → getAddress b seg' hw' = getAddress s.block seg' hw') ∧
    (getAddress s.block seg hw = none → b = s.block) ∧
    ∀ e, tableSorted s.block.fwd.addresses → getAddress s.block seg hw = some e →
      (s.block.fwd.aging * 1000 ≤ s.block.time.now - e.heardAt → getAddress b seg hw = none ∧ b.fwd.full = false) ∧
      (s.block.time.now - e.heardAt < s.block.fwd.aging * 1000 → b = s.block)) ∧
  ∀ (hw : HwAddr) (s : State),
    (getSession s.block hw = none → exec (.timeLimitExpiry hw) s = s.becomes s.block ∧
      exec (.idleLimitExpiry hw) s = s.becomes s.block ∧ exec (.cooldownEnd hw) s = s.becomes s.block) ∧
    ∀ x removed, getSession s.block hw = some x →
      removed = { s.block with guest := { s.block.guest with
        sessions := s.block.guest.sessions.filter (fun e => decide (e.1 ≠ hw.toNat)), full := false } } →
      (x.state = .active ∨ x.state = .exhausted →
        exec (.cooldownEnd hw) s = s.becomes s.block ∧
        (s.block.guest.profile.timeLimit * 1000 ≤ s.block.time.now - x.start →
          (s.block.guest.profile.cooldown = 0 → exec (.timeLimitExpiry hw) s = s.becomes removed) ∧
          (s.block.guest.profile.cooldown ≠ 0 → exec (.timeLimitExpiry hw) s = s.becomes
            (putSession hw { x with state := .cooldown, cooldownStart := some s.block.time.now } s.block))) ∧
        (s.block.time.now - x.start < s.block.guest.profile.timeLimit * 1000 →
          exec (.timeLimitExpiry hw) s = s.becomes s.block)) ∧
      (x.state = .active →
        (s.block.guest.profile.idleLimit * 1000 ≤ s.block.time.now - x.lastTraffic →
          exec (.idleLimitExpiry hw) s = s.becomes removed) ∧
        (s.block.time.now - x.lastTraffic < s.block.guest.profile.idleLimit * 1000 →
          exec (.idleLimitExpiry hw) s = s.becomes s.block)) ∧
      (x.state ≠ .active → exec (.idleLimitExpiry hw) s = s.becomes s.block) ∧
      (x.state = .cooldown → exec (.timeLimitExpiry hw) s = s.becomes s.block ∧
        ∀ t, x.cooldownStart = some t →
          (s.block.guest.profile.cooldown * 1000 ≤ s.block.time.now - t →
            exec (.cooldownEnd hw) s = s.becomes removed) ∧
          (s.block.time.now - t < s.block.guest.profile.cooldown * 1000 →
            exec (.cooldownEnd hw) s = s.becomes s.block))

/-! ## The guest service (file 09) -/

/-- R136 to R141, R146: no frame from the GUEST segment leaves by a LAN port or reaches a service, and none enters the
uplink queue unless the line is UP, the mode is TRADING or CLOSING, and its sender has an ACTIVE session or is admitted
in the same event. -/
def Obligations.NoGuestFrameReachesAnotherSegmentOrAService : Prop :=
  ∀ (p : Port) (f : LanFrame) (s : State), FixedCells s.block.fwd.policy → GuestRules s.block →
    (s.block.fwd.ports.get p).up = true → Classified (s.block.fwd.ports.get p).settings f.tag .guest →
    ∃ b, exec (.lanFrame p f) s = s.becomes b ∧ Touches [.fwd, .guest, .line, .mgmt, .counts] s.block b ∧
      b.out = s.block.out ∧ b.till = s.block.till ∧
      b.line = { s.block.line with classes := b.line.classes } ∧
      (∀ c, c ≠ .guest → classFrames b c = classFrames s.block c) ∧
      (classFrames b .guest = classFrames s.block .guest ∨
        ∃ src dst content, f.payload = .network src dst content ∧
          classFrames b .guest = classFrames s.block .guest ++ [.data src dst content] ∧
          s.block.line.up = true ∧ s.block.mode.mode ≠ .closed ∧
          ((∃ x, getSession s.block f.src = some x ∧ x.state = .active) ∨
            (getSession s.block f.src = none ∧ s.block.mode.mode = .trading)))

/-- R145 to R149, R156: what the guest service does with a frame in either direction, and GOVERNOR_READING. -/
def Obligations.GuestFramesArePassedOnlyFromAnActiveSession : Prop :=
  (∀ (hw : HwAddr) (src dst : NetAddr) (content : List Byte) (b : Block) (x : Session) (n : Nat), n = 8 + content.length →
    getSession b hw = some x →
    (x.state = .active → b.line.up = true → 8 * n ≤ x.tokens →
      guestUplink hw src dst content b = offer .guest (.data src dst content) (putSession hw { x with
        tokens := x.tokens - 8 * n, used := x.used + n, lastTraffic := b.time.now,
        state := if b.guest.profile.quotaMiB * 1048576 ≤ x.used + n then .exhausted else .active } b) ∧
      guestDownlink hw content b = (putSession hw { x with
        tokens := x.tokens - 8 * n, used := x.used + n, lastTraffic := b.time.now,
        state := if b.guest.profile.quotaMiB * 1048576 ≤ x.used + n then .exhausted else .active } b, true)) ∧
    (x.state = .active → b.line.up = true → x.tokens < 8 * n →
      guestUplink hw src dst content b = bump .guestPoliced b ∧
      guestDownlink hw content b = (bump .guestPoliced b, false)) ∧
    (x.state = .active → b.line.up = false →
      guestUplink hw src dst content b = bump .guestLineDown b ∧
      guestDownlink hw content b = (bump .guestLineDown b, false)) ∧
    (x.state ≠ .active →
      guestUplink hw src dst content b = bump .guestBlocked b ∧
      guestDownlink hw content b = (bump .guestBlocked b, false))) ∧
  (∀ (hw : HwAddr) (src dst : NetAddr) (content : List Byte) (b : Block), getSession b hw = none →
    guestDownlink hw content b = (bump .guestBlocked b, false) ∧
    (b.mode.mode = .trading → b.line.up = true → b.guest.sessions.length < 1024 →
      guestUplink hw src dst content b = guestUplink hw src dst content (bump .guestAdmitted
        (putSession hw (Session.mk .active b.time.now 0 b.time.now none 131072) b))) ∧
    (b.mode.mode = .trading → b.line.up = true → 1024 ≤ b.guest.sessions.length →
      guestUplink hw src dst content b = (if b.guest.full then bump .guestNotAdmitted b
        else notice .guestFull .sessionTable (bump .guestNotAdmitted
          { b with guest := { b.guest with full := true } }))) ∧
    (b.mode.mode ≠ .trading ∨ b.line.up = false → guestUplink hw src dst content b = bump .guestNotAdmitted b)) ∧
  ∀ s : State, ∃ level, exec .governorReading s = s.becomes { s.block with
      guest := { s.block.guest with level := level }
      time := { s.block.time with toGovernor := 1000 } } ∧
    (131072 < uplinkFill s.block → level = max 1 (s.block.guest.level - 1)) ∧
    (65536 ≤ uplinkFill s.block → uplinkFill s.block ≤ 131072 → level = s.block.guest.level) ∧
    (uplinkFill s.block < 65536 → level = min 8 (s.block.guest.level + 1))

/-- R152: END_GUEST. -/
def Obligations.EndGuestRemovesTheSession : Prop :=
  ∀ (h : MgmtHeader) (hw : HwAddr) (s : State), Taken h s.block →
    (getSession s.block hw = none → exec (.endGuest h hw) s = s.answers h (.refusal .notFound none) s.block) ∧
    ∀ x, getSession s.block hw = some x → ∃ b, exec (.endGuest h hw) s = s.answers h .done b ∧
      Touches [.guest] s.block b ∧ b.guest = { s.block.guest with sessions := b.guest.sessions, full := false } ∧
      getSession b hw = none ∧ ∀ hw', hw' ≠ hw → getSession b hw' = getSession s.block hw'

/-! ## The uplink line (file 10) -/

/-- R138, R139, R148, R159, R161, R162, R167, R168, R170, R174, R192: LINE_FRAME. The frame check, the line state, where a
valid frame goes by its kind (a DATA frame by the policy's UPLINK row and the neighbour of its destination, a TEST frame to
the qualification engine), and the two loopbacks; what of them is the model's reading stands in logs 23, 24, 25 and 57,
in log 38 (the senders that hold refused frames offer them when the line comes UP), and in logs 48 and 49: of a malformed
message or exchange frame an unknown kind is refused first, and an exchange frame that ends before its kind byte is
FIELD_RANGE, its EXCHANGE_REFUSED of kind 0. -/
def Obligations.LineFrameIsCheckedCountedAndPassedOn : Prop :=
  (∀ (f : LineInput) (s : State),
    (s.block.line.loopback = .localLoop → exec (.lineFrame (.fromLine f)) s = s.becomes s.block) ∧
    (s.block.line.loopback = .off →
      (4608 < f.length ∨ f.complete = false →
        exec (.lineFrame (.fromLine f)) s = s.becomes (bump .frameError s.block)) ∧
      (f.length ≤ 4608 → f.complete = true → f.crcOk = false →
        ((∀ n bits, f.content ≠ .testPattern n bits) ∨ s.block.line.qual = none) →
        exec (.lineFrame (.fromLine f)) s = s.becomes (bump .crcError s.block)) ∧
      (∀ n bits q, f.length ≤ 4608 → f.complete = true → f.crcOk = false → f.content = .testPattern n bits →
        s.block.line.qual = some q → exec (.lineFrame (.fromLine f)) s = s.becomes
          (if bits.length = 256 then examine n bits q (bump .crcError s.block) else bump .crcError s.block)) ∧
      ∀ c, f.length ≤ 4608 → f.complete = true → f.crcOk = true → c = receiveValid s.block →
        (c.line.up = false → exec (.lineFrame (.fromLine f)) s = s.becomes (bump .receivedWhileDown c)) ∧
        (c.line.up = true →
          (f.content = .alive → exec (.lineFrame (.fromLine f)) s = s.becomes c) ∧
          (f.content = .journalBlock ∨ f.content = .unknownKind ∨ f.content = .malformed ∨
              (f.content = .testLoop ∧ c.line.qual = none) ∨
              (∃ n bits, f.content = .testPattern n bits ∧ (bits.length ≠ 256 ∨ c.line.qual = none)) →
            exec (.lineFrame (.fromLine f)) s = s.becomes (bump .unexpectedKind c)) ∧
          (f.content = .testLoop → c.line.qual ≠ none → exec (.lineFrame (.fromLine f)) s = s.becomes c) ∧
          (∀ n bits q, f.content = .testPattern n bits → bits.length = 256 → c.line.qual = some q →
            exec (.lineFrame (.fromLine f)) s = s.becomes (examine n bits q c)) ∧
          (∀ n, f.content = .journalAck n →
            exec (.lineFrame (.fromLine f)) s = exec (.journalAck n) { s with block := c }) ∧
          (∀ m i, f.content = .management m → messageRow (MgmtHeader.mk .headOffice m.station m.tag) m.body = some i →
            exec (.lineFrame (.fromLine f)) s = exec i { s with block := c }) ∧
          (∀ m, f.content = .management m →
            (m.station ≠ s.block.pins.straps.val →
              exec (.lineFrame (.fromLine f)) s = s.becomes (bump .mgmtIgnored c)) ∧
            (m.station = s.block.pins.straps.val →
              (m.body = .unknownKind ∨ m.body = .command .unknown → exec (.lineFrame (.fromLine f)) s =
                s.answers (MgmtHeader.mk .headOffice m.station m.tag) (.refusal .unknownKind none) c) ∧
              (m.body = .malformed → exec (.lineFrame (.fromLine f)) s =
                s.answers (MgmtHeader.mk .headOffice m.station m.tag) (.refusal .fieldRange none) c))) ∧
          (∀ x i, f.content = .exchange x → exchangeRow x = some i →
            exec (.lineFrame (.fromLine f)) s = exec i { s with block := c }) ∧
          (∀ kind code, (f.content = .exchange (.unknown kind) ∧ code = .unknownKind) ∨
              (f.content = .exchange (.malformed kind) ∧
                code = (if 1 ≤ kind.toNat ∧ kind.toNat ≤ 4 then .fieldRange else .unknownKind)) ∨
              (f.content = .exchange .empty ∧ kind = 0#8 ∧ code = .fieldRange) →
            exec (.lineFrame (.fromLine f)) s =
              s.becomes (formReply (.refused kind code) (bump .exchangeRefusals c))) ∧
          ∀ src dst content, f.content = .data src dst content →
            ((∃ d, inRange (gatewayOf c d) src = true) →
              exec (.lineFrame (.fromLine f)) s = s.becomes (bump .badSource c)) ∧
            ((∀ d, inRange (gatewayOf c d) src = false) →
              ((∃ d, (gatewayOf c d).address = dst) →
                exec (.lineFrame (.fromLine f)) s = s.becomes (bump .gatewayDiscard c)) ∧
              ((∀ d, (gatewayOf c d).address ≠ dst) →
                ((∀ d, inRange (gatewayOf c d) dst = false) →
                  exec (.lineFrame (.fromLine f)) s = s.becomes (bump .noRoute c)) ∧
                ∀ d, segmentOf c dst = some d →
                  (policyAllows c none (some d) = false →
                    exec (.lineFrame (.fromLine f)) s = s.becomes (bump .policyDenied c)) ∧
                  (policyAllows c none (some d) = true →
                    (neighbour c d dst = none →
                      exec (.lineFrame (.fromLine f)) s = s.becomes (bump .noNeighbour c)) ∧
                    ∀ e, neighbour c d dst = some e →
                      (d ≠ .guest → exec (.lineFrame (.fromLine f)) s = s.becomes
                        (if (c.fwd.ports.get e.2.port).up = true then
                          emit (.lan e.2.port (BitVec.ofNat 48 (keyHw e.1)) c.fwd.hwAddress (sendTag c e.2.port d)
                            (.network src dst content)) c else c)) ∧
                      ∀ x, d = .guest → x = guestDownlink (BitVec.ofNat 48 (keyHw e.1)) content c →
                        exec (.lineFrame (.fromLine f)) s = s.becomes
                          (if x.2 = true ∧ (c.fwd.ports.get e.2.port).up = true then
                            emit (.lan e.2.port (BitVec.ofNat 48 (keyHw e.1)) c.fwd.hwAddress
                              (some (c.fwd.ports.get e.2.port).settings.guestTag) (.network src dst content)) x.1
                          else x.1)))))) ∧
    (s.block.line.loopback = .remoteLoop → ∃ c, c = bump .remoteEchoed (emit (.lineEcho f) s.block) ∧
      (4608 < f.length ∨ f.complete = false →
        exec (.lineFrame (.fromLine f)) s = s.becomes (bump .frameError c)) ∧
      (f.length ≤ 4608 → f.complete = true → f.crcOk = false →
        exec (.lineFrame (.fromLine f)) s = s.becomes (bump .crcError c)) ∧
      (f.length ≤ 4608 → f.complete = true → f.crcOk = true → exec (.lineFrame (.fromLine f)) s = s.becomes
        (if (receiveValid c).line.up then receiveValid c else bump .receivedWhileDown (receiveValid c))))) ∧
  (∀ b : Block,
    (b.line.up = true → receiveValid b = bump .framesReceived { b with line := { b.line with loss := some 3000 } }) ∧
    (∀ x y rest, b.line.up = false → b.line.kept = x :: y :: rest → b.time.now ≤ x + 4000 →
      (receiveValid b).line.up = true ∧ (receiveValid b).line.loss = some 3000 ∧ (receiveValid b).line.kept = [] ∧
      (b.line.refused = [] → receiveValid b = notice .uplinkUp .line (bump .framesReceived
        { b with line := { b.line with up := true, loss := some 3000, kept := [] } })) ∧
      Touches [.line, .exch, .mgmt, .counts] b (receiveValid b) ∧
      (receiveValid b).mgmt = { b.mgmt with
        notices := noticeQueueAfter .uplinkUp .line none b.mode.clock b.mgmt.notices } ∧
      (receiveValid b).counts = (bump .framesReceived b).counts ∧
      ∃ (replies later : List ExchangeReply) (tests taken : List UplinkContent),
        RoomTaken b (receiveValid b) replies later tests ∧
        (receiveValid b).line.qual = b.line.qual.map (fun q => { q with nextOffer := q.nextOffer + tests.length }) ∧
        (∀ c, c ≠ .exchange → classFrames (receiveValid b) c = classFrames b c) ∧
        classFrames (receiveValid b) .exchange = classFrames b .exchange ++ taken ∧
        (b.line.wait = [] → AdmittedInOrder 32768 (classBytes b .exchange) (offeredInOrder b replies tests) taken
          (receiveValid b).line.wait) ∧
        (b.line.wait ≠ [] → taken = [] ∧ (receiveValid b).line.wait = b.line.wait ++ offeredInOrder b replies tests)) ∧
    (b.line.up = false → (∀ x y rest, b.line.kept = x :: y :: rest → x + 4000 < b.time.now) →
      ∃ kept, receiveValid b = bump .framesReceived { b with line := { b.line with kept := kept } } ∧
        kept.length ≤ 2 ∧ kept <:+ b.line.kept ++ [b.time.now] ∧ b.time.now ∈ kept)) ∧
  ∀ (s : State) (x : SentFrame) (rest : List SentFrame) (c : Block), s.block.line.loopback = .localLoop →
    s.block.line.returning = x :: rest →
    c = receiveValid { s.block with line := { s.block.line with returning := rest } } →
    (x = .alive → exec (.lineFrame .returned) s = s.becomes
      (bump .loopedBack (if c.line.up then c else bump .receivedWhileDown c))) ∧
    (x = .queued .testLoop ∨ (∃ run n k, x = .queued (.testPattern run n k)) → c.line.up = false →
      exec (.lineFrame .returned) s = s.becomes (bump .receivedWhileDown c)) ∧
    (x = .queued .testLoop ∨ (∃ run n k, x = .queued (.testPattern run n k)) → c.line.up = true → c.line.qual = none →
      exec (.lineFrame .returned) s = s.becomes (bump .unexpectedKind c)) ∧
    (x = .queued .testLoop → c.line.up = true → c.line.qual ≠ none → exec (.lineFrame .returned) s = s.becomes c) ∧
    (∀ run n k q, x = .queued (.testPattern run n k) → c.line.up = true → c.line.qual = some q →
      exec (.lineFrame .returned) s = s.becomes (examine n (patternBits n k) q c)) ∧
    (∀ src dst content, x = .queued (.data src dst content) → content.length ≤ 4600 →
      exec (.lineFrame .returned) s = s.becomes (bump .loopedBack (if c.line.up then c else bump .receivedWhileDown c))) ∧
    ∀ y, x = .queued y → y ≠ .testLoop → (∀ run n k, y ≠ .testPattern run n k) →
      (uplinkBytes y ≤ 4608 → exec (.lineFrame .returned) s = s.becomes
        (bump .loopedBack (if c.line.up then c else bump .receivedWhileDown c))) ∧
      (4608 < uplinkBytes y → exec (.lineFrame .returned) s = s.becomes
        (bump .frameError { s.block with line := { s.block.line with returning := rest } }))

/-- R124, R161, R162, R171, R182: LOSS_TIMER_EXPIRY takes the line DOWN; where the timer does not run nothing happens
(log 3), and UPLINK_DOWN is queued before EXCHANGE_ABORTED (log 51). -/
def Obligations.LossOfTheLineDiscardsTheQueue : Prop :=
  ∀ s : State,
    (s.block.line.up = false ∨ s.block.line.loss = none → exec .lossTimerExpiry s = s.becomes s.block) ∧
    (s.block.line.up = true → s.block.line.loss ≠ none →
      ∃ b, exec .lossTimerExpiry s = s.becomes b ∧ Touches [.line, .till, .exch, .mgmt, .counts] s.block b ∧
        b.line = { s.block.line with
          up := false, loss := none, kept := [], classes := Vector.replicate 6 [], wait := [], refused := b.line.refused,
          qual := none, result := none } ∧
        b.till = { s.block.till with sent := 0, ackTimer := none } ∧
        (s.block.exch.state = .idle → b.exch = s.block.exch) ∧
        (s.block.exch.state ≠ .idle →
          b.exch = { s.block.exch with state := .idle, staging := none, held := [] }) ∧
        counterValue b .lineDowns = min (counterValue s.block .lineDowns + 1) 4294967295 ∧
        (∀ c, c ≠ .exchange → counterValue b (.discarded c) =
          min (counterValue s.block (.discarded c) + (classFrames s.block c).length) 4294967295) ∧
        counterValue b (.discarded .exchange) =
          min (counterValue s.block (.discarded .exchange) + (classFrames s.block .exchange).length +
            s.block.line.wait.length) 4294967295 ∧
        b.mgmt = { s.block.mgmt with
          notices := (if s.block.exch.state = .idle then id
            else noticeQueueAfter .exchangeAborted .exchange none s.block.mode.clock)
              (noticeQueueAfter .uplinkDown .line none s.block.mode.clock s.block.mgmt.notices) })

/-- R155, R160, R162 to R165, R167 to R170: ALIVE_TIMER_EXPIRY and TRANSMIT_START, with the wait list admitted and room
signalled when a frame leaves EXCHANGE, and a frame offered to a dropping class. That a frame sent in LOCAL joins a list of
frames on their way back is the model's (log 24), as are an ALIVE that is not due in REMOTE (log 28) and the order in which
a frame that would fit still waits behind waiting ones (log 22). -/
def Obligations.TheTransmitterDrainsByPriority : Prop :=
  (∀ s : State, exec .aliveTimerExpiry s = s.becomes { s.block with line := { s.block.line with
    aliveTimer := 1000, aliveDue := decide (s.block.line.loopback ≠ .remoteLoop) } }) ∧
  (∀ s : State,
    (s.block.line.loopback = .remoteLoop → exec .transmitStart s = s.becomes s.block) ∧
    (s.block.line.loopback = .off → s.block.line.aliveDue = true → exec .transmitStart s = s.becomes
      (bump .aliveSent (emit (.line .alive) { s.block with line := { s.block.line with aliveDue := false } }))) ∧
    (s.block.line.loopback = .localLoop → s.block.line.aliveDue = true → exec .transmitStart s = s.becomes
      (bump .aliveSent { s.block with line := { s.block.line with
        aliveDue := false, returning := s.block.line.returning ++ [.alive] } })) ∧
    (s.block.line.loopback ≠ .remoteLoop → s.block.line.aliveDue = false →
      ((∀ c, classFrames s.block c = []) → exec .transmitStart s = s.becomes s.block) ∧
      ∀ c f rest, (∀ d, classIndex d < classIndex c → classFrames s.block d = []) → classFrames s.block c = f :: rest →
        (c = .guest → s.block.guest.tokens < 8 * uplinkBytes f → exec .transmitStart s = s.becomes s.block) ∧
        (c ≠ .guest ∨ 8 * uplinkBytes f ≤ s.block.guest.tokens → ∃ b, exec .transmitStart s = s.becomes b ∧
          Touches [.line, .guest, .exch, .counts, .out] s.block b ∧
          (s.block.line.loopback = .off →
            b.out = s.block.out ++ [.line (.queued f)] ∧ b.line.returning = s.block.line.returning) ∧
          (s.block.line.loopback = .localLoop →
            b.out = s.block.out ∧ b.line.returning = s.block.line.returning ++ [.queued f]) ∧
          b.guest = { s.block.guest with
            tokens := if c = .guest then s.block.guest.tokens - 8 * uplinkBytes f else s.block.guest.tokens } ∧
          counterValue b .framesSent = min (counterValue s.block .framesSent + 1) 4294967295 ∧
          (∀ d, d ≠ c → d ≠ .exchange → classFrames b d = classFrames s.block d) ∧
          (c ≠ .exchange ∨ (s.block.line.wait = [] ∧ s.block.line.refused = []) →
            classFrames b c = rest ∧ b.line.wait = s.block.line.wait ∧ b.exch = s.block.exch) ∧
          (c = .exchange → s.block.line.up = true →
            ∃ (replies later : List ExchangeReply) (tests taken : List UplinkContent),
              classFrames b .exchange = rest ++ taken ∧
              AdmittedInOrder 32768 (rest.map uplinkBytes).sum
                (s.block.line.wait ++ offeredInOrder s.block replies tests) taken b.line.wait ∧
              RoomTaken s.block b replies later tests ∧
              ∀ q total, s.block.line.qual = some q → total = (q.length + 255) / 256 →
                ∃ timer, b.line.qual = some { q with nextOffer := q.nextOffer + tests.length, timer := timer } ∧
                  ((∃ n i, f = .testPattern q.run n i ∧ n + 1 = total) → timer = some 2000) ∧
                  ((∀ n i, f = .testPattern q.run n i → n + 1 ≠ total) → timer = q.timer))))) ∧
  (∀ (c : UplinkClass) (f : UplinkContent) (b : Block),
    c = .tillAuth ∨ c = .management ∨ c = .office ∨ c = .guest →
    (b.line.up = false → offer c f b = bump (.discarded c) b) ∧
    (b.line.up = true → classBytes b c + uplinkBytes f ≤ classLimit c → offer c f b = { b with
      line := { b.line with classes := (b.line.classes.set (classIndex c) (b.line.classes.get (classIndex c) ++ [f])) } }) ∧
    (b.line.up = true → classLimit c < classBytes b c + uplinkBytes f → offer c f b = bump (.dropped c) b)) ∧
  classLimit .tillAuth = 32768 ∧ classLimit .management = 16384 ∧ classLimit .exchange = 32768 ∧
    classLimit .office = 65536 ∧ classLimit .journal = 49152 ∧ classLimit .guest = 65536

/-- R166, R171, R176: LOOPBACK and LOOPBACK_TIMER_EXPIRY; frames on their way back are lost with LOCAL, and in REMOTE no
ALIVE is due (logs 24 and 28). The model's choices: an expiry without a loopback or its timer is no event (log 3), and
EXCHANGE_ABORTED is queued before LOOPBACK_CHANGED (log 51). -/
def Obligations.LoopbackChangesAbortTheQualification : Prop :=
  (∀ (h : MgmtHeader) (mode : Coded Loopback) (duration : Option Nat) (s : State), Taken h s.block →
    (mode = none ∨ (mode ≠ some .off ∧ (duration.getD 300 < 10 ∨ 3600 < duration.getD 300)) →
      exec (.loopback h mode duration) s = s.answers h (.refusal .fieldRange none) s.block) ∧
    (mode = some .off → s.block.line.loopback = .off →
      exec (.loopback h mode duration) s = s.answers h (.refusal .already none) s.block) ∧
    (mode = some .off → s.block.line.loopback ≠ .off →
      exec (.loopback h mode duration) s = s.answers h (.loopback .off) (changeLoopback .off none s.block)) ∧
    ∀ l, mode = some l → l ≠ .off → 10 ≤ duration.getD 300 → duration.getD 300 ≤ 3600 →
      (s.block.line.loopback = l → exec (.loopback h mode duration) s = s.answers h (.loopback l)
        { s.block with line := { s.block.line with loopTimer := some (duration.getD 300 * 1000) } }) ∧
      (s.block.line.loopback ≠ l → exec (.loopback h mode duration) s = s.answers h (.loopback l)
        (changeLoopback l (some (duration.getD 300 * 1000)) s.block))) ∧
  (∀ s : State,
    (s.block.line.loopback ≠ .off → s.block.line.loopTimer ≠ none →
      exec .loopbackTimerExpiry s = s.becomes (changeLoopback .off none s.block)) ∧
    (s.block.line.loopback = .off ∨ s.block.line.loopTimer = none →
      exec .loopbackTimerExpiry s = s.becomes s.block)) ∧
  ∀ (l : Loopback) (timer : Option Nat) (b c : Block), c = changeLoopback l timer b →
    Touches [.line, .exch, .mgmt, .counts] b c ∧
    c.line = { b.line with
      loopback := l, loopTimer := timer, returning := [], aliveDue := b.line.aliveDue && decide (l ≠ .remoteLoop),
      qual := none, refused := c.line.refused } ∧
    (b.line.qual = none ∨ b.exch.state ≠ .qualifying → c.exch = b.exch ∧ c.counts = b.counts ∧
      c.mgmt = (notice .loopbackChanged (.loopback l) b).mgmt) ∧
    (b.line.qual ≠ none → b.exch.state = .qualifying →
      c.exch = { b.exch with state := .idle, staging := none, held := [] } ∧
      c.counts = (bump .exchangeAborts b).counts ∧
      c.mgmt = (notice .loopbackChanged (.loopback l) (notice .exchangeAborted .exchange b)).mgmt)

/-- R169, R170, R171, R176, R177: QUALIFY_LINE, the pattern, the examiner of its echoes, and QUALIFY_TIMEOUT. The model's
readings: an omitted error insertion is OFF (log 31), the frames offered stand behind everything that waits (log 22), which
stage of the generator is sent (log 15), lost frames change nothing in search (log 32), each sync starts with an empty window
(log 58), echoes of another run are examined alike (log 57), and a timeout without its timer is no event (log 3). -/
def Obligations.QualificationOffersItsPatternAndFormsItsResult : Prop :=
  (∀ (h : MgmtHeader) (len : Option Nat) (insertion : Option Insertion) (s : State), Taken h s.block →
    ((∃ n, len = some n ∧ (n < 65536 ∨ 16777216 < n)) ∨ (∃ n, insertion = some (.every n) ∧ (n = 0 ∨ 7 < n)) →
      exec (.qualifyLine h len insertion) s = s.answers h (.refusal .fieldRange none) s.block) ∧
    ((∀ n, len = some n → 65536 ≤ n ∧ n ≤ 16777216) → (∀ n, insertion = some (.every n) → 1 ≤ n ∧ n ≤ 7) →
      (s.block.line.qual ≠ none →
        exec (.qualifyLine h len insertion) s = s.answers h (.refusal .busy none) s.block) ∧
      (s.block.line.qual = none → s.block.line.up = false ∨ s.block.line.loopback = .remoteLoop →
        exec (.qualifyLine h len insertion) s = s.answers h (.refusal .notInMode none) s.block) ∧
      (s.block.line.qual = none → s.block.line.up = true → s.block.line.loopback ≠ .remoteLoop →
        ∃ b q fs, exec (.qualifyLine h len insertion) s = s.answers h .done b ∧ Touches [.line] s.block b ∧
          b.line.result = none ∧ b.line.qual = some q ∧ q.length = len.getD 1048576 ∧ q.bits = 0 ∧ q.errors = 0 ∧
          q.insertion = (match insertion with | some (.every n) => n | _ => 0) ∧ q.examiner = .search [] 0 ∧
          (∀ c, c ≠ .exchange → classFrames b c = classFrames s.block c) ∧
          classFrames b .exchange ++ b.line.wait = classFrames s.block .exchange ++ s.block.line.wait ++ fs ∧
          fs.length = q.nextOffer ∧ q.nextOffer ≤ (q.length + 255) / 256 + 1 ∧
          (q.nextOffer < (q.length + 255) / 256 + 1 → ExchangeSender.pattern ∈ b.line.refused) ∧
          ∀ k f, fs[k]? = some f →
            f = (if k = 0 then UplinkContent.testLoop else .testPattern q.run (k - 1) q.insertion)))) ∧
  (∀ pattern : Nat → Bool, (∀ k, k < 15 → pattern k = true) → (∀ k, pattern (k + 15) = (pattern k != pattern (k + 1))) →
    ∀ number insertion k, (patternBits number insertion).length = 256 ∧
      (k < 256 → (patternBits number insertion)[k]? =
        some (pattern (256 * number + k) !=
          decide (insertion ≠ 0 ∧ (256 * number + k + 1) % 10 ^ insertion = 0)))) ∧
  (∀ (number : Nat) (bits : List Bool) (q t : Qualification) (b : Block),
    (number < q.expected → examine number bits q b = b) ∧
    (q.expected ≤ number →
      t = bits.foldl examineBit { q with
        expected := number + 1
        examiner := match q.examiner with
          | .search recent run => .search recent run
          | .sync reference window => if q.expected < number then .search [] 0 else .sync reference window } →
      (number + 1 ≠ (q.length + 255) / 256 → examine number bits q b =
        { b with line := { b.line with qual := some t } }) ∧
      (number + 1 = (q.length + 255) / 256 → ∀ s : State, s.block = { b with
          line := { b.line with qual := some { t with timer := some 0 } } } →
        exec .qualifyTimeout s = s.becomes (examine number bits q b)))) ∧
  (∀ (q : Qualification) (v : Bool),
    (∀ recent run, q.examiner = .search recent run →
      (recent.length < 15 → examineBit q v = { q with examiner := .search (recent ++ [v]) 0 }) ∧
      ∀ x y rest, recent = x :: y :: rest → 15 ≤ recent.length →
        (v ≠ (x != y) → examineBit q v = { q with examiner := .search (y :: rest ++ [v]) 0 }) ∧
        (v = (x != y) → run + 1 ≠ 32 → examineBit q v = { q with examiner := .search (y :: rest ++ [v]) (run + 1) }) ∧
        (v = (x != y) → run + 1 = 32 → examineBit q v = { q with examiner := .sync (y :: rest ++ [v]) [] })) ∧
    ∀ x y rest window last, q.examiner = .sync (x :: y :: rest) window →
      last = (window ++ [v != (x != y)]).drop (window.length + 1 - 64) →
      examineBit q v = { q with
        bits := q.bits + 1
        errors := if v = (x != y) then q.errors else q.errors + 1
        examiner := if 6 ≤ last.count true then .search [] 0 else .sync (y :: rest ++ [x != y]) last }) ∧
  ∀ s : State,
    ((s.block.line.qual = none ∨ ∃ q, s.block.line.qual = some q ∧ q.timer = none) →
      exec .qualifyTimeout s = s.becomes s.block) ∧
    ∀ q, s.block.line.qual = some q → q.timer ≠ none →
      ∃ b x, exec .qualifyTimeout s = s.becomes b ∧ Touches [.line, .exch, .mgmt, .counts] s.block b ∧
        b.line.qual = none ∧ b.line.result = some (QualResult.mk x q.bits q.errors) ∧
        (2 * q.bits < q.length → x = .noResult) ∧
        (q.length ≤ 2 * q.bits →
          (q.errors * 1000000 ≤ q.bits → x = .classA) ∧
          (q.bits < q.errors * 1000000 → q.errors * 10000 ≤ q.bits → x = .classB) ∧
          (q.bits < q.errors * 10000 → q.errors * 1000 ≤ q.bits → x = .classC) ∧
          (q.bits < q.errors * 1000 → x = .poor)) ∧
        b.mgmt = (noticeWith .qualifyResult .line (some x) s.block).mgmt ∧
        (s.block.exch.state ≠ .qualifying → b.exch = s.block.exch) ∧
        (s.block.exch.state = .qualifying → x = .classA ∨ x = .classB ∨ x = .classC →
          b.exch.state = .ready ∧ b.exch.hold = s.block.exch.hold) ∧
        (s.block.exch.state = .qualifying → x = .poor ∨ x = .noResult →
          b.exch.state = .idle ∧ b.exch.hold = some 600000)

/-! ## The exchange engine (file 11) -/

/-- R164, R174, R175, R177: EXCHANGE_OPEN and REOPEN_HOLD_EXPIRY, what an OPENED reply carries and when it starts the reopen
hold, and where a reply goes that is formed. That a frame of head office is taken only from a working line is guarded at
the row (log 7); the hold in READY and RECEIVING is the model's reading (log 42), and so is that a reply which would fit
still waits behind a wait list that holds frames (log 22). -/
def Obligations.ExchangeOpensByWindowAndState : Prop :=
  (∀ s : State,
    (s.block.line.up = false ∨ s.block.line.loopback ≠ .off → exec .exchangeOpen s = s.becomes s.block) ∧
    (s.block.line.up = true → s.block.line.loopback = .off →
      (s.block.mode.window = .shut → exec .exchangeOpen s =
        s.becomes (formReply (.refused 1#8 .windowClosed) (bump .exchangeRefusals s.block))) ∧
      (s.block.mode.window = .opened →
        (s.block.exch.state = .qualifying → exec .exchangeOpen s =
          s.becomes (formReply (.refused 1#8 .busy) (bump .exchangeRefusals s.block))) ∧
        (s.block.exch.state = .ready → exec .exchangeOpen s = s.becomes (formOpened s.block)) ∧
        (s.block.exch.state = .receiving → exec .exchangeOpen s = s.becomes
          (formOpened { s.block with exch := { s.block.exch with state := .ready, staging := none } })) ∧
        (s.block.exch.state = .idle →
          (s.block.exch.hold ≠ none → exec .exchangeOpen s =
            s.becomes (formReply (.refused 1#8 .linePoor) (bump .exchangeRefusals s.block))) ∧
          (s.block.exch.hold = none →
            ((∃ r, s.block.line.result = some r ∧
                (r.result = .classA ∨ r.result = .classB ∨ r.result = .classC)) →
              exec .exchangeOpen s =
                s.becomes (formOpened { s.block with exch := { s.block.exch with state := .ready } })) ∧
            ((∀ r, s.block.line.result = some r → r.result = .poor ∨ r.result = .noResult) →
              (s.block.line.qual ≠ none → exec .exchangeOpen s =
                s.becomes { s.block with exch := { s.block.exch with state := .qualifying } }) ∧
              (s.block.line.qual = none → ∃ b q, exec .exchangeOpen s = s.becomes b ∧
                Touches [.line, .exch] s.block b ∧
                b.exch = { s.block.exch with state := .qualifying } ∧ b.line.result = none ∧ b.line.qual = some q ∧
                q.length = 1048576 ∧ q.insertion = 0 ∧ q.bits = 0 ∧ q.errors = 0 ∧ q.examiner = .search [] 0))))))) ∧
  (∀ s : State, exec .reopenHoldExpiry s = s.becomes { s.block with exch := { s.block.exch with hold := none } }) ∧
  (∀ (b : Block) (size : Nat) (x : QualClass),
    (b.line.result = none → x = .noResult) → (∀ r, b.line.result = some r → x = r.result) →
    size = (match x with | .classA => 4096 | .classB => 1024 | _ => 256) →
    (x = .classA ∨ x = .classB ∨ x = .classC →
      formOpened b = formReply (.opened b.exch.last b.till.journal.length x size b.mode.mode) b) ∧
    (x = .poor ∨ x = .noResult → ∃ c, c = formReply (.opened b.exch.last b.till.journal.length x size b.mode.mode) b ∧
      formOpened b = { c with exch := { c.exch with hold := some 600000 } })) ∧
  ∀ (r : ExchangeReply) (b : Block),
    (b.exch.held = [] → b.line.up = false → formReply r b = bump (.discarded .exchange) b) ∧
    (b.exch.held = [] → b.line.up = true → b.line.wait = [] →
      classBytes b .exchange + uplinkBytes (.exchange r) ≤ 32768 → formReply r b = { b with line := { b.line with
        classes := (b.line.classes.set 2 (b.line.classes.get 2 ++ [.exchange r])) } }) ∧
    (b.line.up = true → (b.line.wait ≠ [] ∨ 32768 < classBytes b .exchange + uplinkBytes (.exchange r)) →
      b.exch.held = [] →
      (b.line.wait.length < 64 →
        formReply r b = { b with line := { b.line with wait := b.line.wait ++ [.exchange r] } }) ∧
      (64 ≤ b.line.wait.length → ∃ refused, ExchangeSender.engine ∈ refused ∧ formReply r b = { b with
        exch := { b.exch with held := [r] }, line := { b.line with refused := refused } })) ∧
    (b.exch.held ≠ [] → b.exch.held.length < 64 → ∃ refused, ExchangeSender.engine ∈ refused ∧
      formReply r b = { b with
        exch := { b.exch with held := b.exch.held ++ [r] }, line := { b.line with refused := refused } }) ∧
    (64 ≤ b.exch.held.length → formReply r b = bump .exchangeRepliesLost b)

/-- R174, R178 to R181: BATCH_START, EXCHANGE_RECORDS and BATCH_END: a batch is staged record by record, and reaches the
tables whole, in batch order, or not at all; a staged record does what the change record of its kind does as its owner's own
event (log 8). That a BATCH_START or BATCH_END out of range is refused in any state with FIELD_RANGE is the model's order
(log 46), and that the three do nothing over a line that is DOWN or looped is guarded at their rows (log 7). -/
def Obligations.ABatchCommitsWholeOrNotAtAll : Prop :=
  (∀ (n k : Nat) (s : State), s.block.line.up = true → s.block.line.loopback = .off →
    (4294967295 < n ∨ k = 0 ∨ 256 < k → exec (.batchStart n k) s =
      s.becomes (formReply (.refused 2#8 .fieldRange) (bump .exchangeRefusals s.block))) ∧
    (n ≤ 4294967295 → 1 ≤ k → k ≤ 256 →
      (s.block.exch.state ≠ .ready → exec (.batchStart n k) s =
        s.becomes (formReply (.refused 2#8 .notInMode) (bump .exchangeRefusals s.block))) ∧
      (s.block.exch.state = .ready →
        (n = s.block.exch.last + 1 → exec (.batchStart n k) s = s.becomes { s.block with
          exch := { s.block.exch with state := .receiving, staging := some (Staging.mk [] n k 0 0) } }) ∧
        (∀ r, n = s.block.exch.last → s.block.exch.stored = some r →
          exec (.batchStart n k) s = s.becomes (formReply (.batchResult r) s.block)) ∧
        (n ≠ s.block.exch.last + 1 → n ≠ s.block.exch.last ∨ s.block.exch.stored = none →
          exec (.batchStart n k) s =
            s.becomes (formReply (.refused 2#8 .outOfOrder) (bump .exchangeRefusals s.block)))))) ∧
  (∀ s : State, s.block.line.up = true → s.block.line.loopback = .off →
    (s.block.exch.state ≠ .receiving ∨ s.block.exch.staging = none → ∀ rs, exec (.exchangeRecords rs) s =
      s.becomes (formReply (.refused 3#8 .notInMode) (bump .exchangeRefusals s.block))) ∧
    ∀ g, s.block.exch.state = .receiving → s.block.exch.staging = some g →
      exec (.exchangeRecords []) s = s.becomes s.block ∧
      ∀ r rest, exec (.exchangeRecords (r :: rest)) s = exec (.exchangeRecords rest) { s with
        block := { s.block with exch := { s.block.exch with staging := some (Staging.mk
          (if g.records.length < 256 then g.records ++ [r.record] else g.records) g.n g.k (g.received + 1)
          ((g.sum + (r.bytes.map BitVec.toNat).sum) % 65536)) } } }) ∧
  (∀ (n k check : Nat) (rs : List ExchangeRecord) (s : State),
    s.block.line.up = false ∨ s.block.line.loopback ≠ .off →
      exec (.batchStart n k) s = s.becomes s.block ∧ exec (.exchangeRecords rs) s = s.becomes s.block ∧
        exec (.batchEnd check) s = s.becomes s.block) ∧
  ∀ (check : Nat) (s : State), s.block.line.up = true → s.block.line.loopback = .off →
    (65535 < check → exec (.batchEnd check) s =
      s.becomes (formReply (.refused 4#8 .fieldRange) (bump .exchangeRefusals s.block))) ∧
    (check ≤ 65535 → s.block.exch.state ≠ .receiving ∨ s.block.exch.staging = none → exec (.batchEnd check) s =
      s.becomes (formReply (.refused 4#8 .notInMode) (bump .exchangeRefusals s.block))) ∧
    ∀ g, check ≤ 65535 → s.block.exch.state = .receiving → s.block.exch.staging = some g →
      (∀ byCount, (g.received ≠ g.k ∧ byCount = true) ∨ (g.received = g.k ∧ g.sum ≠ check ∧ byCount = false) →
        ∃ b, exec (.batchEnd check) s = s.becomes b ∧ Touches [.exch, .line, .counts] s.block b ∧
          b = bump .batchesRejected (formReply (.batchRejected g.n byCount)
            { s.block with exch := { s.block.exch with state := .ready, staging := none } })) ∧
      (g.received = g.k → g.sum = check →
        ∃ (c : Block) (verdicts : List Verdict) (result : BatchResult),
          c = g.records.foldl (fun d r => (applyStaged r d).1) s.block ∧
          Touches [.mode, .items, .labels, .composer, .mgmt] s.block c ∧
          verdicts.length = g.records.length ∧
          (∀ i r, g.records[i]? = some r → verdicts[i]? =
            some (applyStaged r ((g.records.take i).foldl (fun d x => (applyStaged x d).1) s.block)).2) ∧
          result = BatchResult.mk g.n (verdicts.count none)
            ((verdicts.zipIdx 1).filterMap (fun p => p.1.map (fun code => (p.2, code)))) ∧
          exec (.batchEnd check) s = s.becomes (bump .batchesCommitted (notice .batchCommitted .exchange
            (formReply (.batchResult result) { c with exch := { c.exch with
              state := if .exchangeClose ∈ g.records then .idle else .ready,
              last := g.n, stored := some result, staging := none } })))) ∧
  ∀ (n : Nat) (x : StagedRecord) (s : State) (v : Verdict) (b : Block), applyStaged x s.block = (b, v) →
    (∀ r, x = .price r → exec (.price (.event n) r) s = s.reports v b) ∧
    (∀ code text, x = .description code text → exec (.description (.event n) code text) s = s.reports v b) ∧
    (∀ code, x = .withdraw code → exec (.withdraw (.event n) code) s = s.reports v b) ∧
    (∀ id cls, x = .label id cls → exec (.label (.event n) id cls) s = s.reports v b) ∧
    (∀ id code t, x = .bind id code t → exec (.bind (.event n) id code t) s = s.reports v b) ∧
    (∀ id, x = .unbind id → exec (.unbind (.event n) id) s = s.reports v b) ∧
    (∀ id t, x = .templateChange id t → exec (.templateRecord (.event n) id t) s = s.reports v b) ∧
    (∀ value, x = .time (some value) → value ≤ 4294967295 →
      v = none ∧ b = { s.block with mode := { s.block.mode with clock := some value } }) ∧
    (x = .time none ∨ (∃ value, x = .time (some value) ∧ 4294967295 < value) →
      v = some .fieldRange ∧ b = s.block) ∧
    (x = .exchangeClose → v = none ∧ b = s.block) ∧ (x = .unknown → v = some .unknownKind ∧ b = s.block)

/-! ## The management interface (file 12) -/

/-- R184, R185, R187: whose messages are taken, the way an answer goes, and WINDOW, READ and STATUS. That head office's
messages are taken only over a line that passes frames on is guarded at the row (log 7); the bytes of an answer's body
are free (log 10), and so is the revision number (log 12); a READ's count is checked before its window (log 39); and a READ
gives the times of sessions and addresses in whole seconds and tokens in whole bytes, rounded down, and a till's silence
timer in milliseconds (log 56). What a READ finds at each position of each table stands at the end. -/
def Obligations.MessagesAreAnsweredAndWindowsRead : Prop :=
  (∀ (h : MgmtHeader) (m : MgmtBody) (i : Instr) (s : State), messageRow h m = some i →
    (h.source = .headOffice → s.block.line.up = false ∨ s.block.line.loopback ≠ .off →
      exec i s = s.becomes s.block) ∧
    ((h.source = .headOffice → s.block.line.up = true ∧ s.block.line.loopback = .off) →
      h.station ≠ s.block.pins.straps.val → exec i s = s.becomes (bump .mgmtIgnored s.block))) ∧
  (∀ (tag : Nat) (body : ReplyBody) (b : Block),
    answerMgmt .headOffice tag body b = offer .management (.management (MgmtReply.mk tag body)) b ∧
    ∀ hw net port, answerMgmt (.storeServer hw net port) tag body b =
      if (b.fwd.ports.get port).settings.role = .office ∧ (b.fwd.ports.get port).up = true then
        emit (.lan port hw b.fwd.hwAddress none
          (.mgmt (b.fwd.gateways.get 1).address net (MgmtReply.mk tag body))) b
      else b) ∧
  (∀ (h : MgmtHeader) (table : Coded TableName) (first last : Nat) (direction : Coded Direction) (s : State),
    Taken h s.block →
    (table = none → exec (.window h table first last direction) s = s.answers h (.refusal .badTable none) s.block) ∧
    ∀ t, table = some t →
      (last < first ∨ tableSize t ≤ last →
        exec (.window h table first last direction) s = s.answers h (.refusal .windowRange none) s.block) ∧
      (first ≤ last → last < tableSize t →
        (direction = none →
          exec (.window h table first last direction) s = s.answers h (.refusal .fieldRange none) s.block) ∧
        ∀ d c, direction = some d → c = (match d with | .increment => first | .decrement => last) →
          exec (.window h table first last direction) s =
            s.answers h (.cursor c) (setWindow h.source (TableWindow.mk t first last d c) s.block))) ∧
  (tableSize .ports = 14 ∧ tableSize .policy = 25 ∧ tableSize .schedule = 17 ∧ tableSize .priceSettings = 1 ∧
    tableSize .templates = 32 ∧ tableSize .glyphs = 388 ∧ tableSize .radioSettings = 2 ∧ tableSize .guestProfile = 2 ∧
    tableSize .tills = 96 ∧ tableSize .items = 65536 ∧ tableSize .labels = 65536 ∧ tableSize .addresses = 4096 ∧
    tableSize .guestSessions = 1024 ∧ tableSize .notices = 65 ∧ tableSize .counters = 256) ∧
  (∀ (src other : MgmtSource) (w : TableWindow) (b : Block),
    Touches [.mgmt] b (setWindow src w b) ∧ windowOf (setWindow src w b) src = some w ∧
    ((src = .headOffice ↔ other ≠ .headOffice) → windowOf (setWindow src w b) other = windowOf b other) ∧
    stepWindow w = { w with cursor := match w.direction with
      | .increment => if w.cursor = w.last then w.first else w.cursor + 1
      | .decrement => if w.cursor = w.first then w.last else w.cursor - 1 }) ∧
  (∀ (h : MgmtHeader) (count : Nat) (s : State), Taken h s.block →
    (count = 0 ∨ 64 < count → exec (.read h count) s = s.answers h (.refusal .fieldRange none) s.block) ∧
    (1 ≤ count → count ≤ 64 →
      (windowOf s.block h.source = none → exec (.read h count) s = s.answers h (.refusal .windowRange none) s.block) ∧
      ∀ w, windowOf s.block h.source = some w →
        ∃ (k : Nat) (rs : Nat → List ReadRecord), k ≤ count ∧
          (∀ n, rs n = (List.range n).map (fun i => readAt w.table (stepWindow^[i] w).cursor s.block)) ∧
          exec (.read h count) s = s.answers h (.records (rs k) (stepWindow^[k] w).cursor)
            (setWindow h.source (stepWindow^[k] w) s.block) ∧
          (∀ j, j < k → Config.bodyBytes ReplyBody (.records (rs (j + 1)) (stepWindow^[j + 1] w).cursor) ≤ 4096) ∧
          (k < count → 4096 < Config.bodyBytes ReplyBody (.records (rs (k + 1)) (stepWindow^[k + 1] w).cursor)))) ∧
  (∀ (h : MgmtHeader) (s : State), Taken h s.block →
    exec (.status h) s = s.answers h (.status (StatusReport.mk [66, 73, 80, 79, 82, 65, 32, 52, 56, 54, 48] Config.revision s.block.mode.mode s.block.line.up
      s.block.exch.state s.block.mode.window s.block.mode.clock s.block.items.table.length s.block.labels.table.length
      (s.block.till.records.toList.filter (fun r => decide (r.state ≠ .unregistered))).length
      s.block.guest.sessions.length s.block.till.journal.length)) s.block) ∧
  ∀ b : Block,
    ((∀ k : Fin 8, readAt .ports k.val b = .port (b.fwd.ports.get k)) ∧
      (∀ k : Fin 4, readAt .ports (8 + k.val) b = .gateway (b.fwd.gateways.get k)) ∧
      readAt .ports 12 b = .forwarder b.fwd.aging b.fwd.hwAddress ∧ readAt .ports 13 b = .collector b.mgmt.collector ∧
      (∀ k : Fin 25, readAt .policy k.val b = .policyCell (b.fwd.policy.get k)) ∧
      (∀ k : Fin 16, readAt .schedule k.val b = .scheduleEntry (b.mode.schedule.get k)) ∧
      readAt .schedule 16 b = .modeSettings b.mode.settings ∧ readAt .priceSettings 0 b = .priceSettings b.price ∧
      (∀ k : Fin 32, readAt .templates k.val b = .template (b.composer.templates.get k)) ∧
      (∀ k : Fin 4, readAt .glyphs k.val b = .font (b.composer.fonts.get k)) ∧
      (∀ k : Fin 384, readAt .glyphs (4 + k.val) b = .glyph (b.composer.glyphs.get k)) ∧
      (∀ k : Fin 96, readAt .tills k.val b = .till (b.till.records.get k)) ∧
      readAt .radioSettings 0 b = .radioSettings b.radio.settings ∧
      readAt .guestProfile 0 b = .guestProfile b.guest.profile) ∧
    readAt .radioSettings 1 b = .radioStatus (RadioStatus.mk b.radio.slot b.radio.cycle b.radio.budget
      (b.radio.plan.map (fun e => if e.kind = .query then 1 else e.fragments)).sum b.radio.plan.length
      (b.radio.plan.countP (fun e => decide (e.kind = .query))) b.radio.plan) ∧
    readAt .guestProfile 1 b = .guestStatus (GuestStatus.mk b.guest.level (b.guest.profile.maximum * b.guest.level / 8)
      (b.guest.tokens / 8) (b.guest.sessions.countP (fun p => decide (p.2.state = .active)))
      (b.guest.sessions.countP (fun p => decide (p.2.state = .exhausted)))
      (b.guest.sessions.countP (fun p => decide (p.2.state = .cooldown))) b.guest.full) ∧
    (∀ code i, tableSorted b.items.table → getItem b code = some i →
      readAt .items (b.items.table.countP (fun p => decide (p.1 < code))) b =
        .item code i (decide (code ∈ b.items.pending))) ∧
    (∀ id l, tableSorted b.labels.table → getLabel b id = some l →
      readAt .labels (b.labels.table.countP (fun p => decide (p.1 < id))) b = .label id (id % 64) l) ∧
    (∀ seg hw e, tableSorted b.fwd.addresses → getAddress b seg hw = some e →
      readAt .addresses (b.fwd.addresses.countP (fun p => decide (p.1 < addressKey seg hw))) b =
        .address seg hw.toNat e.port e.net ((b.time.now - e.heardAt) / 1000)) ∧
    (∀ seg hw seg' hw', addressKey seg hw < addressKey seg' hw' ↔ (segmentIndex seg).val < (segmentIndex seg').val ∨
      (seg = seg' ∧ hw.toNat < hw'.toNat)) ∧
    (∀ hw x, tableSorted b.guest.sessions → getSession b hw = some x →
      readAt .guestSessions (b.guest.sessions.countP (fun p => decide (p.1 < hw.toNat))) b = .session
        (SessionView.mk hw.toNat x.state ((b.time.now - x.start) / 1000) x.used ((b.time.now - x.lastTraffic) / 1000)
          (if x.state = .cooldown then some ((b.time.now - x.cooldownStart.getD b.time.now) / 1000) else none)
          (x.tokens / 8))) ∧
    (∀ n, (b.items.table.length ≤ n → readAt .items n b = .empty) ∧
      (b.labels.table.length ≤ n → readAt .labels n b = .empty) ∧
      (b.fwd.addresses.length ≤ n → readAt .addresses n b = .empty) ∧
      (b.guest.sessions.length ≤ n → readAt .guestSessions n b = .empty) ∧
      (b.mgmt.notices.length ≤ n → readAt .notices n b = .empty) ∧
      (∀ e, b.mgmt.notices[n]? = some e → readAt .notices n b = .notice e) ∧
      (∀ k, countersFrom0[n]? = some k → readAt .counters n b = .counter (counterValue b k)) ∧
      (∀ k, countersFrom55[n]? = some k → readAt .counters (55 + n) b = .counter (counterValue b k)) ∧
      readAt .counters (61 + n) b = .empty) ∧
    readAt .counters 52 b = .qualClass (b.line.result.map QualResult.result) ∧
    (b.line.result = none → readAt .counters 53 b = .empty ∧ readAt .counters 54 b = .empty) ∧
    ∀ r, b.line.result = some r → readAt .counters 53 b = .counter r.bits ∧ readAt .counters 54 b = .counter r.errors

/-- R184, R186: a WRITE. A record of its own row does what its owner's event does at the cursor, which steps; a record of
another kind than the table's, or at a position of another kind, is FIELD_RANGE (log 8); the order of a WRITE's checks is
the model's (log 39), and so is the index 0 of its FIELD_RANGE and WINDOW_RANGE (log 65). A WRITE of several records is taken
in one event, or record by record with other events between them, and how its later records find it is the model's
(log 9). -/
def Obligations.RecordsOfAWriteAreTakenInOrderAtTheCursor : Prop :=
  (∀ (h : MgmtHeader) (r : WriteRecord) (i : Instr) (s : State), recordRow (.message h) r = some i → Taken h s.block →
    (windowOf s.block h.source = none → exec i s = s.answers h (.refusal .windowRange (some 0)) s.block) ∧
    ∀ w, windowOf s.block h.source = some w →
      (windowReadOnly w = true → exec i s = s.answers h (.refusal .readOnly (some 0)) s.block) ∧
      (windowReadOnly w = false →
        (recordTable r = some w.table → ∀ j, recordRow (.event w.cursor) r = some j →
          ∃ v b, exec j s = s.reports v b ∧
            (v = none → exec i s = s.answers h (.written 1 (stepWindow w).cursor)
              (setWindow h.source (stepWindow w) b)) ∧
            ∀ c, v = some c → b = s.block ∧ exec i s = s.answers h (.refusal c (some 1)) s.block) ∧
        (recordTable r ≠ some w.table → (¬ ReadOnlyAt w.table w.cursor →
          exec i s = s.answers h
            (.refusal (if w.table = .items ∨ w.table = .labels then .unknownKind else .fieldRange) (some 1))
            s.block) ∧
          (ReadOnlyAt w.table w.cursor → exec i s = s.answers h (.refusal .readOnly (some 1)) s.block)))) ∧
  (∀ w : TableWindow, w.first ≤ w.last →
    (windowReadOnly w = true ↔ ∀ n, w.first ≤ n → n ≤ w.last → ReadOnlyAt w.table n)) ∧
  (∀ (t : TableName) (n : Nat) (r : WriteRecord) (b : Block),
    (ReadOnlyAt t n → writeAt t n r b = (b, some .readOnly)) ∧
    ∀ c, (writeAt t n r b).2 = some c → (writeAt t n r b).1 = b) ∧
  ∀ (h : MgmtHeader) (rs : List WriteRecord) (s : State), Taken h s.block →
    (rs = [] ∨ 64 < rs.length →
      exec (.readOnlyWrite h rs) s = s.answers h (.refusal .fieldRange (some 0)) s.block) ∧
    (1 ≤ rs.length → rs.length ≤ 64 →
      (windowOf s.block h.source = none →
        exec (.readOnlyWrite h rs) s = s.answers h (.refusal .windowRange (some 0)) s.block) ∧
      ∀ w, windowOf s.block h.source = some w →
        (windowReadOnly w = true →
          exec (.readOnlyWrite h rs) s = s.answers h (.refusal .readOnly (some 0)) s.block) ∧
        (windowReadOnly w = false →
          (∀ c x, AllWritten h.source rs s.block c → windowOf c h.source = some x →
            exec (.readOnlyWrite h rs) s = s.answers h (.written rs.length x.cursor) c) ∧
          ∀ before r after c x code, rs = before ++ r :: after → AllWritten h.source before s.block c →
            windowOf c h.source = some x → (writeAt x.table x.cursor r c).2 = some code →
            exec (.readOnlyWrite h rs) s = s.answers h (.refusal code (some (before.length + 1))) c)) ∧
    (∀ (t : TableName) (n : Nat) (r : WriteRecord) (j : Instr), recordTable r = some t →
      recordRow (.event n) r = some j → exec j s = s.reports (writeAt t n r s.block).2 (writeAt t n r s.block).1) ∧
    ∀ (index count : Nat) (r : WriteRecord) (i : Instr) (others : List WriteProgress),
      recordRow (.part h index count) r = some i →
      others = (if index = 1 then s.block.mgmt.writes
        else s.block.mgmt.writes.erase (WriteProgress.mk h count (index - 1))) →
      (index = 0 ∨ (2 ≤ index ∧ WriteProgress.mk h count (index - 1) ∉ s.block.mgmt.writes) →
        exec i s = s.becomes s.block) ∧
      (index = 1 → count = 0 ∨ 64 < count → exec i s = s.answers h (.refusal .fieldRange (some 0)) s.block) ∧
      (index = 1 → 1 ≤ count → count ≤ 64 → windowOf s.block h.source = none →
        exec i s = s.answers h (.refusal .windowRange (some 0)) s.block) ∧
      ∀ w, windowOf s.block h.source = some w →
        (index = 1 → 1 ≤ count → count ≤ 64 → windowReadOnly w = true →
          exec i s = s.answers h (.refusal .readOnly (some 0)) s.block) ∧
        ((index = 1 ∧ 1 ≤ count ∧ count ≤ 64 ∧ windowReadOnly w = false) ∨
            (2 ≤ index ∧ WriteProgress.mk h count (index - 1) ∈ s.block.mgmt.writes) →
          ∀ d v e, writeAt w.table w.cursor r s.block = (d, v) → e = setWindow h.source (stepWindow w) d →
            (∀ code, v = some code → exec i s = s.answers h (.refusal code (some index))
              { d with mgmt := { d.mgmt with writes := others } }) ∧
            (v = none → index = count → exec i s = s.answers h (.written count (stepWindow w).cursor)
              { e with mgmt := { e.mgmt with writes := others } }) ∧
            (v = none → index ≠ count → exec i s = s.becomes
              { e with mgmt := { e.mgmt with writes := others ++ [WriteProgress.mk h count index] } }))

/-- R8, R11, R128, R129, R131, R134, R140, R189: the records of PORTS, POLICY and SCHEDULE, as their owners' own events at
a position; a position of another kind is FIELD_RANGE (log 8), and the names of a weekday set are kept as written (log 52). -/
def Obligations.PortPolicyAndScheduleRecordsAreWritten : Prop :=
  (∀ (n : Nat) (r : PortWrite) (s : State),
    (8 ≤ n → exec (.portWrite (.event n) r) s = s.reports (some .fieldRange) s.block) ∧
    ∀ p : Port, n = p.val →
      (r.role = none ∨ r.staffTag = 0 ∨ 4094 < r.staffTag ∨ r.guestTag = 0 ∨ 4094 < r.guestTag ∨
          r.staffTag = r.guestTag →
        exec (.portWrite (.event n) r) s = s.reports (some .fieldRange) s.block) ∧
      ∀ role new, r.role = some role → 1 ≤ r.staffTag → r.staffTag ≤ 4094 → 1 ≤ r.guestTag → r.guestTag ≤ 4094 →
        r.staffTag ≠ r.guestTag → new = PortSettings.mk role r.staffTag r.guestTag →
        (new = (s.block.fwd.ports.get p).settings →
          exec (.portWrite (.event n) r) s = s.reports none s.block) ∧
        (new ≠ (s.block.fwd.ports.get p).settings → exec (.portWrite (.event n) r) s = s.reports none { s.block with
          fwd := { s.block.fwd with
            ports := s.block.fwd.ports.set p.val { s.block.fwd.ports.get p with settings := new } p.isLt
            addresses := s.block.fwd.addresses.filter (fun e => decide (e.2.port ≠ p))
            full := s.block.fwd.full && decide (∀ e ∈ s.block.fwd.addresses, e.2.port ≠ p) } })) ∧
  (∀ (n : Nat) (r : GatewayWrite) (s : State),
    (n < 8 ∨ 11 < n → exec (.gatewayRecordWrite (.event n) r) s = s.reports (some .fieldRange) s.block) ∧
    ∀ (seg : Segment) (g : Gateway) (c : Block), n = 8 + (segmentIndex seg).val →
      g = Gateway.mk r.address r.prefixLength →
      c = { s.block with fwd := { s.block.fwd with
        gateways := s.block.fwd.gateways.set (segmentIndex seg).val g (segmentIndex seg).isLt } } →
      (r.prefixLength < 8 ∨ 30 < r.prefixLength ∨
          r.address.toNat % 2 ^ (32 - r.prefixLength) = 0 ∨
          (r.address.toNat + 1) % 2 ^ (32 - r.prefixLength) = 0 ∨
          (∃ d a, d ≠ seg ∧ inRange g a = true ∧ inRange (gatewayOf s.block d) a = true) ∨
          (∃ x, s.block.mgmt.collector = some x ∧
            ((∃ d, d ≠ .office ∧ inRange (gatewayOf c d) x = true) ∨ ∃ d, (gatewayOf c d).address = x)) →
        exec (.gatewayRecordWrite (.event n) r) s = s.reports (some .fieldRange) s.block) ∧
      (8 ≤ r.prefixLength → r.prefixLength ≤ 30 → r.address.toNat % 2 ^ (32 - r.prefixLength) ≠ 0 →
        (r.address.toNat + 1) % 2 ^ (32 - r.prefixLength) ≠ 0 →
        (∀ d a, d ≠ seg → inRange g a = true → inRange (gatewayOf s.block d) a = false) →
        (∀ x, s.block.mgmt.collector = some x →
          (∀ d, d ≠ .office → inRange (gatewayOf c d) x = false) ∧ ∀ d, (gatewayOf c d).address ≠ x) →
        ∃ b, exec (.gatewayRecordWrite (.event n) r) s = s.reports none b ∧
          b = { c with fwd := { c.fwd with addresses := b.fwd.addresses } } ∧
          ∀ d hw, getAddress b d hw = (getAddress s.block d hw).map (fun e =>
            if d = seg ∧ e.net.any (fun a => !inRange g a) = true then { e with net := none } else e))) ∧
  (∀ (n aging : Nat) (s : State),
    (n ≠ 12 ∨ aging < 10 ∨ 3600 < aging →
      exec (.agingTimeWrite (.event n) aging) s = s.reports (some .fieldRange) s.block) ∧
    (n = 12 → 10 ≤ aging → aging ≤ 3600 → exec (.agingTimeWrite (.event n) aging) s = s.reports none { s.block with
      fwd := { s.block.fwd with
        aging := aging
        addresses := s.block.fwd.addresses.filter
          (fun e => decide (s.block.time.now - e.2.heardAt < aging * 1000))
        full := s.block.fwd.full &&
          decide (∀ e ∈ s.block.fwd.addresses, s.block.time.now - e.2.heardAt < aging * 1000) } })) ∧
  (∀ (n : Nat) (a : Option NetAddr) (s : State),
    (n ≠ 13 ∨ (∃ x, a = some x ∧
        ((∃ d, d ≠ .office ∧ inRange (gatewayOf s.block d) x = true) ∨ ∃ d, (gatewayOf s.block d).address = x)) →
      exec (.collectorRecordWrite (.event n) a) s = s.reports (some .fieldRange) s.block) ∧
    (n = 13 → (∀ x, a = some x →
        (∀ d, d ≠ .office → inRange (gatewayOf s.block d) x = false) ∧ ∀ d, (gatewayOf s.block d).address ≠ x) →
      exec (.collectorRecordWrite (.event n) a) s =
        s.reports none { s.block with mgmt := { s.block.mgmt with collector := a } })) ∧
  (∀ (n : Nat) (allow : Coded Bool) (s : State),
    (ReadOnlyAt .policy n → exec (.policyCellWrite (.event n) allow) s = s.reports (some .readOnly) s.block) ∧
    (¬ ReadOnlyAt .policy n →
      (25 ≤ n ∨ allow = none →
        exec (.policyCellWrite (.event n) allow) s = s.reports (some .fieldRange) s.block) ∧
      ∀ (x : Fin 25) v, n = x.val → allow = some v → exec (.policyCellWrite (.event n) allow) s = s.reports none
        { s.block with fwd := { s.block.fwd with policy := s.block.fwd.policy.set x.val v x.isLt } })) ∧
  (∀ (n : Nat) (r : ScheduleWrite) (s : State),
    (16 ≤ n ∨ 86399 < r.time ∨ r.action = none ∨ r.enabled = none ∨ none ∈ r.weekdays →
      exec (.scheduleEntryWrite (.event n) r) s = s.reports (some .fieldRange) s.block) ∧
    ∀ (x : Fin 16) days action enabled, n = x.val → r.time ≤ 86399 → r.action = some action →
      r.enabled = some enabled → r.weekdays = days.map some →
      exec (.scheduleEntryWrite (.event n) r) s = s.reports none { s.block with mode := { s.block.mode with
        schedule := s.block.mode.schedule.set x.val (ScheduleEntry.mk days r.time action enabled) x.isLt } }) ∧
  ∀ (n : Nat) (r : ModeSettingsWrite) (s : State),
    (n ≠ 16 ∨ r.drainPeriod < 60 ∨ 3600 < r.drainPeriod ∨ r.epochWeekday = none →
      exec (.modeSettingsWrite (.event n) r) s = s.reports (some .fieldRange) s.block) ∧
    ∀ d, n = 16 → 60 ≤ r.drainPeriod → r.drainPeriod ≤ 3600 → r.epochWeekday = some d →
      exec (.modeSettingsWrite (.event n) r) s = s.reports none { s.block with mode := { s.block.mode with
        settings := ModeSettings.mk r.drainPeriod d } }

/-- R16, R76, R77, R78, R89, R92, R144: the records of PRICE_SETTINGS, TEMPLATES, GLYPHS, RADIO_SETTINGS and
GUEST_PROFILE, as their owners' own events at a position; a position of another kind is FIELD_RANGE (log 8). -/
def Obligations.PriceImageRadioAndGuestRecordsAreWritten : Prop :=
  (∀ (n : Nat) (r : PriceSettingsWrite) (s : State),
    (n ≠ 0 ∨ r.promoAboveBase = none ∨ r.floor = none ∨ r.zeroPrice = none ∨ r.unitOverflow = none ∨ r.mark = none ∨
        (r.decimals ≠ 0 ∧ r.decimals ≠ 2 ∧ r.decimals ≠ 3) ∨ (∃ g, r.glyph = some g ∧ (g < 32 ∨ 127 < g)) →
      exec (.priceSettingsWrite (.event n) r) s = s.reports (some .fieldRange) s.block) ∧
    ∀ a f z u mark p, n = 0 → r.promoAboveBase = some a → r.floor = some f → r.zeroPrice = some z →
      r.unitOverflow = some u → r.mark = some mark → (r.decimals = 0 ∨ r.decimals = 2 ∨ r.decimals = 3) →
      (∀ g, r.glyph = some g → 32 ≤ g ∧ g ≤ 127) →
      p = PriceSettings.mk (PriceMasks.mk a f z u) r.decimals mark r.glyph →
      exec (.priceSettingsWrite (.event n) r) s = s.reports none { s.block with
        price := p
        composer := { s.block.composer with
          style := if p.decimals = s.block.price.decimals ∧ p.mark = s.block.price.mark ∧
            p.glyph = s.block.price.glyph then s.block.composer.style else [] } }) ∧
  (∀ (n : Nat) (r : TemplateWrite) (s : State),
    (32 ≤ n → exec (.templateWrite (.event n) r) s = s.reports (some .fieldRange) s.block) ∧
    ∀ t : Fin 32, n = t.val →
      (r.fields = [] →
        ((∃ id l, getLabel s.block id = some l ∧ l.template = some n) →
          exec (.templateWrite (.event n) r) s = s.reports (some .fieldRange) s.block) ∧
        ((∀ p ∈ s.block.labels.table, p.2.template ≠ some n) →
          exec (.templateWrite (.event n) r) s = s.reports none { s.block with
            composer := { s.block.composer with
              templates := s.block.composer.templates.set t.val none t.isLt }
            labels := { s.block.labels with templateHandoffs := s.block.labels.templateHandoffs ++ [n] } })) ∧
      (r.fields ≠ [] →
        (12 < r.fields.length ∨ r.cls = none ∨ (r.planes ≠ 1 ∧ r.planes ≠ 2) ∨
            (∃ f ∈ r.fields, f.source = none ∨ f.orientation = none ∨ f.alignment = none ∨ f.plane = none ∨
              3 < f.font ∨ f.xEnd < f.xStart ∨ f.yEnd < f.yStart ∨ (f.plane = some .accent ∧ r.planes = 1) ∨
              ∃ c, r.cls = some c ∧ (classWidth c ≤ f.xEnd ∨ classHeight c ≤ f.yEnd)) ∨
            (∃ id l c, getLabel s.block id = some l ∧ l.template = some n ∧ r.cls = some c ∧ c ≠ l.cls) →
          exec (.templateWrite (.event n) r) s = s.reports (some .fieldRange) s.block) ∧
        ∀ c (fs : List TemplateField), r.fields.length ≤ 12 → r.cls = some c → (r.planes = 1 ∨ r.planes = 2) →
          r.fields = fs.map (fun f => RawField.mk (some f.source) f.xStart f.xEnd f.yStart f.yEnd (some f.orientation)
            f.font.val (some f.alignment) (some f.plane)) →
          (∀ f ∈ fs, f.xStart ≤ f.xEnd ∧ f.yStart ≤ f.yEnd ∧ f.xEnd < classWidth c ∧ f.yEnd < classHeight c ∧
            (f.plane = .accent → r.planes = 2)) →
          (∀ p ∈ s.block.labels.table, p.2.template = some n → p.2.cls = c) →
          exec (.templateWrite (.event n) r) s = s.reports none { s.block with
            composer := { s.block.composer with
              templates := s.block.composer.templates.set t.val (some (Template.mk c r.planes fs)) t.isLt }
            labels := { s.block.labels with templateHandoffs := s.block.labels.templateHandoffs ++ [n] } })) ∧
  (∀ (n height : Nat) (s : State),
    (4 ≤ n ∨ height < 8 ∨ 48 < height →
      exec (.fontWrite (.event n) height) s = s.reports (some .fieldRange) s.block) ∧
    ∀ x : Fin 4, n = x.val → 8 ≤ height → height ≤ 48 → exec (.fontWrite (.event n) height) s = s.reports none
      { s.block with composer := { s.block.composer with
        fonts := s.block.composer.fonts.set x.val height x.isLt, style := [] } }) ∧
  (∀ (n : Nat) (r : GlyphWrite) (s : State),
    (n < 4 ∨ 387 < n ∨ r.width = 0 ∨ 32 < r.width ∨ r.pattern.length ≠ 48 ∨ (∃ row ∈ r.pattern, row.length ≠ r.width) →
      exec (.glyphWrite (.event n) r) s = s.reports (some .fieldRange) s.block) ∧
    ∀ (f : Fin 4) (c : Nat) (x : Fin 384), 32 ≤ c → c ≤ 127 → n = 4 + f.val * 96 + (c - 32) → n = 4 + x.val →
      1 ≤ r.width → r.width ≤ 32 → r.pattern.length = 48 → (∀ row ∈ r.pattern, row.length = r.width) →
      exec (.glyphWrite (.event n) r) s = s.reports none { s.block with composer := { s.block.composer with
        glyphs := s.block.composer.glyphs.set x.val (Glyph.mk r.width r.pattern) x.isLt, style := [] } }) ∧
  (∀ (n : Nat) (r : RadioSettingsWrite) (s : State),
    (1 ≤ n → exec (.radioSettingsWrite (.event n) r) s = s.reports (some .readOnly) s.block) ∧
    (n = 0 →
      (15 < r.channel ∨ r.tradingBudget = 0 ∨ 96 < r.tradingBudget ∨ r.closedBudget = 0 ∨ 96 < r.closedBudget ∨
          r.retryLimit = 0 ∨ 8 < r.retryLimit →
        exec (.radioSettingsWrite (.event n) r) s = s.reports (some .fieldRange) s.block) ∧
      (r.channel ≤ 15 → 1 ≤ r.tradingBudget → r.tradingBudget ≤ 96 → 1 ≤ r.closedBudget → r.closedBudget ≤ 96 →
        1 ≤ r.retryLimit → r.retryLimit ≤ 8 →
        exec (.radioSettingsWrite (.event n) r) s = s.reports none { s.block with radio := { s.block.radio with
          settings := RadioSettings.mk r.channel r.tradingBudget r.closedBudget r.retryLimit } }))) ∧
  ∀ (n : Nat) (r : GuestProfileWrite) (s : State),
    (1 ≤ n → exec (.guestProfileWrite (.event n) r) s = s.reports (some .readOnly) s.block) ∧
    (n = 0 →
      (r.quotaMiB = 0 ∨ 4096 < r.quotaMiB ∨ r.timeLimit < 300 ∨ 86400 < r.timeLimit ∨ r.idleLimit < 60 ∨
          3600 < r.idleLimit ∨ 86400 < r.cooldown ∨ r.rateCap < 64 ∨ 20480 < r.rateCap ∨ r.maximum < 64 ∨
          8192 < r.maximum →
        exec (.guestProfileWrite (.event n) r) s = s.reports (some .fieldRange) s.block) ∧
      (1 ≤ r.quotaMiB → r.quotaMiB ≤ 4096 → 300 ≤ r.timeLimit → r.timeLimit ≤ 86400 → 60 ≤ r.idleLimit →
        r.idleLimit ≤ 3600 → r.cooldown ≤ 86400 → 64 ≤ r.rateCap → r.rateCap ≤ 20480 → 64 ≤ r.maximum →
        r.maximum ≤ 8192 → tableSorted s.block.guest.sessions →
        ∃ b, exec (.guestProfileWrite (.event n) r) s = s.reports none b ∧ Touches [.guest] s.block b ∧
          b.guest = { s.block.guest with
            profile := GuestProfile.mk r.quotaMiB r.timeLimit r.idleLimit r.cooldown r.rateCap r.maximum
            sessions := b.guest.sessions
            full := s.block.guest.full && decide (b.guest.sessions.length = s.block.guest.sessions.length) } ∧
          ∀ hw, (getSession s.block hw = none → getSession b hw = none) ∧
            ∀ x age idle, getSession s.block hw = some x → age = s.block.time.now - x.start →
              idle = s.block.time.now - x.lastTraffic →
              (x.state ≠ .cooldown → r.timeLimit * 1000 ≤ age → getSession b hw =
                if r.cooldown = 0 then none
                else some { x with state := .cooldown, cooldownStart := some s.block.time.now }) ∧
              (x.state = .active → age < r.timeLimit * 1000 →
                (r.idleLimit * 1000 ≤ idle → getSession b hw = none) ∧
                (idle < r.idleLimit * 1000 → getSession b hw = some
                  (if r.quotaMiB * 1048576 ≤ x.used then { x with state := .exhausted } else x))) ∧
              (x.state = .exhausted → age < r.timeLimit * 1000 → getSession b hw = some x) ∧
              (∀ start, x.state = .cooldown → x.cooldownStart = some start → getSession b hw =
                if r.cooldown * 1000 ≤ s.block.time.now - start then none else some x)))

/-- R189: a notice is folded into its key's entry, queued behind the entries of its priority, or, where 64 keyed entries
stand, counted by OVERFLOW; the queue stays in order of priority. CLEAR_NOTICES, and NOTICE_SEND by its path; that a NOTICE
carries tag 0 is the model's choice (log 40), and so is that a NOTICE_SEND with nothing to send is no event (log 3). -/
def Obligations.NoticesAreQueuedByPriorityAndSentFromTheHead : Prop :=
  (∀ (kind : NoticeKind) (subject : NoticeSubject) (result : Option QualClass) (clock : Option Nat)
      (q r : List NoticeEntry), r = noticeQueueAfter kind subject result clock q →
    ((∃ e ∈ q, entryHasKey kind subject e = true) → r.length = q.length ∧ ∀ (i : Nat) (e : NoticeEntry),
      q[i]? = some e → (entryHasKey kind subject e = false → r[i]? = some e) ∧
        ∀ n first last old, e = .keyed kind subject n first last old → r[i]? = some
          (.keyed kind subject (n + 1) first clock (if kind = .qualifyResult then result else old))) ∧
    ((∀ e ∈ q, entryHasKey kind subject e = false) →
      ((q.filter entryIsKeyed).length < 64 → QueuedBehind (.keyed kind subject 1 clock clock result) q r) ∧
      (64 ≤ (q.filter entryIsKeyed).length →
        ((∀ e ∈ q, entryIsKeyed e = true) → QueuedBehind (.overflow 1) q r) ∧
        ((∃ e ∈ q, entryIsKeyed e = false) → r.length = q.length ∧ ∀ (i : Nat) (e : NoticeEntry), q[i]? = some e →
          (entryIsKeyed e = true → r[i]? = some e) ∧ ∀ n, e = .overflow n → r[i]? = some (.overflow (n + 1))))) ∧
    (q.Pairwise (fun x y => entryPriority x ≤ entryPriority y) →
      r.Pairwise (fun x y => entryPriority x ≤ entryPriority y))) ∧
  (∀ (h : MgmtHeader) (s : State), Taken h s.block → exec (.clearNotices h) s =
    s.answers h .done { s.block with mgmt := { s.block.mgmt with notices := [] } }) ∧
  ∀ s : State,
    (s.block.mgmt.collector = none ∨ s.block.mgmt.notices = [] → exec .noticeSend s = s.becomes s.block) ∧
    ∀ a e rest c, s.block.mgmt.collector = some a → s.block.mgmt.notices = e :: rest →
      c = { s.block with mgmt := { s.block.mgmt with notices := rest } } →
      (inRange (gatewayOf s.block .office) a = true →
        (neighbour s.block .office a = none → exec .noticeSend s = s.becomes s.block) ∧
        ∀ p, neighbour s.block .office a = some p → exec .noticeSend s = s.becomes
          (if (s.block.fwd.ports.get p.2.port).up = true then
            emit (.lan p.2.port (BitVec.ofNat 48 (keyHw p.1)) s.block.fwd.hwAddress none
              (.mgmt (gatewayOf s.block .office).address a (MgmtReply.mk 0 (.notice e)))) c
          else c)) ∧
      ((∀ d, inRange (gatewayOf s.block d) a = false) →
        (s.block.line.up = true →
          classBytes s.block .management + uplinkBytes (.management (MgmtReply.mk 0 (.notice e))) ≤ 16384 →
          exec .noticeSend s = s.becomes { c with line := { c.line with classes := (c.line.classes.set 1
            (c.line.classes.get 1 ++ [.management (MgmtReply.mk 0 (.notice e))])) } }) ∧
        (s.block.line.up = false ∨
            16384 < classBytes s.block .management + uplinkBytes (.management (MgmtReply.mk 0 (.notice e))) →
          exec .noticeSend s = s.becomes s.block))

/-- R190, R191: SAVE_SETTINGS, SAVE_COMPLETE, and the cold restart by its three causes: every stored setting comes from a
good image, or takes its default, and a restart during a save leaves the image INVALID. Whether an image passes its check
is a free value for each check (log 50); a completion without a save is no event (log 3). -/
def Obligations.AColdRestartLoadsWhatASaveCompleted : Prop :=
  (∀ (h : MgmtHeader) (s : State), Taken h s.block →
    (s.block.mgmt.save ≠ none → exec (.saveSettings h) s = s.answers h (.refusal .busy none) s.block) ∧
    (s.block.mgmt.save = none → exec (.saveSettings h) s = s.answers h .done { s.block with
      mgmt := { s.block.mgmt with save := some (SaveInProgress.mk (storedSettings s.block) 2000) } })) ∧
  (∀ s : State,
    (s.block.mgmt.save = none → exec .saveComplete s = s.becomes s.block) ∧
    ∀ x, s.block.mgmt.save = some x → exec .saveComplete s = s.becomes (notice .settingsSaved .flash
      { s.block with mgmt := { s.block.mgmt with
        flash := some x.copy
        flashSound := true
        save := none } })) ∧
  (∀ s : State, exec .powerUp s = s.becomes (coldRestart s.block) ∧
    exec (.resetLine false) s =
      s.becomes (coldRestart { s.block with pins := { s.block.pins with retain := false } }) ∧
    ∀ h, Taken h s.block → exec (.coldRestart h) s = s.becomes (coldRestart s.block)) ∧
  ∀ b c : Block, c = coldRestart b →
    c.mgmt.flash = (if b.mgmt.save = none then b.mgmt.flash else none) ∧
    c.mgmt.checks = b.mgmt.checks + 1 ∧
    (c.mgmt.flashSound = true ↔ b.mgmt.flashSound = true ∧ Config.imagePasses b.mgmt.checks = true) ∧
    (∀ x, b.mgmt.save = none → c.mgmt.flashSound = true → b.mgmt.flash = some x →
      storedSettings c = x ∧ c.mgmt.notices = []) ∧
    (b.mgmt.save ≠ none ∨ c.mgmt.flashSound = false ∨ b.mgmt.flash = none →
      storedSettings c = defaultSettings ∧ c.mgmt.notices = [.keyed .settingsDefaulted .flash 1 none none none]) ∧
    c.price.masks = PriceMasks.mk true false false true ∧
    c.mgmt.save = none ∧ c.mgmt.storeWindow = none ∧ c.mgmt.officeWindow = none ∧ c.mgmt.writes = [] ∧
    (∀ k, counterValue c k = 0) ∧
    c.mode.mode = .closed ∧ c.mode.drain = none ∧ c.mode.clock = none ∧ c.mode.window = .shut ∧
    c.items.table = [] ∧ c.items.pending = [] ∧ c.labels.table = [] ∧ c.labels.handoffs = [] ∧
    c.labels.templateHandoffs = [] ∧ c.labels.sweep = none ∧ c.composer.buffer = [] ∧ c.composer.style = [] ∧
    c.radio.slot = 0 ∧ c.radio.cycle = 0 ∧ c.radio.plan = [] ∧ c.radio.channel = c.radio.settings.channel ∧
    (∀ x, c.till.records.get x = TillRecord.mk .unregistered none none none 0 none) ∧ c.till.journal = [] ∧
    c.till.nextNumber = 1 ∧ c.till.ackTimer = none ∧ c.till.fullFlag = false ∧ c.till.highFlag = false ∧
    c.fwd.addresses = [] ∧ c.fwd.full = false ∧ (∀ p, (c.fwd.ports.get p).up = false) ∧
    c.guest.sessions = [] ∧ c.guest.full = false ∧ c.guest.level = 4 ∧ c.guest.tokens = 524288 ∧
    c.line.up = false ∧ c.line.loopback = .off ∧ c.line.qual = none ∧ c.line.result = none ∧ c.line.wait = [] ∧
    (∀ k, classFrames c k = []) ∧
    c.exch.state = .idle ∧ c.exch.last = 0 ∧ c.exch.stored = none ∧ c.exch.hold = none ∧ c.exch.held = [] ∧
    c.exch.staging = none ∧ c.pins = b.pins ∧ c.out = b.out ∧ c.fwd.hwAddress = b.fwd.hwAddress

/-- R7, R51, R74, R75, R107, R126, R143, R158, R172, R183, R191: the warm restart by its two causes, block by block; the
order of the blocks is the model's (log 30), as are the times of the first periodic events after it (log 6), the retargets
that wait kept over it (log 29), the ascending order in which labels IN_FLIGHT join their queues (log 53), the stored target
that a label IN_FLIGHT keeps (log 61), a due ALIVE that is dropped (log 28), and the old slot's budget kept until the first
beacon (log 55). -/
def Obligations.AWarmRestartKeepsWhatEachBlockKeeps : Prop :=
  (∀ s : State, exec (.resetLine true) s =
      s.becomes (warmRestart { s.block with pins := { s.block.pins with retain := true } }) ∧
    ∀ h, Taken h s.block → exec (.warmRestart h) s = s.becomes (warmRestart s.block)) ∧
  ∀ b c : Block, c = warmRestart b → tableSorted b.labels.table →
    c.price = b.price ∧ c.pins = b.pins ∧ c.out = b.out ∧ c.time = { b.time with toBeacon := 250 } ∧
    c.mode = (if b.mode.mode = .closing then { b.mode with mode := .closed, drain := none } else b.mode) ∧
    c.items.pending = b.items.pending ∧ c.labels.handoffs = b.labels.handoffs ∧
    c.labels.templateHandoffs = b.labels.templateHandoffs ∧
    c.labels.sweep = (if b.mode.mode = .closing then
        (if b.items.pending = [] then none else some (Sweep.mk b.items.pending 0))
      else b.labels.sweep.map (fun w => { w with cursor := 0 })) ∧
    (∀ id, getLabel b id = none → getLabel c id = none) ∧
    (∀ id l, getLabel b id = some l → ∃ m, getLabel c id = some m ∧
      m.heard = some ((b.radio.cycle + 1) % 65536) ∧ m.candidate = none ∧ m.present = l.present ∧
      m.lostCount = l.lostCount ∧ m.cls = l.cls ∧ m.lastTag = l.lastTag ∧ m.battery = l.battery ∧
      (l.state ≠ .inFlight → m = { l with heard := m.heard, candidate := none }) ∧
      (l.state = .inFlight → l.next = none → m.queued ≠ none ∧ m = { l with
        state := .uncertain, queued := m.queued, heard := m.heard, candidate := none }) ∧
      (l.state = .inFlight → m.next = none)) ∧
    c.composer = { b.composer with buffer := [], style := c.composer.style } ∧
    c.radio = { b.radio with
      slot := 0, cycle := (b.radio.cycle + 1) % 65536, fresh := true, plan := [], cursor := 0, taken := none } ∧
    c.till = { b.till with
      records := b.till.records.map (fun r => if r.state = .active then { r with timer := some 120000 } else r)
      sent := 0
      ackTimer := none
      fullFlag := false } ∧
    c.fwd = { b.fwd with addresses := [], full := false } ∧
    c.guest = { b.guest with sessions := [], full := false, level := 4, tokens := 524288 } ∧
    c.line = LineBlock.mk false none [] (Vector.replicate 6 []) [] [] .off none 1000 false [] none none b.line.runs ∧
    c.exch = { b.exch with state := .idle, staging := none, hold := none, held := [] } ∧
    c.counts = (if b.exch.state = .idle then b else bump .exchangeAborts b).counts ∧
    c.mgmt = { b.mgmt with
      storeWindow := none
      officeWindow := none
      writes := []
      flash := if b.mgmt.save = none then b.mgmt.flash else none
      save := none
      notices := c.mgmt.notices } ∧
    ((∀ id l, getLabel b id = some l → l.state ≠ .inFlight) →
      c.items = b.items ∧ c.composer.style = b.composer.style ∧ c.mgmt.notices =
        (if b.exch.state = .idle then id else noticeQueueAfter .exchangeAborted .exchange none b.mode.clock)
          ((if b.mode.mode = .closing then noticeQueueAfter .modeChanged (.mode .closed) none b.mode.clock else id) []))
end

