-- ==== Sys2Proof/Laws/State.lean ====
section
/-! SUPPORT. One lemma per part of the block for each elementary update, true by `rfl`: what it leaves alone, and what it
makes of the part it changes. Later proofs rewrite with them and unfold no record update. -/

namespace Sys2Proof.Machine

/-! ## Ops -/

@[simp] theorem bumpBy_mode (c : Counter) (n : Nat) (b : Block) : (bumpBy c n b).mode = b.mode := rfl
@[simp] theorem bumpBy_price (c : Counter) (n : Nat) (b : Block) : (bumpBy c n b).price = b.price := rfl
@[simp] theorem bumpBy_items (c : Counter) (n : Nat) (b : Block) : (bumpBy c n b).items = b.items := rfl
@[simp] theorem bumpBy_labels (c : Counter) (n : Nat) (b : Block) : (bumpBy c n b).labels = b.labels := rfl
@[simp] theorem bumpBy_composer (c : Counter) (n : Nat) (b : Block) : (bumpBy c n b).composer = b.composer := rfl
@[simp] theorem bumpBy_radio (c : Counter) (n : Nat) (b : Block) : (bumpBy c n b).radio = b.radio := rfl
@[simp] theorem bumpBy_till (c : Counter) (n : Nat) (b : Block) : (bumpBy c n b).till = b.till := rfl
@[simp] theorem bumpBy_fwd (c : Counter) (n : Nat) (b : Block) : (bumpBy c n b).fwd = b.fwd := rfl
@[simp] theorem bumpBy_guest (c : Counter) (n : Nat) (b : Block) : (bumpBy c n b).guest = b.guest := rfl
@[simp] theorem bumpBy_line (c : Counter) (n : Nat) (b : Block) : (bumpBy c n b).line = b.line := rfl
@[simp] theorem bumpBy_exch (c : Counter) (n : Nat) (b : Block) : (bumpBy c n b).exch = b.exch := rfl
@[simp] theorem bumpBy_mgmt (c : Counter) (n : Nat) (b : Block) : (bumpBy c n b).mgmt = b.mgmt := rfl
@[simp] theorem bumpBy_time (c : Counter) (n : Nat) (b : Block) : (bumpBy c n b).time = b.time := rfl
@[simp] theorem bumpBy_pins (c : Counter) (n : Nat) (b : Block) : (bumpBy c n b).pins = b.pins := rfl
@[simp] theorem bumpBy_out (c : Counter) (n : Nat) (b : Block) : (bumpBy c n b).out = b.out := rfl
@[simp] theorem bumpBy_counts (c : Counter) (n : Nat) (b : Block) :
    (bumpBy c n b).counts = b.counts.set (counterIndex c) (raisedBy n (b.counts.get (counterIndex c))) := rfl
@[simp] theorem emit_mode (o : Output) (b : Block) : (emit o b).mode = b.mode := rfl
@[simp] theorem emit_price (o : Output) (b : Block) : (emit o b).price = b.price := rfl
@[simp] theorem emit_items (o : Output) (b : Block) : (emit o b).items = b.items := rfl
@[simp] theorem emit_labels (o : Output) (b : Block) : (emit o b).labels = b.labels := rfl
@[simp] theorem emit_composer (o : Output) (b : Block) : (emit o b).composer = b.composer := rfl
@[simp] theorem emit_radio (o : Output) (b : Block) : (emit o b).radio = b.radio := rfl
@[simp] theorem emit_till (o : Output) (b : Block) : (emit o b).till = b.till := rfl
@[simp] theorem emit_fwd (o : Output) (b : Block) : (emit o b).fwd = b.fwd := rfl
@[simp] theorem emit_guest (o : Output) (b : Block) : (emit o b).guest = b.guest := rfl
@[simp] theorem emit_line (o : Output) (b : Block) : (emit o b).line = b.line := rfl
@[simp] theorem emit_exch (o : Output) (b : Block) : (emit o b).exch = b.exch := rfl
@[simp] theorem emit_mgmt (o : Output) (b : Block) : (emit o b).mgmt = b.mgmt := rfl
@[simp] theorem emit_counts (o : Output) (b : Block) : (emit o b).counts = b.counts := rfl
@[simp] theorem emit_time (o : Output) (b : Block) : (emit o b).time = b.time := rfl
@[simp] theorem emit_pins (o : Output) (b : Block) : (emit o b).pins = b.pins := rfl
@[simp] theorem emit_out (o : Output) (b : Block) :
    (emit o b).out = b.out ++ [o] := rfl
@[simp] theorem noticeWith_mode (kind : NoticeKind) (subject : NoticeSubject) (result : Option QualClass) (b : Block) : (noticeWith kind subject result b).mode = b.mode := rfl
@[simp] theorem noticeWith_price (kind : NoticeKind) (subject : NoticeSubject) (result : Option QualClass) (b : Block) : (noticeWith kind subject result b).price = b.price := rfl
@[simp] theorem noticeWith_items (kind : NoticeKind) (subject : NoticeSubject) (result : Option QualClass) (b : Block) : (noticeWith kind subject result b).items = b.items := rfl
@[simp] theorem noticeWith_labels (kind : NoticeKind) (subject : NoticeSubject) (result : Option QualClass) (b : Block) : (noticeWith kind subject result b).labels = b.labels := rfl
@[simp] theorem noticeWith_composer (kind : NoticeKind) (subject : NoticeSubject) (result : Option QualClass) (b : Block) : (noticeWith kind subject result b).composer = b.composer := rfl
@[simp] theorem noticeWith_radio (kind : NoticeKind) (subject : NoticeSubject) (result : Option QualClass) (b : Block) : (noticeWith kind subject result b).radio = b.radio := rfl
@[simp] theorem noticeWith_till (kind : NoticeKind) (subject : NoticeSubject) (result : Option QualClass) (b : Block) : (noticeWith kind subject result b).till = b.till := rfl
@[simp] theorem noticeWith_fwd (kind : NoticeKind) (subject : NoticeSubject) (result : Option QualClass) (b : Block) : (noticeWith kind subject result b).fwd = b.fwd := rfl
@[simp] theorem noticeWith_guest (kind : NoticeKind) (subject : NoticeSubject) (result : Option QualClass) (b : Block) : (noticeWith kind subject result b).guest = b.guest := rfl
@[simp] theorem noticeWith_line (kind : NoticeKind) (subject : NoticeSubject) (result : Option QualClass) (b : Block) : (noticeWith kind subject result b).line = b.line := rfl
@[simp] theorem noticeWith_exch (kind : NoticeKind) (subject : NoticeSubject) (result : Option QualClass) (b : Block) : (noticeWith kind subject result b).exch = b.exch := rfl
@[simp] theorem noticeWith_counts (kind : NoticeKind) (subject : NoticeSubject) (result : Option QualClass) (b : Block) : (noticeWith kind subject result b).counts = b.counts := rfl
@[simp] theorem noticeWith_time (kind : NoticeKind) (subject : NoticeSubject) (result : Option QualClass) (b : Block) : (noticeWith kind subject result b).time = b.time := rfl
@[simp] theorem noticeWith_pins (kind : NoticeKind) (subject : NoticeSubject) (result : Option QualClass) (b : Block) : (noticeWith kind subject result b).pins = b.pins := rfl
@[simp] theorem noticeWith_out (kind : NoticeKind) (subject : NoticeSubject) (result : Option QualClass) (b : Block) : (noticeWith kind subject result b).out = b.out := rfl
@[simp] theorem noticeWith_mgmt (kind : NoticeKind) (subject : NoticeSubject) (result : Option QualClass) (b : Block) :
    (noticeWith kind subject result b).mgmt = { b.mgmt with notices := noticeQueueAfter kind subject result b.mode.clock b.mgmt.notices } := rfl
@[simp] theorem setClass_mode (c : UplinkClass) (frames : List UplinkContent) (b : Block) : (setClass c frames b).mode = b.mode := rfl
@[simp] theorem setClass_price (c : UplinkClass) (frames : List UplinkContent) (b : Block) : (setClass c frames b).price = b.price := rfl
@[simp] theorem setClass_items (c : UplinkClass) (frames : List UplinkContent) (b : Block) : (setClass c frames b).items = b.items := rfl
@[simp] theorem setClass_labels (c : UplinkClass) (frames : List UplinkContent) (b : Block) : (setClass c frames b).labels = b.labels := rfl
@[simp] theorem setClass_composer (c : UplinkClass) (frames : List UplinkContent) (b : Block) : (setClass c frames b).composer = b.composer := rfl
@[simp] theorem setClass_radio (c : UplinkClass) (frames : List UplinkContent) (b : Block) : (setClass c frames b).radio = b.radio := rfl
@[simp] theorem setClass_till (c : UplinkClass) (frames : List UplinkContent) (b : Block) : (setClass c frames b).till = b.till := rfl
@[simp] theorem setClass_fwd (c : UplinkClass) (frames : List UplinkContent) (b : Block) : (setClass c frames b).fwd = b.fwd := rfl
@[simp] theorem setClass_guest (c : UplinkClass) (frames : List UplinkContent) (b : Block) : (setClass c frames b).guest = b.guest := rfl
@[simp] theorem setClass_exch (c : UplinkClass) (frames : List UplinkContent) (b : Block) : (setClass c frames b).exch = b.exch := rfl
@[simp] theorem setClass_mgmt (c : UplinkClass) (frames : List UplinkContent) (b : Block) : (setClass c frames b).mgmt = b.mgmt := rfl
@[simp] theorem setClass_counts (c : UplinkClass) (frames : List UplinkContent) (b : Block) : (setClass c frames b).counts = b.counts := rfl
@[simp] theorem setClass_time (c : UplinkClass) (frames : List UplinkContent) (b : Block) : (setClass c frames b).time = b.time := rfl
@[simp] theorem setClass_pins (c : UplinkClass) (frames : List UplinkContent) (b : Block) : (setClass c frames b).pins = b.pins := rfl
@[simp] theorem setClass_out (c : UplinkClass) (frames : List UplinkContent) (b : Block) : (setClass c frames b).out = b.out := rfl
@[simp] theorem setClass_line (c : UplinkClass) (frames : List UplinkContent) (b : Block) :
    (setClass c frames b).line = { b.line with classes := b.line.classes.set (classIndex c) frames } := rfl
@[simp] theorem senderServed_mode (x : ExchangeSender) (b : Block) : (senderServed x b).mode = b.mode := rfl
@[simp] theorem senderServed_price (x : ExchangeSender) (b : Block) : (senderServed x b).price = b.price := rfl
@[simp] theorem senderServed_items (x : ExchangeSender) (b : Block) : (senderServed x b).items = b.items := rfl
@[simp] theorem senderServed_labels (x : ExchangeSender) (b : Block) : (senderServed x b).labels = b.labels := rfl
@[simp] theorem senderServed_composer (x : ExchangeSender) (b : Block) : (senderServed x b).composer = b.composer := rfl
@[simp] theorem senderServed_radio (x : ExchangeSender) (b : Block) : (senderServed x b).radio = b.radio := rfl
@[simp] theorem senderServed_till (x : ExchangeSender) (b : Block) : (senderServed x b).till = b.till := rfl
@[simp] theorem senderServed_fwd (x : ExchangeSender) (b : Block) : (senderServed x b).fwd = b.fwd := rfl
@[simp] theorem senderServed_guest (x : ExchangeSender) (b : Block) : (senderServed x b).guest = b.guest := rfl
@[simp] theorem senderServed_exch (x : ExchangeSender) (b : Block) : (senderServed x b).exch = b.exch := rfl
@[simp] theorem senderServed_mgmt (x : ExchangeSender) (b : Block) : (senderServed x b).mgmt = b.mgmt := rfl
@[simp] theorem senderServed_counts (x : ExchangeSender) (b : Block) : (senderServed x b).counts = b.counts := rfl
@[simp] theorem senderServed_time (x : ExchangeSender) (b : Block) : (senderServed x b).time = b.time := rfl
@[simp] theorem senderServed_pins (x : ExchangeSender) (b : Block) : (senderServed x b).pins = b.pins := rfl
@[simp] theorem senderServed_out (x : ExchangeSender) (b : Block) : (senderServed x b).out = b.out := rfl
@[simp] theorem senderServed_line (x : ExchangeSender) (b : Block) :
    (senderServed x b).line = { b.line with refused := b.line.refused.filter (fun y => decide (y ≠ x)) } := rfl

/-! ## Items -/

@[simp] theorem putItem_mode (code : Nat) (i : Item) (b : Block) : (putItem code i b).mode = b.mode := rfl
@[simp] theorem putItem_price (code : Nat) (i : Item) (b : Block) : (putItem code i b).price = b.price := rfl
@[simp] theorem putItem_labels (code : Nat) (i : Item) (b : Block) : (putItem code i b).labels = b.labels := rfl
@[simp] theorem putItem_composer (code : Nat) (i : Item) (b : Block) : (putItem code i b).composer = b.composer := rfl
@[simp] theorem putItem_radio (code : Nat) (i : Item) (b : Block) : (putItem code i b).radio = b.radio := rfl
@[simp] theorem putItem_till (code : Nat) (i : Item) (b : Block) : (putItem code i b).till = b.till := rfl
@[simp] theorem putItem_fwd (code : Nat) (i : Item) (b : Block) : (putItem code i b).fwd = b.fwd := rfl
@[simp] theorem putItem_guest (code : Nat) (i : Item) (b : Block) : (putItem code i b).guest = b.guest := rfl
@[simp] theorem putItem_line (code : Nat) (i : Item) (b : Block) : (putItem code i b).line = b.line := rfl
@[simp] theorem putItem_exch (code : Nat) (i : Item) (b : Block) : (putItem code i b).exch = b.exch := rfl
@[simp] theorem putItem_mgmt (code : Nat) (i : Item) (b : Block) : (putItem code i b).mgmt = b.mgmt := rfl
@[simp] theorem putItem_counts (code : Nat) (i : Item) (b : Block) : (putItem code i b).counts = b.counts := rfl
@[simp] theorem putItem_time (code : Nat) (i : Item) (b : Block) : (putItem code i b).time = b.time := rfl
@[simp] theorem putItem_pins (code : Nat) (i : Item) (b : Block) : (putItem code i b).pins = b.pins := rfl
@[simp] theorem putItem_out (code : Nat) (i : Item) (b : Block) : (putItem code i b).out = b.out := rfl
@[simp] theorem putItem_items (code : Nat) (i : Item) (b : Block) :
    (putItem code i b).items = { b.items with table := tableInsert b.items.table code i } := rfl
@[simp] theorem handOn_mode (h : Handoff) (b : Block) : (handOn h b).mode = b.mode := rfl
@[simp] theorem handOn_price (h : Handoff) (b : Block) : (handOn h b).price = b.price := rfl
@[simp] theorem handOn_items (h : Handoff) (b : Block) : (handOn h b).items = b.items := rfl
@[simp] theorem handOn_composer (h : Handoff) (b : Block) : (handOn h b).composer = b.composer := rfl
@[simp] theorem handOn_radio (h : Handoff) (b : Block) : (handOn h b).radio = b.radio := rfl
@[simp] theorem handOn_till (h : Handoff) (b : Block) : (handOn h b).till = b.till := rfl
@[simp] theorem handOn_fwd (h : Handoff) (b : Block) : (handOn h b).fwd = b.fwd := rfl
@[simp] theorem handOn_guest (h : Handoff) (b : Block) : (handOn h b).guest = b.guest := rfl
@[simp] theorem handOn_line (h : Handoff) (b : Block) : (handOn h b).line = b.line := rfl
@[simp] theorem handOn_exch (h : Handoff) (b : Block) : (handOn h b).exch = b.exch := rfl
@[simp] theorem handOn_mgmt (h : Handoff) (b : Block) : (handOn h b).mgmt = b.mgmt := rfl
@[simp] theorem handOn_counts (h : Handoff) (b : Block) : (handOn h b).counts = b.counts := rfl
@[simp] theorem handOn_time (h : Handoff) (b : Block) : (handOn h b).time = b.time := rfl
@[simp] theorem handOn_pins (h : Handoff) (b : Block) : (handOn h b).pins = b.pins := rfl
@[simp] theorem handOn_out (h : Handoff) (b : Block) : (handOn h b).out = b.out := rfl
@[simp] theorem handOn_labels (h : Handoff) (b : Block) :
    (handOn h b).labels = { b.labels with handoffs := b.labels.handoffs ++ [h] } := rfl
@[simp] theorem joinPending_mode (code : Nat) (b : Block) : (joinPending code b).mode = b.mode := rfl
@[simp] theorem joinPending_price (code : Nat) (b : Block) : (joinPending code b).price = b.price := rfl
@[simp] theorem joinPending_labels (code : Nat) (b : Block) : (joinPending code b).labels = b.labels := rfl
@[simp] theorem joinPending_composer (code : Nat) (b : Block) : (joinPending code b).composer = b.composer := rfl
@[simp] theorem joinPending_radio (code : Nat) (b : Block) : (joinPending code b).radio = b.radio := rfl
@[simp] theorem joinPending_till (code : Nat) (b : Block) : (joinPending code b).till = b.till := rfl
@[simp] theorem joinPending_fwd (code : Nat) (b : Block) : (joinPending code b).fwd = b.fwd := rfl
@[simp] theorem joinPending_guest (code : Nat) (b : Block) : (joinPending code b).guest = b.guest := rfl
@[simp] theorem joinPending_line (code : Nat) (b : Block) : (joinPending code b).line = b.line := rfl
@[simp] theorem joinPending_exch (code : Nat) (b : Block) : (joinPending code b).exch = b.exch := rfl
@[simp] theorem joinPending_mgmt (code : Nat) (b : Block) : (joinPending code b).mgmt = b.mgmt := rfl
@[simp] theorem joinPending_counts (code : Nat) (b : Block) : (joinPending code b).counts = b.counts := rfl
@[simp] theorem joinPending_time (code : Nat) (b : Block) : (joinPending code b).time = b.time := rfl
@[simp] theorem joinPending_pins (code : Nat) (b : Block) : (joinPending code b).pins = b.pins := rfl
@[simp] theorem joinPending_out (code : Nat) (b : Block) : (joinPending code b).out = b.out := rfl
@[simp] theorem joinPending_items (code : Nat) (b : Block) :
    (joinPending code b).items = { b.items with pending := setAdd b.items.pending code } := rfl
@[simp] theorem leavePending_mode (code : Nat) (b : Block) : (leavePending code b).mode = b.mode := rfl
@[simp] theorem leavePending_price (code : Nat) (b : Block) : (leavePending code b).price = b.price := rfl
@[simp] theorem leavePending_labels (code : Nat) (b : Block) : (leavePending code b).labels = b.labels := rfl
@[simp] theorem leavePending_composer (code : Nat) (b : Block) : (leavePending code b).composer = b.composer := rfl
@[simp] theorem leavePending_radio (code : Nat) (b : Block) : (leavePending code b).radio = b.radio := rfl
@[simp] theorem leavePending_till (code : Nat) (b : Block) : (leavePending code b).till = b.till := rfl
@[simp] theorem leavePending_fwd (code : Nat) (b : Block) : (leavePending code b).fwd = b.fwd := rfl
@[simp] theorem leavePending_guest (code : Nat) (b : Block) : (leavePending code b).guest = b.guest := rfl
@[simp] theorem leavePending_line (code : Nat) (b : Block) : (leavePending code b).line = b.line := rfl
@[simp] theorem leavePending_exch (code : Nat) (b : Block) : (leavePending code b).exch = b.exch := rfl
@[simp] theorem leavePending_mgmt (code : Nat) (b : Block) : (leavePending code b).mgmt = b.mgmt := rfl
@[simp] theorem leavePending_counts (code : Nat) (b : Block) : (leavePending code b).counts = b.counts := rfl
@[simp] theorem leavePending_time (code : Nat) (b : Block) : (leavePending code b).time = b.time := rfl
@[simp] theorem leavePending_pins (code : Nat) (b : Block) : (leavePending code b).pins = b.pins := rfl
@[simp] theorem leavePending_out (code : Nat) (b : Block) : (leavePending code b).out = b.out := rfl
@[simp] theorem leavePending_items (code : Nat) (b : Block) :
    (leavePending code b).items = { b.items with pending := listRemove b.items.pending code } := rfl
@[simp] theorem beginSweep_mode (l : List Nat) (b : Block) : (beginSweep l b).mode = b.mode := rfl
@[simp] theorem beginSweep_price (l : List Nat) (b : Block) : (beginSweep l b).price = b.price := rfl
@[simp] theorem beginSweep_items (l : List Nat) (b : Block) : (beginSweep l b).items = b.items := rfl
@[simp] theorem beginSweep_composer (l : List Nat) (b : Block) : (beginSweep l b).composer = b.composer := rfl
@[simp] theorem beginSweep_radio (l : List Nat) (b : Block) : (beginSweep l b).radio = b.radio := rfl
@[simp] theorem beginSweep_till (l : List Nat) (b : Block) : (beginSweep l b).till = b.till := rfl
@[simp] theorem beginSweep_fwd (l : List Nat) (b : Block) : (beginSweep l b).fwd = b.fwd := rfl
@[simp] theorem beginSweep_guest (l : List Nat) (b : Block) : (beginSweep l b).guest = b.guest := rfl
@[simp] theorem beginSweep_line (l : List Nat) (b : Block) : (beginSweep l b).line = b.line := rfl
@[simp] theorem beginSweep_exch (l : List Nat) (b : Block) : (beginSweep l b).exch = b.exch := rfl
@[simp] theorem beginSweep_mgmt (l : List Nat) (b : Block) : (beginSweep l b).mgmt = b.mgmt := rfl
@[simp] theorem beginSweep_counts (l : List Nat) (b : Block) : (beginSweep l b).counts = b.counts := rfl
@[simp] theorem beginSweep_time (l : List Nat) (b : Block) : (beginSweep l b).time = b.time := rfl
@[simp] theorem beginSweep_pins (l : List Nat) (b : Block) : (beginSweep l b).pins = b.pins := rfl
@[simp] theorem beginSweep_out (l : List Nat) (b : Block) : (beginSweep l b).out = b.out := rfl
@[simp] theorem beginSweep_labels (l : List Nat) (b : Block) :
    (beginSweep l b).labels = { b.labels with sweep := if l.isEmpty then none else some (Sweep.mk l 0) } := rfl

/-! ## Directory -/

@[simp] theorem putLabel_mode (id : Nat) (l : Label) (b : Block) : (putLabel id l b).mode = b.mode := rfl
@[simp] theorem putLabel_price (id : Nat) (l : Label) (b : Block) : (putLabel id l b).price = b.price := rfl
@[simp] theorem putLabel_items (id : Nat) (l : Label) (b : Block) : (putLabel id l b).items = b.items := rfl
@[simp] theorem putLabel_composer (id : Nat) (l : Label) (b : Block) : (putLabel id l b).composer = b.composer := rfl
@[simp] theorem putLabel_radio (id : Nat) (l : Label) (b : Block) : (putLabel id l b).radio = b.radio := rfl
@[simp] theorem putLabel_till (id : Nat) (l : Label) (b : Block) : (putLabel id l b).till = b.till := rfl
@[simp] theorem putLabel_fwd (id : Nat) (l : Label) (b : Block) : (putLabel id l b).fwd = b.fwd := rfl
@[simp] theorem putLabel_guest (id : Nat) (l : Label) (b : Block) : (putLabel id l b).guest = b.guest := rfl
@[simp] theorem putLabel_line (id : Nat) (l : Label) (b : Block) : (putLabel id l b).line = b.line := rfl
@[simp] theorem putLabel_exch (id : Nat) (l : Label) (b : Block) : (putLabel id l b).exch = b.exch := rfl
@[simp] theorem putLabel_mgmt (id : Nat) (l : Label) (b : Block) : (putLabel id l b).mgmt = b.mgmt := rfl
@[simp] theorem putLabel_counts (id : Nat) (l : Label) (b : Block) : (putLabel id l b).counts = b.counts := rfl
@[simp] theorem putLabel_time (id : Nat) (l : Label) (b : Block) : (putLabel id l b).time = b.time := rfl
@[simp] theorem putLabel_pins (id : Nat) (l : Label) (b : Block) : (putLabel id l b).pins = b.pins := rfl
@[simp] theorem putLabel_out (id : Nat) (l : Label) (b : Block) : (putLabel id l b).out = b.out := rfl
@[simp] theorem putLabel_labels (id : Nat) (l : Label) (b : Block) :
    (putLabel id l b).labels = { b.labels with table := tableInsert b.labels.table id l } := rfl
@[simp] theorem leaveStyle_mode (id : Nat) (b : Block) : (leaveStyle id b).mode = b.mode := rfl
@[simp] theorem leaveStyle_price (id : Nat) (b : Block) : (leaveStyle id b).price = b.price := rfl
@[simp] theorem leaveStyle_items (id : Nat) (b : Block) : (leaveStyle id b).items = b.items := rfl
@[simp] theorem leaveStyle_labels (id : Nat) (b : Block) : (leaveStyle id b).labels = b.labels := rfl
@[simp] theorem leaveStyle_radio (id : Nat) (b : Block) : (leaveStyle id b).radio = b.radio := rfl
@[simp] theorem leaveStyle_till (id : Nat) (b : Block) : (leaveStyle id b).till = b.till := rfl
@[simp] theorem leaveStyle_fwd (id : Nat) (b : Block) : (leaveStyle id b).fwd = b.fwd := rfl
@[simp] theorem leaveStyle_guest (id : Nat) (b : Block) : (leaveStyle id b).guest = b.guest := rfl
@[simp] theorem leaveStyle_line (id : Nat) (b : Block) : (leaveStyle id b).line = b.line := rfl
@[simp] theorem leaveStyle_exch (id : Nat) (b : Block) : (leaveStyle id b).exch = b.exch := rfl
@[simp] theorem leaveStyle_mgmt (id : Nat) (b : Block) : (leaveStyle id b).mgmt = b.mgmt := rfl
@[simp] theorem leaveStyle_counts (id : Nat) (b : Block) : (leaveStyle id b).counts = b.counts := rfl
@[simp] theorem leaveStyle_time (id : Nat) (b : Block) : (leaveStyle id b).time = b.time := rfl
@[simp] theorem leaveStyle_pins (id : Nat) (b : Block) : (leaveStyle id b).pins = b.pins := rfl
@[simp] theorem leaveStyle_out (id : Nat) (b : Block) : (leaveStyle id b).out = b.out := rfl
@[simp] theorem leaveStyle_composer (id : Nat) (b : Block) :
    (leaveStyle id b).composer = { b.composer with style := listRemove b.composer.style id } := rfl

/-! ## Composer -/

@[simp] theorem emptyStyle_mode (b : Block) : (emptyStyle b).mode = b.mode := rfl
@[simp] theorem emptyStyle_price (b : Block) : (emptyStyle b).price = b.price := rfl
@[simp] theorem emptyStyle_items (b : Block) : (emptyStyle b).items = b.items := rfl
@[simp] theorem emptyStyle_labels (b : Block) : (emptyStyle b).labels = b.labels := rfl
@[simp] theorem emptyStyle_radio (b : Block) : (emptyStyle b).radio = b.radio := rfl
@[simp] theorem emptyStyle_till (b : Block) : (emptyStyle b).till = b.till := rfl
@[simp] theorem emptyStyle_fwd (b : Block) : (emptyStyle b).fwd = b.fwd := rfl
@[simp] theorem emptyStyle_guest (b : Block) : (emptyStyle b).guest = b.guest := rfl
@[simp] theorem emptyStyle_line (b : Block) : (emptyStyle b).line = b.line := rfl
@[simp] theorem emptyStyle_exch (b : Block) : (emptyStyle b).exch = b.exch := rfl
@[simp] theorem emptyStyle_mgmt (b : Block) : (emptyStyle b).mgmt = b.mgmt := rfl
@[simp] theorem emptyStyle_counts (b : Block) : (emptyStyle b).counts = b.counts := rfl
@[simp] theorem emptyStyle_time (b : Block) : (emptyStyle b).time = b.time := rfl
@[simp] theorem emptyStyle_pins (b : Block) : (emptyStyle b).pins = b.pins := rfl
@[simp] theorem emptyStyle_out (b : Block) : (emptyStyle b).out = b.out := rfl
@[simp] theorem emptyStyle_composer (b : Block) :
    (emptyStyle b).composer = { b.composer with style := [] } := rfl

/-! ## Radio -/

@[simp] theorem recordOutcome_mode (o : RadioOutcome) (b : Block) : (recordOutcome o b).mode = b.mode := rfl
@[simp] theorem recordOutcome_price (o : RadioOutcome) (b : Block) : (recordOutcome o b).price = b.price := rfl
@[simp] theorem recordOutcome_items (o : RadioOutcome) (b : Block) : (recordOutcome o b).items = b.items := rfl
@[simp] theorem recordOutcome_labels (o : RadioOutcome) (b : Block) : (recordOutcome o b).labels = b.labels := rfl
@[simp] theorem recordOutcome_composer (o : RadioOutcome) (b : Block) : (recordOutcome o b).composer = b.composer := rfl
@[simp] theorem recordOutcome_till (o : RadioOutcome) (b : Block) : (recordOutcome o b).till = b.till := rfl
@[simp] theorem recordOutcome_fwd (o : RadioOutcome) (b : Block) : (recordOutcome o b).fwd = b.fwd := rfl
@[simp] theorem recordOutcome_guest (o : RadioOutcome) (b : Block) : (recordOutcome o b).guest = b.guest := rfl
@[simp] theorem recordOutcome_line (o : RadioOutcome) (b : Block) : (recordOutcome o b).line = b.line := rfl
@[simp] theorem recordOutcome_exch (o : RadioOutcome) (b : Block) : (recordOutcome o b).exch = b.exch := rfl
@[simp] theorem recordOutcome_mgmt (o : RadioOutcome) (b : Block) : (recordOutcome o b).mgmt = b.mgmt := rfl
@[simp] theorem recordOutcome_counts (o : RadioOutcome) (b : Block) : (recordOutcome o b).counts = b.counts := rfl
@[simp] theorem recordOutcome_time (o : RadioOutcome) (b : Block) : (recordOutcome o b).time = b.time := rfl
@[simp] theorem recordOutcome_pins (o : RadioOutcome) (b : Block) : (recordOutcome o b).pins = b.pins := rfl
@[simp] theorem recordOutcome_out (o : RadioOutcome) (b : Block) : (recordOutcome o b).out = b.out := rfl
@[simp] theorem recordOutcome_radio (o : RadioOutcome) (b : Block) :
    (recordOutcome o b).radio = { b.radio with plan := b.radio.plan.modify b.radio.cursor (fun e => { e with outcome := some o }), cursor := b.radio.cursor + 1, taken := none } := rfl
@[simp] theorem bufferUpdate_mode (id : Nat) (bytes : List Byte) (b : Block) : (bufferUpdate id bytes b).mode = b.mode := rfl
@[simp] theorem bufferUpdate_price (id : Nat) (bytes : List Byte) (b : Block) : (bufferUpdate id bytes b).price = b.price := rfl
@[simp] theorem bufferUpdate_items (id : Nat) (bytes : List Byte) (b : Block) : (bufferUpdate id bytes b).items = b.items := rfl
@[simp] theorem bufferUpdate_labels (id : Nat) (bytes : List Byte) (b : Block) : (bufferUpdate id bytes b).labels = b.labels := rfl
@[simp] theorem bufferUpdate_radio (id : Nat) (bytes : List Byte) (b : Block) : (bufferUpdate id bytes b).radio = b.radio := rfl
@[simp] theorem bufferUpdate_till (id : Nat) (bytes : List Byte) (b : Block) : (bufferUpdate id bytes b).till = b.till := rfl
@[simp] theorem bufferUpdate_fwd (id : Nat) (bytes : List Byte) (b : Block) : (bufferUpdate id bytes b).fwd = b.fwd := rfl
@[simp] theorem bufferUpdate_guest (id : Nat) (bytes : List Byte) (b : Block) : (bufferUpdate id bytes b).guest = b.guest := rfl
@[simp] theorem bufferUpdate_line (id : Nat) (bytes : List Byte) (b : Block) : (bufferUpdate id bytes b).line = b.line := rfl
@[simp] theorem bufferUpdate_exch (id : Nat) (bytes : List Byte) (b : Block) : (bufferUpdate id bytes b).exch = b.exch := rfl
@[simp] theorem bufferUpdate_mgmt (id : Nat) (bytes : List Byte) (b : Block) : (bufferUpdate id bytes b).mgmt = b.mgmt := rfl
@[simp] theorem bufferUpdate_counts (id : Nat) (bytes : List Byte) (b : Block) : (bufferUpdate id bytes b).counts = b.counts := rfl
@[simp] theorem bufferUpdate_time (id : Nat) (bytes : List Byte) (b : Block) : (bufferUpdate id bytes b).time = b.time := rfl
@[simp] theorem bufferUpdate_pins (id : Nat) (bytes : List Byte) (b : Block) : (bufferUpdate id bytes b).pins = b.pins := rfl
@[simp] theorem bufferUpdate_out (id : Nat) (bytes : List Byte) (b : Block) : (bufferUpdate id bytes b).out = b.out := rfl
@[simp] theorem bufferUpdate_composer (id : Nat) (bytes : List Byte) (b : Block) :
    (bufferUpdate id bytes b).composer = { b.composer with buffer := b.composer.buffer ++ [BufferedUpdate.mk id bytes] } := rfl

/-! ## Till -/

@[simp] theorem addEntries_mode (es : List JournalEntry) (b : Block) : (addEntries es b).mode = b.mode := rfl
@[simp] theorem addEntries_price (es : List JournalEntry) (b : Block) : (addEntries es b).price = b.price := rfl
@[simp] theorem addEntries_items (es : List JournalEntry) (b : Block) : (addEntries es b).items = b.items := rfl
@[simp] theorem addEntries_labels (es : List JournalEntry) (b : Block) : (addEntries es b).labels = b.labels := rfl
@[simp] theorem addEntries_composer (es : List JournalEntry) (b : Block) : (addEntries es b).composer = b.composer := rfl
@[simp] theorem addEntries_radio (es : List JournalEntry) (b : Block) : (addEntries es b).radio = b.radio := rfl
@[simp] theorem addEntries_fwd (es : List JournalEntry) (b : Block) : (addEntries es b).fwd = b.fwd := rfl
@[simp] theorem addEntries_guest (es : List JournalEntry) (b : Block) : (addEntries es b).guest = b.guest := rfl
@[simp] theorem addEntries_line (es : List JournalEntry) (b : Block) : (addEntries es b).line = b.line := rfl
@[simp] theorem addEntries_exch (es : List JournalEntry) (b : Block) : (addEntries es b).exch = b.exch := rfl
@[simp] theorem addEntries_mgmt (es : List JournalEntry) (b : Block) : (addEntries es b).mgmt = b.mgmt := rfl
@[simp] theorem addEntries_counts (es : List JournalEntry) (b : Block) : (addEntries es b).counts = b.counts := rfl
@[simp] theorem addEntries_time (es : List JournalEntry) (b : Block) : (addEntries es b).time = b.time := rfl
@[simp] theorem addEntries_pins (es : List JournalEntry) (b : Block) : (addEntries es b).pins = b.pins := rfl
@[simp] theorem addEntries_out (es : List JournalEntry) (b : Block) : (addEntries es b).out = b.out := rfl
@[simp] theorem addEntries_till (es : List JournalEntry) (b : Block) :
    (addEntries es b).till = { b.till with journal := b.till.journal ++ es, nextNumber := (b.till.nextNumber + es.length) % 4294967296, fullFlag := false } := rfl
@[simp] theorem markSent_mode (n : Nat) (b : Block) : (markSent n b).mode = b.mode := rfl
@[simp] theorem markSent_price (n : Nat) (b : Block) : (markSent n b).price = b.price := rfl
@[simp] theorem markSent_items (n : Nat) (b : Block) : (markSent n b).items = b.items := rfl
@[simp] theorem markSent_labels (n : Nat) (b : Block) : (markSent n b).labels = b.labels := rfl
@[simp] theorem markSent_composer (n : Nat) (b : Block) : (markSent n b).composer = b.composer := rfl
@[simp] theorem markSent_radio (n : Nat) (b : Block) : (markSent n b).radio = b.radio := rfl
@[simp] theorem markSent_fwd (n : Nat) (b : Block) : (markSent n b).fwd = b.fwd := rfl
@[simp] theorem markSent_guest (n : Nat) (b : Block) : (markSent n b).guest = b.guest := rfl
@[simp] theorem markSent_line (n : Nat) (b : Block) : (markSent n b).line = b.line := rfl
@[simp] theorem markSent_exch (n : Nat) (b : Block) : (markSent n b).exch = b.exch := rfl
@[simp] theorem markSent_mgmt (n : Nat) (b : Block) : (markSent n b).mgmt = b.mgmt := rfl
@[simp] theorem markSent_counts (n : Nat) (b : Block) : (markSent n b).counts = b.counts := rfl
@[simp] theorem markSent_time (n : Nat) (b : Block) : (markSent n b).time = b.time := rfl
@[simp] theorem markSent_pins (n : Nat) (b : Block) : (markSent n b).pins = b.pins := rfl
@[simp] theorem markSent_out (n : Nat) (b : Block) : (markSent n b).out = b.out := rfl
@[simp] theorem markSent_till (n : Nat) (b : Block) :
    (markSent n b).till = { b.till with sent := b.till.sent + n, ackTimer := if b.till.sent = 0 then some ackPeriod else b.till.ackTimer } := rfl
@[simp] theorem removeAcked_mode (n : Nat) (b : Block) : (removeAcked n b).mode = b.mode := rfl
@[simp] theorem removeAcked_price (n : Nat) (b : Block) : (removeAcked n b).price = b.price := rfl
@[simp] theorem removeAcked_items (n : Nat) (b : Block) : (removeAcked n b).items = b.items := rfl
@[simp] theorem removeAcked_labels (n : Nat) (b : Block) : (removeAcked n b).labels = b.labels := rfl
@[simp] theorem removeAcked_composer (n : Nat) (b : Block) : (removeAcked n b).composer = b.composer := rfl
@[simp] theorem removeAcked_radio (n : Nat) (b : Block) : (removeAcked n b).radio = b.radio := rfl
@[simp] theorem removeAcked_fwd (n : Nat) (b : Block) : (removeAcked n b).fwd = b.fwd := rfl
@[simp] theorem removeAcked_guest (n : Nat) (b : Block) : (removeAcked n b).guest = b.guest := rfl
@[simp] theorem removeAcked_line (n : Nat) (b : Block) : (removeAcked n b).line = b.line := rfl
@[simp] theorem removeAcked_exch (n : Nat) (b : Block) : (removeAcked n b).exch = b.exch := rfl
@[simp] theorem removeAcked_mgmt (n : Nat) (b : Block) : (removeAcked n b).mgmt = b.mgmt := rfl
@[simp] theorem removeAcked_counts (n : Nat) (b : Block) : (removeAcked n b).counts = b.counts := rfl
@[simp] theorem removeAcked_time (n : Nat) (b : Block) : (removeAcked n b).time = b.time := rfl
@[simp] theorem removeAcked_pins (n : Nat) (b : Block) : (removeAcked n b).pins = b.pins := rfl
@[simp] theorem removeAcked_out (n : Nat) (b : Block) : (removeAcked n b).out = b.out := rfl
@[simp] theorem removeAcked_till (n : Nat) (b : Block) :
    (removeAcked n b).till = { b.till with journal := b.till.journal.drop n, sent := b.till.sent - n, ackTimer := if b.till.sent - n = 0 then none else some ackPeriod, highFlag := highFlagAfterRemoval b.till.highFlag (b.till.journal.drop n).length } := rfl
@[simp] theorem revertSent_mode (b : Block) : (revertSent b).mode = b.mode := rfl
@[simp] theorem revertSent_price (b : Block) : (revertSent b).price = b.price := rfl
@[simp] theorem revertSent_items (b : Block) : (revertSent b).items = b.items := rfl
@[simp] theorem revertSent_labels (b : Block) : (revertSent b).labels = b.labels := rfl
@[simp] theorem revertSent_composer (b : Block) : (revertSent b).composer = b.composer := rfl
@[simp] theorem revertSent_radio (b : Block) : (revertSent b).radio = b.radio := rfl
@[simp] theorem revertSent_fwd (b : Block) : (revertSent b).fwd = b.fwd := rfl
@[simp] theorem revertSent_guest (b : Block) : (revertSent b).guest = b.guest := rfl
@[simp] theorem revertSent_line (b : Block) : (revertSent b).line = b.line := rfl
@[simp] theorem revertSent_exch (b : Block) : (revertSent b).exch = b.exch := rfl
@[simp] theorem revertSent_mgmt (b : Block) : (revertSent b).mgmt = b.mgmt := rfl
@[simp] theorem revertSent_counts (b : Block) : (revertSent b).counts = b.counts := rfl
@[simp] theorem revertSent_time (b : Block) : (revertSent b).time = b.time := rfl
@[simp] theorem revertSent_pins (b : Block) : (revertSent b).pins = b.pins := rfl
@[simp] theorem revertSent_out (b : Block) : (revertSent b).out = b.out := rfl
@[simp] theorem revertSent_till (b : Block) :
    (revertSent b).till = { b.till with sent := 0, ackTimer := none } := rfl

/-! ## Guest -/

@[simp] theorem putSession_mode (hw : HwAddr) (s : Session) (b : Block) : (putSession hw s b).mode = b.mode := rfl
@[simp] theorem putSession_price (hw : HwAddr) (s : Session) (b : Block) : (putSession hw s b).price = b.price := rfl
@[simp] theorem putSession_items (hw : HwAddr) (s : Session) (b : Block) : (putSession hw s b).items = b.items := rfl
@[simp] theorem putSession_labels (hw : HwAddr) (s : Session) (b : Block) : (putSession hw s b).labels = b.labels := rfl
@[simp] theorem putSession_composer (hw : HwAddr) (s : Session) (b : Block) : (putSession hw s b).composer = b.composer := rfl
@[simp] theorem putSession_radio (hw : HwAddr) (s : Session) (b : Block) : (putSession hw s b).radio = b.radio := rfl
@[simp] theorem putSession_till (hw : HwAddr) (s : Session) (b : Block) : (putSession hw s b).till = b.till := rfl
@[simp] theorem putSession_fwd (hw : HwAddr) (s : Session) (b : Block) : (putSession hw s b).fwd = b.fwd := rfl
@[simp] theorem putSession_line (hw : HwAddr) (s : Session) (b : Block) : (putSession hw s b).line = b.line := rfl
@[simp] theorem putSession_exch (hw : HwAddr) (s : Session) (b : Block) : (putSession hw s b).exch = b.exch := rfl
@[simp] theorem putSession_mgmt (hw : HwAddr) (s : Session) (b : Block) : (putSession hw s b).mgmt = b.mgmt := rfl
@[simp] theorem putSession_counts (hw : HwAddr) (s : Session) (b : Block) : (putSession hw s b).counts = b.counts := rfl
@[simp] theorem putSession_time (hw : HwAddr) (s : Session) (b : Block) : (putSession hw s b).time = b.time := rfl
@[simp] theorem putSession_pins (hw : HwAddr) (s : Session) (b : Block) : (putSession hw s b).pins = b.pins := rfl
@[simp] theorem putSession_out (hw : HwAddr) (s : Session) (b : Block) : (putSession hw s b).out = b.out := rfl
@[simp] theorem putSession_guest (hw : HwAddr) (s : Session) (b : Block) :
    (putSession hw s b).guest = { b.guest with sessions := tableInsert b.guest.sessions hw.toNat s } := rfl
@[simp] theorem removeSession_mode (hw : HwAddr) (b : Block) : (removeSession hw b).mode = b.mode := rfl
@[simp] theorem removeSession_price (hw : HwAddr) (b : Block) : (removeSession hw b).price = b.price := rfl
@[simp] theorem removeSession_items (hw : HwAddr) (b : Block) : (removeSession hw b).items = b.items := rfl
@[simp] theorem removeSession_labels (hw : HwAddr) (b : Block) : (removeSession hw b).labels = b.labels := rfl
@[simp] theorem removeSession_composer (hw : HwAddr) (b : Block) : (removeSession hw b).composer = b.composer := rfl
@[simp] theorem removeSession_radio (hw : HwAddr) (b : Block) : (removeSession hw b).radio = b.radio := rfl
@[simp] theorem removeSession_till (hw : HwAddr) (b : Block) : (removeSession hw b).till = b.till := rfl
@[simp] theorem removeSession_fwd (hw : HwAddr) (b : Block) : (removeSession hw b).fwd = b.fwd := rfl
@[simp] theorem removeSession_line (hw : HwAddr) (b : Block) : (removeSession hw b).line = b.line := rfl
@[simp] theorem removeSession_exch (hw : HwAddr) (b : Block) : (removeSession hw b).exch = b.exch := rfl
@[simp] theorem removeSession_mgmt (hw : HwAddr) (b : Block) : (removeSession hw b).mgmt = b.mgmt := rfl
@[simp] theorem removeSession_counts (hw : HwAddr) (b : Block) : (removeSession hw b).counts = b.counts := rfl
@[simp] theorem removeSession_time (hw : HwAddr) (b : Block) : (removeSession hw b).time = b.time := rfl
@[simp] theorem removeSession_pins (hw : HwAddr) (b : Block) : (removeSession hw b).pins = b.pins := rfl
@[simp] theorem removeSession_out (hw : HwAddr) (b : Block) : (removeSession hw b).out = b.out := rfl
@[simp] theorem removeSession_guest (hw : HwAddr) (b : Block) :
    (removeSession hw b).guest = { b.guest with sessions := tableErase b.guest.sessions hw.toNat, full := false } := rfl
@[simp] theorem dropSessions_mode (b : Block) : (dropSessions b).mode = b.mode := rfl
@[simp] theorem dropSessions_price (b : Block) : (dropSessions b).price = b.price := rfl
@[simp] theorem dropSessions_items (b : Block) : (dropSessions b).items = b.items := rfl
@[simp] theorem dropSessions_labels (b : Block) : (dropSessions b).labels = b.labels := rfl
@[simp] theorem dropSessions_composer (b : Block) : (dropSessions b).composer = b.composer := rfl
@[simp] theorem dropSessions_radio (b : Block) : (dropSessions b).radio = b.radio := rfl
@[simp] theorem dropSessions_till (b : Block) : (dropSessions b).till = b.till := rfl
@[simp] theorem dropSessions_fwd (b : Block) : (dropSessions b).fwd = b.fwd := rfl
@[simp] theorem dropSessions_line (b : Block) : (dropSessions b).line = b.line := rfl
@[simp] theorem dropSessions_exch (b : Block) : (dropSessions b).exch = b.exch := rfl
@[simp] theorem dropSessions_mgmt (b : Block) : (dropSessions b).mgmt = b.mgmt := rfl
@[simp] theorem dropSessions_counts (b : Block) : (dropSessions b).counts = b.counts := rfl
@[simp] theorem dropSessions_time (b : Block) : (dropSessions b).time = b.time := rfl
@[simp] theorem dropSessions_pins (b : Block) : (dropSessions b).pins = b.pins := rfl
@[simp] theorem dropSessions_out (b : Block) : (dropSessions b).out = b.out := rfl
@[simp] theorem dropSessions_guest (b : Block) :
    (dropSessions b).guest = { b.guest with sessions := [], full := false } := rfl

/-! ## Forward -/

@[simp] theorem setAddresses_mode (t : Table AddressEntry) (b : Block) : (setAddresses t b).mode = b.mode := rfl
@[simp] theorem setAddresses_price (t : Table AddressEntry) (b : Block) : (setAddresses t b).price = b.price := rfl
@[simp] theorem setAddresses_items (t : Table AddressEntry) (b : Block) : (setAddresses t b).items = b.items := rfl
@[simp] theorem setAddresses_labels (t : Table AddressEntry) (b : Block) : (setAddresses t b).labels = b.labels := rfl
@[simp] theorem setAddresses_composer (t : Table AddressEntry) (b : Block) : (setAddresses t b).composer = b.composer := rfl
@[simp] theorem setAddresses_radio (t : Table AddressEntry) (b : Block) : (setAddresses t b).radio = b.radio := rfl
@[simp] theorem setAddresses_till (t : Table AddressEntry) (b : Block) : (setAddresses t b).till = b.till := rfl
@[simp] theorem setAddresses_guest (t : Table AddressEntry) (b : Block) : (setAddresses t b).guest = b.guest := rfl
@[simp] theorem setAddresses_line (t : Table AddressEntry) (b : Block) : (setAddresses t b).line = b.line := rfl
@[simp] theorem setAddresses_exch (t : Table AddressEntry) (b : Block) : (setAddresses t b).exch = b.exch := rfl
@[simp] theorem setAddresses_mgmt (t : Table AddressEntry) (b : Block) : (setAddresses t b).mgmt = b.mgmt := rfl
@[simp] theorem setAddresses_counts (t : Table AddressEntry) (b : Block) : (setAddresses t b).counts = b.counts := rfl
@[simp] theorem setAddresses_time (t : Table AddressEntry) (b : Block) : (setAddresses t b).time = b.time := rfl
@[simp] theorem setAddresses_pins (t : Table AddressEntry) (b : Block) : (setAddresses t b).pins = b.pins := rfl
@[simp] theorem setAddresses_out (t : Table AddressEntry) (b : Block) : (setAddresses t b).out = b.out := rfl
@[simp] theorem setAddresses_fwd (t : Table AddressEntry) (b : Block) :
    (setAddresses t b).fwd = { b.fwd with addresses := t } := rfl
@[simp] theorem keepAddresses_mode (keep : Nat × AddressEntry → Bool) (b : Block) : (keepAddresses keep b).mode = b.mode := rfl
@[simp] theorem keepAddresses_price (keep : Nat × AddressEntry → Bool) (b : Block) : (keepAddresses keep b).price = b.price := rfl
@[simp] theorem keepAddresses_items (keep : Nat × AddressEntry → Bool) (b : Block) : (keepAddresses keep b).items = b.items := rfl
@[simp] theorem keepAddresses_labels (keep : Nat × AddressEntry → Bool) (b : Block) : (keepAddresses keep b).labels = b.labels := rfl
@[simp] theorem keepAddresses_composer (keep : Nat × AddressEntry → Bool) (b : Block) : (keepAddresses keep b).composer = b.composer := rfl
@[simp] theorem keepAddresses_radio (keep : Nat × AddressEntry → Bool) (b : Block) : (keepAddresses keep b).radio = b.radio := rfl
@[simp] theorem keepAddresses_till (keep : Nat × AddressEntry → Bool) (b : Block) : (keepAddresses keep b).till = b.till := rfl
@[simp] theorem keepAddresses_guest (keep : Nat × AddressEntry → Bool) (b : Block) : (keepAddresses keep b).guest = b.guest := rfl
@[simp] theorem keepAddresses_line (keep : Nat × AddressEntry → Bool) (b : Block) : (keepAddresses keep b).line = b.line := rfl
@[simp] theorem keepAddresses_exch (keep : Nat × AddressEntry → Bool) (b : Block) : (keepAddresses keep b).exch = b.exch := rfl
@[simp] theorem keepAddresses_mgmt (keep : Nat × AddressEntry → Bool) (b : Block) : (keepAddresses keep b).mgmt = b.mgmt := rfl
@[simp] theorem keepAddresses_counts (keep : Nat × AddressEntry → Bool) (b : Block) : (keepAddresses keep b).counts = b.counts := rfl
@[simp] theorem keepAddresses_time (keep : Nat × AddressEntry → Bool) (b : Block) : (keepAddresses keep b).time = b.time := rfl
@[simp] theorem keepAddresses_pins (keep : Nat × AddressEntry → Bool) (b : Block) : (keepAddresses keep b).pins = b.pins := rfl
@[simp] theorem keepAddresses_out (keep : Nat × AddressEntry → Bool) (b : Block) : (keepAddresses keep b).out = b.out := rfl
@[simp] theorem keepAddresses_fwd (keep : Nat × AddressEntry → Bool) (b : Block) :
    (keepAddresses keep b).fwd = { b.fwd with addresses := b.fwd.addresses.filter keep, full := b.fwd.full && decide ((b.fwd.addresses.filter keep).length = b.fwd.addresses.length) } := rfl
@[simp] theorem setPort_mode (p : Port) (r : PortRecord) (b : Block) : (setPort p r b).mode = b.mode := rfl
@[simp] theorem setPort_price (p : Port) (r : PortRecord) (b : Block) : (setPort p r b).price = b.price := rfl
@[simp] theorem setPort_items (p : Port) (r : PortRecord) (b : Block) : (setPort p r b).items = b.items := rfl
@[simp] theorem setPort_labels (p : Port) (r : PortRecord) (b : Block) : (setPort p r b).labels = b.labels := rfl
@[simp] theorem setPort_composer (p : Port) (r : PortRecord) (b : Block) : (setPort p r b).composer = b.composer := rfl
@[simp] theorem setPort_radio (p : Port) (r : PortRecord) (b : Block) : (setPort p r b).radio = b.radio := rfl
@[simp] theorem setPort_till (p : Port) (r : PortRecord) (b : Block) : (setPort p r b).till = b.till := rfl
@[simp] theorem setPort_guest (p : Port) (r : PortRecord) (b : Block) : (setPort p r b).guest = b.guest := rfl
@[simp] theorem setPort_line (p : Port) (r : PortRecord) (b : Block) : (setPort p r b).line = b.line := rfl
@[simp] theorem setPort_exch (p : Port) (r : PortRecord) (b : Block) : (setPort p r b).exch = b.exch := rfl
@[simp] theorem setPort_mgmt (p : Port) (r : PortRecord) (b : Block) : (setPort p r b).mgmt = b.mgmt := rfl
@[simp] theorem setPort_counts (p : Port) (r : PortRecord) (b : Block) : (setPort p r b).counts = b.counts := rfl
@[simp] theorem setPort_time (p : Port) (r : PortRecord) (b : Block) : (setPort p r b).time = b.time := rfl
@[simp] theorem setPort_pins (p : Port) (r : PortRecord) (b : Block) : (setPort p r b).pins = b.pins := rfl
@[simp] theorem setPort_out (p : Port) (r : PortRecord) (b : Block) : (setPort p r b).out = b.out := rfl
@[simp] theorem setPort_fwd (p : Port) (r : PortRecord) (b : Block) :
    (setPort p r b).fwd = { b.fwd with ports := b.fwd.ports.set p r } := rfl
@[simp] theorem setGateway_mode (s : Segment) (g : Gateway) (b : Block) : (setGateway s g b).mode = b.mode := rfl
@[simp] theorem setGateway_price (s : Segment) (g : Gateway) (b : Block) : (setGateway s g b).price = b.price := rfl
@[simp] theorem setGateway_items (s : Segment) (g : Gateway) (b : Block) : (setGateway s g b).items = b.items := rfl
@[simp] theorem setGateway_labels (s : Segment) (g : Gateway) (b : Block) : (setGateway s g b).labels = b.labels := rfl
@[simp] theorem setGateway_composer (s : Segment) (g : Gateway) (b : Block) : (setGateway s g b).composer = b.composer := rfl
@[simp] theorem setGateway_radio (s : Segment) (g : Gateway) (b : Block) : (setGateway s g b).radio = b.radio := rfl
@[simp] theorem setGateway_till (s : Segment) (g : Gateway) (b : Block) : (setGateway s g b).till = b.till := rfl
@[simp] theorem setGateway_guest (s : Segment) (g : Gateway) (b : Block) : (setGateway s g b).guest = b.guest := rfl
@[simp] theorem setGateway_line (s : Segment) (g : Gateway) (b : Block) : (setGateway s g b).line = b.line := rfl
@[simp] theorem setGateway_exch (s : Segment) (g : Gateway) (b : Block) : (setGateway s g b).exch = b.exch := rfl
@[simp] theorem setGateway_mgmt (s : Segment) (g : Gateway) (b : Block) : (setGateway s g b).mgmt = b.mgmt := rfl
@[simp] theorem setGateway_counts (s : Segment) (g : Gateway) (b : Block) : (setGateway s g b).counts = b.counts := rfl
@[simp] theorem setGateway_time (s : Segment) (g : Gateway) (b : Block) : (setGateway s g b).time = b.time := rfl
@[simp] theorem setGateway_pins (s : Segment) (g : Gateway) (b : Block) : (setGateway s g b).pins = b.pins := rfl
@[simp] theorem setGateway_out (s : Segment) (g : Gateway) (b : Block) : (setGateway s g b).out = b.out := rfl
@[simp] theorem setGateway_fwd (s : Segment) (g : Gateway) (b : Block) :
    (setGateway s g b).fwd = { b.fwd with gateways := b.fwd.gateways.set (segmentIndex s) g } := rfl

/-! ## Uplink -/

@[simp] theorem offeredOne_mode (q : Qualification) (b : Block) : (offeredOne q b).mode = b.mode := rfl
@[simp] theorem offeredOne_price (q : Qualification) (b : Block) : (offeredOne q b).price = b.price := rfl
@[simp] theorem offeredOne_items (q : Qualification) (b : Block) : (offeredOne q b).items = b.items := rfl
@[simp] theorem offeredOne_labels (q : Qualification) (b : Block) : (offeredOne q b).labels = b.labels := rfl
@[simp] theorem offeredOne_composer (q : Qualification) (b : Block) : (offeredOne q b).composer = b.composer := rfl
@[simp] theorem offeredOne_radio (q : Qualification) (b : Block) : (offeredOne q b).radio = b.radio := rfl
@[simp] theorem offeredOne_till (q : Qualification) (b : Block) : (offeredOne q b).till = b.till := rfl
@[simp] theorem offeredOne_fwd (q : Qualification) (b : Block) : (offeredOne q b).fwd = b.fwd := rfl
@[simp] theorem offeredOne_guest (q : Qualification) (b : Block) : (offeredOne q b).guest = b.guest := rfl
@[simp] theorem offeredOne_exch (q : Qualification) (b : Block) : (offeredOne q b).exch = b.exch := rfl
@[simp] theorem offeredOne_mgmt (q : Qualification) (b : Block) : (offeredOne q b).mgmt = b.mgmt := rfl
@[simp] theorem offeredOne_counts (q : Qualification) (b : Block) : (offeredOne q b).counts = b.counts := rfl
@[simp] theorem offeredOne_time (q : Qualification) (b : Block) : (offeredOne q b).time = b.time := rfl
@[simp] theorem offeredOne_pins (q : Qualification) (b : Block) : (offeredOne q b).pins = b.pins := rfl
@[simp] theorem offeredOne_out (q : Qualification) (b : Block) : (offeredOne q b).out = b.out := rfl
@[simp] theorem offeredOne_line (q : Qualification) (b : Block) :
    (offeredOne q b).line = { b.line with qual := some { q with nextOffer := q.nextOffer + 1 } } := rfl

/-! ## Qualify -/

@[simp] theorem setExchange_mode (x : ExchangeState) (b : Block) : (setExchange x b).mode = b.mode := rfl
@[simp] theorem setExchange_price (x : ExchangeState) (b : Block) : (setExchange x b).price = b.price := rfl
@[simp] theorem setExchange_items (x : ExchangeState) (b : Block) : (setExchange x b).items = b.items := rfl
@[simp] theorem setExchange_labels (x : ExchangeState) (b : Block) : (setExchange x b).labels = b.labels := rfl
@[simp] theorem setExchange_composer (x : ExchangeState) (b : Block) : (setExchange x b).composer = b.composer := rfl
@[simp] theorem setExchange_radio (x : ExchangeState) (b : Block) : (setExchange x b).radio = b.radio := rfl
@[simp] theorem setExchange_till (x : ExchangeState) (b : Block) : (setExchange x b).till = b.till := rfl
@[simp] theorem setExchange_fwd (x : ExchangeState) (b : Block) : (setExchange x b).fwd = b.fwd := rfl
@[simp] theorem setExchange_guest (x : ExchangeState) (b : Block) : (setExchange x b).guest = b.guest := rfl
@[simp] theorem setExchange_line (x : ExchangeState) (b : Block) : (setExchange x b).line = b.line := rfl
@[simp] theorem setExchange_mgmt (x : ExchangeState) (b : Block) : (setExchange x b).mgmt = b.mgmt := rfl
@[simp] theorem setExchange_counts (x : ExchangeState) (b : Block) : (setExchange x b).counts = b.counts := rfl
@[simp] theorem setExchange_time (x : ExchangeState) (b : Block) : (setExchange x b).time = b.time := rfl
@[simp] theorem setExchange_pins (x : ExchangeState) (b : Block) : (setExchange x b).pins = b.pins := rfl
@[simp] theorem setExchange_out (x : ExchangeState) (b : Block) : (setExchange x b).out = b.out := rfl
@[simp] theorem setExchange_exch (x : ExchangeState) (b : Block) :
    (setExchange x b).exch = { b.exch with state := x } := rfl
@[simp] theorem startHold_mode (b : Block) : (startHold b).mode = b.mode := rfl
@[simp] theorem startHold_price (b : Block) : (startHold b).price = b.price := rfl
@[simp] theorem startHold_items (b : Block) : (startHold b).items = b.items := rfl
@[simp] theorem startHold_labels (b : Block) : (startHold b).labels = b.labels := rfl
@[simp] theorem startHold_composer (b : Block) : (startHold b).composer = b.composer := rfl
@[simp] theorem startHold_radio (b : Block) : (startHold b).radio = b.radio := rfl
@[simp] theorem startHold_till (b : Block) : (startHold b).till = b.till := rfl
@[simp] theorem startHold_fwd (b : Block) : (startHold b).fwd = b.fwd := rfl
@[simp] theorem startHold_guest (b : Block) : (startHold b).guest = b.guest := rfl
@[simp] theorem startHold_line (b : Block) : (startHold b).line = b.line := rfl
@[simp] theorem startHold_mgmt (b : Block) : (startHold b).mgmt = b.mgmt := rfl
@[simp] theorem startHold_counts (b : Block) : (startHold b).counts = b.counts := rfl
@[simp] theorem startHold_time (b : Block) : (startHold b).time = b.time := rfl
@[simp] theorem startHold_pins (b : Block) : (startHold b).pins = b.pins := rfl
@[simp] theorem startHold_out (b : Block) : (startHold b).out = b.out := rfl
@[simp] theorem startHold_exch (b : Block) :
    (startHold b).exch = { b.exch with hold := some 600000 } := rfl
@[simp] theorem holdResult_mode (q : Qualification) (b : Block) : (holdResult q b).mode = b.mode := rfl
@[simp] theorem holdResult_price (q : Qualification) (b : Block) : (holdResult q b).price = b.price := rfl
@[simp] theorem holdResult_items (q : Qualification) (b : Block) : (holdResult q b).items = b.items := rfl
@[simp] theorem holdResult_labels (q : Qualification) (b : Block) : (holdResult q b).labels = b.labels := rfl
@[simp] theorem holdResult_composer (q : Qualification) (b : Block) : (holdResult q b).composer = b.composer := rfl
@[simp] theorem holdResult_radio (q : Qualification) (b : Block) : (holdResult q b).radio = b.radio := rfl
@[simp] theorem holdResult_till (q : Qualification) (b : Block) : (holdResult q b).till = b.till := rfl
@[simp] theorem holdResult_fwd (q : Qualification) (b : Block) : (holdResult q b).fwd = b.fwd := rfl
@[simp] theorem holdResult_guest (q : Qualification) (b : Block) : (holdResult q b).guest = b.guest := rfl
@[simp] theorem holdResult_exch (q : Qualification) (b : Block) : (holdResult q b).exch = b.exch := rfl
@[simp] theorem holdResult_mgmt (q : Qualification) (b : Block) : (holdResult q b).mgmt = b.mgmt := rfl
@[simp] theorem holdResult_counts (q : Qualification) (b : Block) : (holdResult q b).counts = b.counts := rfl
@[simp] theorem holdResult_time (q : Qualification) (b : Block) : (holdResult q b).time = b.time := rfl
@[simp] theorem holdResult_pins (q : Qualification) (b : Block) : (holdResult q b).pins = b.pins := rfl
@[simp] theorem holdResult_out (q : Qualification) (b : Block) : (holdResult q b).out = b.out := rfl
@[simp] theorem holdResult_line (q : Qualification) (b : Block) :
    (holdResult q b).line = { b.line with qual := none, result := some (QualResult.mk (qualClassOf q.length q.bits q.errors) q.bits q.errors) } := rfl
@[simp] theorem discardResult_mode (b : Block) : (discardResult b).mode = b.mode := rfl
@[simp] theorem discardResult_price (b : Block) : (discardResult b).price = b.price := rfl
@[simp] theorem discardResult_items (b : Block) : (discardResult b).items = b.items := rfl
@[simp] theorem discardResult_labels (b : Block) : (discardResult b).labels = b.labels := rfl
@[simp] theorem discardResult_composer (b : Block) : (discardResult b).composer = b.composer := rfl
@[simp] theorem discardResult_radio (b : Block) : (discardResult b).radio = b.radio := rfl
@[simp] theorem discardResult_till (b : Block) : (discardResult b).till = b.till := rfl
@[simp] theorem discardResult_fwd (b : Block) : (discardResult b).fwd = b.fwd := rfl
@[simp] theorem discardResult_guest (b : Block) : (discardResult b).guest = b.guest := rfl
@[simp] theorem discardResult_exch (b : Block) : (discardResult b).exch = b.exch := rfl
@[simp] theorem discardResult_mgmt (b : Block) : (discardResult b).mgmt = b.mgmt := rfl
@[simp] theorem discardResult_counts (b : Block) : (discardResult b).counts = b.counts := rfl
@[simp] theorem discardResult_time (b : Block) : (discardResult b).time = b.time := rfl
@[simp] theorem discardResult_pins (b : Block) : (discardResult b).pins = b.pins := rfl
@[simp] theorem discardResult_out (b : Block) : (discardResult b).out = b.out := rfl
@[simp] theorem discardResult_line (b : Block) :
    (discardResult b).line = { b.line with result := none } := rfl

/-! ## Mode -/

@[simp] theorem stopDrain_price (b : Block) : (stopDrain b).price = b.price := rfl
@[simp] theorem stopDrain_items (b : Block) : (stopDrain b).items = b.items := rfl
@[simp] theorem stopDrain_labels (b : Block) : (stopDrain b).labels = b.labels := rfl
@[simp] theorem stopDrain_composer (b : Block) : (stopDrain b).composer = b.composer := rfl
@[simp] theorem stopDrain_radio (b : Block) : (stopDrain b).radio = b.radio := rfl
@[simp] theorem stopDrain_till (b : Block) : (stopDrain b).till = b.till := rfl
@[simp] theorem stopDrain_fwd (b : Block) : (stopDrain b).fwd = b.fwd := rfl
@[simp] theorem stopDrain_guest (b : Block) : (stopDrain b).guest = b.guest := rfl
@[simp] theorem stopDrain_line (b : Block) : (stopDrain b).line = b.line := rfl
@[simp] theorem stopDrain_exch (b : Block) : (stopDrain b).exch = b.exch := rfl
@[simp] theorem stopDrain_mgmt (b : Block) : (stopDrain b).mgmt = b.mgmt := rfl
@[simp] theorem stopDrain_counts (b : Block) : (stopDrain b).counts = b.counts := rfl
@[simp] theorem stopDrain_time (b : Block) : (stopDrain b).time = b.time := rfl
@[simp] theorem stopDrain_pins (b : Block) : (stopDrain b).pins = b.pins := rfl
@[simp] theorem stopDrain_out (b : Block) : (stopDrain b).out = b.out := rfl
@[simp] theorem stopDrain_mode (b : Block) :
    (stopDrain b).mode = { b.mode with drain := none } := rfl
@[simp] theorem startDrain_price (b : Block) : (startDrain b).price = b.price := rfl
@[simp] theorem startDrain_items (b : Block) : (startDrain b).items = b.items := rfl
@[simp] theorem startDrain_labels (b : Block) : (startDrain b).labels = b.labels := rfl
@[simp] theorem startDrain_composer (b : Block) : (startDrain b).composer = b.composer := rfl
@[simp] theorem startDrain_radio (b : Block) : (startDrain b).radio = b.radio := rfl
@[simp] theorem startDrain_till (b : Block) : (startDrain b).till = b.till := rfl
@[simp] theorem startDrain_fwd (b : Block) : (startDrain b).fwd = b.fwd := rfl
@[simp] theorem startDrain_guest (b : Block) : (startDrain b).guest = b.guest := rfl
@[simp] theorem startDrain_line (b : Block) : (startDrain b).line = b.line := rfl
@[simp] theorem startDrain_exch (b : Block) : (startDrain b).exch = b.exch := rfl
@[simp] theorem startDrain_mgmt (b : Block) : (startDrain b).mgmt = b.mgmt := rfl
@[simp] theorem startDrain_counts (b : Block) : (startDrain b).counts = b.counts := rfl
@[simp] theorem startDrain_time (b : Block) : (startDrain b).time = b.time := rfl
@[simp] theorem startDrain_pins (b : Block) : (startDrain b).pins = b.pins := rfl
@[simp] theorem startDrain_out (b : Block) : (startDrain b).out = b.out := rfl
@[simp] theorem startDrain_mode (b : Block) :
    (startDrain b).mode = { b.mode with drain := some (b.mode.settings.drainPeriod * 1000) } := rfl
@[simp] theorem setClockTo_price (v : Nat) (b : Block) : (setClockTo v b).price = b.price := rfl
@[simp] theorem setClockTo_items (v : Nat) (b : Block) : (setClockTo v b).items = b.items := rfl
@[simp] theorem setClockTo_labels (v : Nat) (b : Block) : (setClockTo v b).labels = b.labels := rfl
@[simp] theorem setClockTo_composer (v : Nat) (b : Block) : (setClockTo v b).composer = b.composer := rfl
@[simp] theorem setClockTo_radio (v : Nat) (b : Block) : (setClockTo v b).radio = b.radio := rfl
@[simp] theorem setClockTo_till (v : Nat) (b : Block) : (setClockTo v b).till = b.till := rfl
@[simp] theorem setClockTo_fwd (v : Nat) (b : Block) : (setClockTo v b).fwd = b.fwd := rfl
@[simp] theorem setClockTo_guest (v : Nat) (b : Block) : (setClockTo v b).guest = b.guest := rfl
@[simp] theorem setClockTo_line (v : Nat) (b : Block) : (setClockTo v b).line = b.line := rfl
@[simp] theorem setClockTo_exch (v : Nat) (b : Block) : (setClockTo v b).exch = b.exch := rfl
@[simp] theorem setClockTo_mgmt (v : Nat) (b : Block) : (setClockTo v b).mgmt = b.mgmt := rfl
@[simp] theorem setClockTo_counts (v : Nat) (b : Block) : (setClockTo v b).counts = b.counts := rfl
@[simp] theorem setClockTo_time (v : Nat) (b : Block) : (setClockTo v b).time = b.time := rfl
@[simp] theorem setClockTo_pins (v : Nat) (b : Block) : (setClockTo v b).pins = b.pins := rfl
@[simp] theorem setClockTo_out (v : Nat) (b : Block) : (setClockTo v b).out = b.out := rfl
@[simp] theorem setClockTo_mode (v : Nat) (b : Block) :
    (setClockTo v b).mode = { b.mode with clock := some v } := rfl
@[simp] theorem stopHold_mode (b : Block) : (stopHold b).mode = b.mode := rfl
@[simp] theorem stopHold_price (b : Block) : (stopHold b).price = b.price := rfl
@[simp] theorem stopHold_items (b : Block) : (stopHold b).items = b.items := rfl
@[simp] theorem stopHold_labels (b : Block) : (stopHold b).labels = b.labels := rfl
@[simp] theorem stopHold_composer (b : Block) : (stopHold b).composer = b.composer := rfl
@[simp] theorem stopHold_radio (b : Block) : (stopHold b).radio = b.radio := rfl
@[simp] theorem stopHold_till (b : Block) : (stopHold b).till = b.till := rfl
@[simp] theorem stopHold_fwd (b : Block) : (stopHold b).fwd = b.fwd := rfl
@[simp] theorem stopHold_guest (b : Block) : (stopHold b).guest = b.guest := rfl
@[simp] theorem stopHold_line (b : Block) : (stopHold b).line = b.line := rfl
@[simp] theorem stopHold_mgmt (b : Block) : (stopHold b).mgmt = b.mgmt := rfl
@[simp] theorem stopHold_counts (b : Block) : (stopHold b).counts = b.counts := rfl
@[simp] theorem stopHold_time (b : Block) : (stopHold b).time = b.time := rfl
@[simp] theorem stopHold_pins (b : Block) : (stopHold b).pins = b.pins := rfl
@[simp] theorem stopHold_out (b : Block) : (stopHold b).out = b.out := rfl
@[simp] theorem stopHold_exch (b : Block) :
    (stopHold b).exch = { b.exch with hold := none } := rfl
@[simp] theorem newSecond_mode (b : Block) : (newSecond b).mode = b.mode := rfl
@[simp] theorem newSecond_price (b : Block) : (newSecond b).price = b.price := rfl
@[simp] theorem newSecond_items (b : Block) : (newSecond b).items = b.items := rfl
@[simp] theorem newSecond_labels (b : Block) : (newSecond b).labels = b.labels := rfl
@[simp] theorem newSecond_composer (b : Block) : (newSecond b).composer = b.composer := rfl
@[simp] theorem newSecond_radio (b : Block) : (newSecond b).radio = b.radio := rfl
@[simp] theorem newSecond_till (b : Block) : (newSecond b).till = b.till := rfl
@[simp] theorem newSecond_fwd (b : Block) : (newSecond b).fwd = b.fwd := rfl
@[simp] theorem newSecond_guest (b : Block) : (newSecond b).guest = b.guest := rfl
@[simp] theorem newSecond_line (b : Block) : (newSecond b).line = b.line := rfl
@[simp] theorem newSecond_exch (b : Block) : (newSecond b).exch = b.exch := rfl
@[simp] theorem newSecond_mgmt (b : Block) : (newSecond b).mgmt = b.mgmt := rfl
@[simp] theorem newSecond_counts (b : Block) : (newSecond b).counts = b.counts := rfl
@[simp] theorem newSecond_pins (b : Block) : (newSecond b).pins = b.pins := rfl
@[simp] theorem newSecond_out (b : Block) : (newSecond b).out = b.out := rfl
@[simp] theorem newSecond_time (b : Block) :
    (newSecond b).time = { b.time with toSecond := 1000 } := rfl

/-! ## Manage -/

@[simp] theorem dropHead_mode (b : Block) : (dropHead b).mode = b.mode := rfl
@[simp] theorem dropHead_price (b : Block) : (dropHead b).price = b.price := rfl
@[simp] theorem dropHead_items (b : Block) : (dropHead b).items = b.items := rfl
@[simp] theorem dropHead_labels (b : Block) : (dropHead b).labels = b.labels := rfl
@[simp] theorem dropHead_composer (b : Block) : (dropHead b).composer = b.composer := rfl
@[simp] theorem dropHead_radio (b : Block) : (dropHead b).radio = b.radio := rfl
@[simp] theorem dropHead_till (b : Block) : (dropHead b).till = b.till := rfl
@[simp] theorem dropHead_fwd (b : Block) : (dropHead b).fwd = b.fwd := rfl
@[simp] theorem dropHead_guest (b : Block) : (dropHead b).guest = b.guest := rfl
@[simp] theorem dropHead_line (b : Block) : (dropHead b).line = b.line := rfl
@[simp] theorem dropHead_exch (b : Block) : (dropHead b).exch = b.exch := rfl
@[simp] theorem dropHead_counts (b : Block) : (dropHead b).counts = b.counts := rfl
@[simp] theorem dropHead_time (b : Block) : (dropHead b).time = b.time := rfl
@[simp] theorem dropHead_pins (b : Block) : (dropHead b).pins = b.pins := rfl
@[simp] theorem dropHead_out (b : Block) : (dropHead b).out = b.out := rfl
@[simp] theorem dropHead_mgmt (b : Block) :
    (dropHead b).mgmt = { b.mgmt with notices := b.mgmt.notices.drop 1 } := rfl

/-! ## Updates by name over those -/

@[simp] theorem bump_mode (c : Counter) (b : Block) : (bump c b).mode = b.mode := rfl
@[simp] theorem bump_price (c : Counter) (b : Block) : (bump c b).price = b.price := rfl
@[simp] theorem bump_items (c : Counter) (b : Block) : (bump c b).items = b.items := rfl
@[simp] theorem bump_labels (c : Counter) (b : Block) : (bump c b).labels = b.labels := rfl
@[simp] theorem bump_composer (c : Counter) (b : Block) : (bump c b).composer = b.composer := rfl
@[simp] theorem bump_radio (c : Counter) (b : Block) : (bump c b).radio = b.radio := rfl
@[simp] theorem bump_till (c : Counter) (b : Block) : (bump c b).till = b.till := rfl
@[simp] theorem bump_fwd (c : Counter) (b : Block) : (bump c b).fwd = b.fwd := rfl
@[simp] theorem bump_guest (c : Counter) (b : Block) : (bump c b).guest = b.guest := rfl
@[simp] theorem bump_line (c : Counter) (b : Block) : (bump c b).line = b.line := rfl
@[simp] theorem bump_exch (c : Counter) (b : Block) : (bump c b).exch = b.exch := rfl
@[simp] theorem bump_mgmt (c : Counter) (b : Block) : (bump c b).mgmt = b.mgmt := rfl
@[simp] theorem bump_time (c : Counter) (b : Block) : (bump c b).time = b.time := rfl
@[simp] theorem bump_pins (c : Counter) (b : Block) : (bump c b).pins = b.pins := rfl
@[simp] theorem bump_out (c : Counter) (b : Block) : (bump c b).out = b.out := rfl
@[simp] theorem notice_mode (kind : NoticeKind) (subject : NoticeSubject) (b : Block) : (notice kind subject b).mode = b.mode := rfl
@[simp] theorem notice_price (kind : NoticeKind) (subject : NoticeSubject) (b : Block) : (notice kind subject b).price = b.price := rfl
@[simp] theorem notice_items (kind : NoticeKind) (subject : NoticeSubject) (b : Block) : (notice kind subject b).items = b.items := rfl
@[simp] theorem notice_labels (kind : NoticeKind) (subject : NoticeSubject) (b : Block) : (notice kind subject b).labels = b.labels := rfl
@[simp] theorem notice_composer (kind : NoticeKind) (subject : NoticeSubject) (b : Block) : (notice kind subject b).composer = b.composer := rfl
@[simp] theorem notice_radio (kind : NoticeKind) (subject : NoticeSubject) (b : Block) : (notice kind subject b).radio = b.radio := rfl
@[simp] theorem notice_till (kind : NoticeKind) (subject : NoticeSubject) (b : Block) : (notice kind subject b).till = b.till := rfl
@[simp] theorem notice_fwd (kind : NoticeKind) (subject : NoticeSubject) (b : Block) : (notice kind subject b).fwd = b.fwd := rfl
@[simp] theorem notice_guest (kind : NoticeKind) (subject : NoticeSubject) (b : Block) : (notice kind subject b).guest = b.guest := rfl
@[simp] theorem notice_line (kind : NoticeKind) (subject : NoticeSubject) (b : Block) : (notice kind subject b).line = b.line := rfl
@[simp] theorem notice_exch (kind : NoticeKind) (subject : NoticeSubject) (b : Block) : (notice kind subject b).exch = b.exch := rfl
@[simp] theorem notice_counts (kind : NoticeKind) (subject : NoticeSubject) (b : Block) : (notice kind subject b).counts = b.counts := rfl
@[simp] theorem notice_time (kind : NoticeKind) (subject : NoticeSubject) (b : Block) : (notice kind subject b).time = b.time := rfl
@[simp] theorem notice_pins (kind : NoticeKind) (subject : NoticeSubject) (b : Block) : (notice kind subject b).pins = b.pins := rfl
@[simp] theorem notice_out (kind : NoticeKind) (subject : NoticeSubject) (b : Block) : (notice kind subject b).out = b.out := rfl
@[simp] theorem admitFrame_mode (c : UplinkClass) (f : UplinkContent) (b : Block) : (admitFrame c f b).mode = b.mode := rfl
@[simp] theorem admitFrame_price (c : UplinkClass) (f : UplinkContent) (b : Block) : (admitFrame c f b).price = b.price := rfl
@[simp] theorem admitFrame_items (c : UplinkClass) (f : UplinkContent) (b : Block) : (admitFrame c f b).items = b.items := rfl
@[simp] theorem admitFrame_labels (c : UplinkClass) (f : UplinkContent) (b : Block) : (admitFrame c f b).labels = b.labels := rfl
@[simp] theorem admitFrame_composer (c : UplinkClass) (f : UplinkContent) (b : Block) : (admitFrame c f b).composer = b.composer := rfl
@[simp] theorem admitFrame_radio (c : UplinkClass) (f : UplinkContent) (b : Block) : (admitFrame c f b).radio = b.radio := rfl
@[simp] theorem admitFrame_till (c : UplinkClass) (f : UplinkContent) (b : Block) : (admitFrame c f b).till = b.till := rfl
@[simp] theorem admitFrame_fwd (c : UplinkClass) (f : UplinkContent) (b : Block) : (admitFrame c f b).fwd = b.fwd := rfl
@[simp] theorem admitFrame_guest (c : UplinkClass) (f : UplinkContent) (b : Block) : (admitFrame c f b).guest = b.guest := rfl
@[simp] theorem admitFrame_exch (c : UplinkClass) (f : UplinkContent) (b : Block) : (admitFrame c f b).exch = b.exch := rfl
@[simp] theorem admitFrame_mgmt (c : UplinkClass) (f : UplinkContent) (b : Block) : (admitFrame c f b).mgmt = b.mgmt := rfl
@[simp] theorem admitFrame_counts (c : UplinkClass) (f : UplinkContent) (b : Block) : (admitFrame c f b).counts = b.counts := rfl
@[simp] theorem admitFrame_time (c : UplinkClass) (f : UplinkContent) (b : Block) : (admitFrame c f b).time = b.time := rfl
@[simp] theorem admitFrame_pins (c : UplinkClass) (f : UplinkContent) (b : Block) : (admitFrame c f b).pins = b.pins := rfl
@[simp] theorem admitFrame_out (c : UplinkClass) (f : UplinkContent) (b : Block) : (admitFrame c f b).out = b.out := rfl
@[simp] theorem setMode_price (m : Mode) (b : Block) : (setMode m b).price = b.price := rfl
@[simp] theorem setMode_items (m : Mode) (b : Block) : (setMode m b).items = b.items := rfl
@[simp] theorem setMode_labels (m : Mode) (b : Block) : (setMode m b).labels = b.labels := rfl
@[simp] theorem setMode_composer (m : Mode) (b : Block) : (setMode m b).composer = b.composer := rfl
@[simp] theorem setMode_radio (m : Mode) (b : Block) : (setMode m b).radio = b.radio := rfl
@[simp] theorem setMode_till (m : Mode) (b : Block) : (setMode m b).till = b.till := rfl
@[simp] theorem setMode_fwd (m : Mode) (b : Block) : (setMode m b).fwd = b.fwd := rfl
@[simp] theorem setMode_guest (m : Mode) (b : Block) : (setMode m b).guest = b.guest := rfl
@[simp] theorem setMode_line (m : Mode) (b : Block) : (setMode m b).line = b.line := rfl
@[simp] theorem setMode_exch (m : Mode) (b : Block) : (setMode m b).exch = b.exch := rfl
@[simp] theorem setMode_counts (m : Mode) (b : Block) : (setMode m b).counts = b.counts := rfl
@[simp] theorem setMode_time (m : Mode) (b : Block) : (setMode m b).time = b.time := rfl
@[simp] theorem setMode_pins (m : Mode) (b : Block) : (setMode m b).pins = b.pins := rfl
@[simp] theorem setMode_out (m : Mode) (b : Block) : (setMode m b).out = b.out := rfl
@[simp] theorem setMode_mode (m : Mode) (b : Block) : (setMode m b).mode = { b.mode with mode := m } := rfl
@[simp] theorem setWindowState_price (w : WindowState) (b : Block) : (setWindowState w b).price = b.price := rfl
@[simp] theorem setWindowState_items (w : WindowState) (b : Block) : (setWindowState w b).items = b.items := rfl
@[simp] theorem setWindowState_labels (w : WindowState) (b : Block) : (setWindowState w b).labels = b.labels := rfl
@[simp] theorem setWindowState_composer (w : WindowState) (b : Block) : (setWindowState w b).composer = b.composer := rfl
@[simp] theorem setWindowState_radio (w : WindowState) (b : Block) : (setWindowState w b).radio = b.radio := rfl
@[simp] theorem setWindowState_till (w : WindowState) (b : Block) : (setWindowState w b).till = b.till := rfl
@[simp] theorem setWindowState_fwd (w : WindowState) (b : Block) : (setWindowState w b).fwd = b.fwd := rfl
@[simp] theorem setWindowState_guest (w : WindowState) (b : Block) : (setWindowState w b).guest = b.guest := rfl
@[simp] theorem setWindowState_line (w : WindowState) (b : Block) : (setWindowState w b).line = b.line := rfl
@[simp] theorem setWindowState_exch (w : WindowState) (b : Block) : (setWindowState w b).exch = b.exch := rfl
@[simp] theorem setWindowState_counts (w : WindowState) (b : Block) : (setWindowState w b).counts = b.counts := rfl
@[simp] theorem setWindowState_time (w : WindowState) (b : Block) : (setWindowState w b).time = b.time := rfl
@[simp] theorem setWindowState_pins (w : WindowState) (b : Block) : (setWindowState w b).pins = b.pins := rfl
@[simp] theorem setWindowState_out (w : WindowState) (b : Block) : (setWindowState w b).out = b.out := rfl
@[simp] theorem setWindowState_mode (w : WindowState) (b : Block) :
    (setWindowState w b).mode = { b.mode with window := w } := rfl
@[simp] theorem bump_counts (c : Counter) (b : Block) : (bump c b).counts = (bumpBy c 1 b).counts := rfl
@[simp] theorem notice_mgmt (kind : NoticeKind) (subject : NoticeSubject) (b : Block) :
    (notice kind subject b).mgmt = { b.mgmt with
      notices := noticeQueueAfter kind subject none b.mode.clock b.mgmt.notices } := rfl
@[simp] theorem admitFrame_line (c : UplinkClass) (f : UplinkContent) (b : Block) :
    (admitFrame c f b).line = { b.line with classes := b.line.classes.set (classIndex c) (classFrames b c ++ [f]) } := rfl

/-! ## Tables -/

@[simp] theorem setWrites_mode (l : List WriteProgress) (b : Block) : (setWrites l b).mode = b.mode := rfl
@[simp] theorem setWrites_price (l : List WriteProgress) (b : Block) : (setWrites l b).price = b.price := rfl
@[simp] theorem setWrites_items (l : List WriteProgress) (b : Block) : (setWrites l b).items = b.items := rfl
@[simp] theorem setWrites_labels (l : List WriteProgress) (b : Block) : (setWrites l b).labels = b.labels := rfl
@[simp] theorem setWrites_composer (l : List WriteProgress) (b : Block) : (setWrites l b).composer = b.composer := rfl
@[simp] theorem setWrites_radio (l : List WriteProgress) (b : Block) : (setWrites l b).radio = b.radio := rfl
@[simp] theorem setWrites_till (l : List WriteProgress) (b : Block) : (setWrites l b).till = b.till := rfl
@[simp] theorem setWrites_fwd (l : List WriteProgress) (b : Block) : (setWrites l b).fwd = b.fwd := rfl
@[simp] theorem setWrites_guest (l : List WriteProgress) (b : Block) : (setWrites l b).guest = b.guest := rfl
@[simp] theorem setWrites_line (l : List WriteProgress) (b : Block) : (setWrites l b).line = b.line := rfl
@[simp] theorem setWrites_exch (l : List WriteProgress) (b : Block) : (setWrites l b).exch = b.exch := rfl
@[simp] theorem setWrites_counts (l : List WriteProgress) (b : Block) : (setWrites l b).counts = b.counts := rfl
@[simp] theorem setWrites_time (l : List WriteProgress) (b : Block) : (setWrites l b).time = b.time := rfl
@[simp] theorem setWrites_pins (l : List WriteProgress) (b : Block) : (setWrites l b).pins = b.pins := rfl
@[simp] theorem setWrites_out (l : List WriteProgress) (b : Block) : (setWrites l b).out = b.out := rfl
@[simp] theorem setWrites_mgmt (l : List WriteProgress) (b : Block) :
    (setWrites l b).mgmt = { b.mgmt with writes := l } := rfl

end Sys2Proof.Machine
end

