-- ==== Sys2Proof/Laws/Touches.lean ====
section
/-! SUPPORT. What each operation may change: one lemma per operation, in a form that composes. If nothing but the parts of
`fs` changed from `b` to `c`, and `fs` has the parts the operation may change, then the same holds from `b` to the
operation's result on `c`. -/

namespace Sys2Proof.Machine

variable {fs : List Part} {b c : Block}

/-- A block differs from itself in nothing. -/
theorem Touches.refl (fs : List Part) (b : Block) : Touches fs b b := fun p _ => by cases p <;> rfl

/-- A part that is not listed is the same. -/
theorem Touches.keeps (h : Touches fs b c) (p : Part) (hp : p ∉ fs) : p.same b c := h p hp

/-- More parts may be listed. -/
theorem Touches.mono {gs : List Part} (h : Touches fs b c) (hs : ∀ p, p ∈ fs → p ∈ gs) : Touches gs b c :=
  fun p hp => h p (fun hq => hp (hs p hq))

/-- Two effects in turn. -/
theorem Touches.trans {d : Block} (h : Touches fs b c) (g : Touches fs c d) : Touches fs b d := fun p hp => by
  have h1 := h p hp
  have h2 := g p hp
  cases p <;> exact h1.trans h2

/-- Effects folded over a list. -/
theorem Touches.foldl {α : Type} {f : Block → α → Block} (hf : ∀ x d, Touches fs b d → Touches fs b (f d x)) (l : List α)
    (h : Touches fs b c) : Touches fs b (l.foldl f c) := by
  induction l generalizing c with
  | nil => exact h
  | cons x rest ih => exact ih (hf x c h)

theorem Touches.mode {x : ModeBlock} (h : Touches fs b c) (h1 : Part.mode ∈ fs) : Touches fs b { c with mode := x } := fun p hp => by
  cases p <;> first | exact absurd h1 hp | exact h _ hp
theorem Touches.price {x : PriceSettings} (h : Touches fs b c) (h1 : Part.price ∈ fs) : Touches fs b { c with price := x } := fun p hp => by
  cases p <;> first | exact absurd h1 hp | exact h _ hp
theorem Touches.items {x : ItemBlock} (h : Touches fs b c) (h1 : Part.items ∈ fs) : Touches fs b { c with items := x } := fun p hp => by
  cases p <;> first | exact absurd h1 hp | exact h _ hp
theorem Touches.labels {x : LabelBlock} (h : Touches fs b c) (h1 : Part.labels ∈ fs) : Touches fs b { c with labels := x } := fun p hp => by
  cases p <;> first | exact absurd h1 hp | exact h _ hp
theorem Touches.composer {x : ComposerBlock} (h : Touches fs b c) (h1 : Part.composer ∈ fs) : Touches fs b { c with composer := x } := fun p hp => by
  cases p <;> first | exact absurd h1 hp | exact h _ hp
theorem Touches.radio {x : RadioBlock} (h : Touches fs b c) (h1 : Part.radio ∈ fs) : Touches fs b { c with radio := x } := fun p hp => by
  cases p <;> first | exact absurd h1 hp | exact h _ hp
theorem Touches.till {x : TillBlock} (h : Touches fs b c) (h1 : Part.till ∈ fs) : Touches fs b { c with till := x } := fun p hp => by
  cases p <;> first | exact absurd h1 hp | exact h _ hp
theorem Touches.fwd {x : ForwarderBlock} (h : Touches fs b c) (h1 : Part.fwd ∈ fs) : Touches fs b { c with fwd := x } := fun p hp => by
  cases p <;> first | exact absurd h1 hp | exact h _ hp
theorem Touches.guest {x : GuestBlock} (h : Touches fs b c) (h1 : Part.guest ∈ fs) : Touches fs b { c with guest := x } := fun p hp => by
  cases p <;> first | exact absurd h1 hp | exact h _ hp
theorem Touches.line {x : LineBlock} (h : Touches fs b c) (h1 : Part.line ∈ fs) : Touches fs b { c with line := x } := fun p hp => by
  cases p <;> first | exact absurd h1 hp | exact h _ hp
theorem Touches.exch {x : ExchangeBlock} (h : Touches fs b c) (h1 : Part.exch ∈ fs) : Touches fs b { c with exch := x } := fun p hp => by
  cases p <;> first | exact absurd h1 hp | exact h _ hp
theorem Touches.mgmt {x : MgmtBlock} (h : Touches fs b c) (h1 : Part.mgmt ∈ fs) : Touches fs b { c with mgmt := x } := fun p hp => by
  cases p <;> first | exact absurd h1 hp | exact h _ hp
theorem Touches.counts {x : Vector Nat 61} (h : Touches fs b c) (h1 : Part.counts ∈ fs) : Touches fs b { c with counts := x } := fun p hp => by
  cases p <;> first | exact absurd h1 hp | exact h _ hp
theorem Touches.time {x : TimeBlock} (h : Touches fs b c) (h1 : Part.time ∈ fs) : Touches fs b { c with time := x } := fun p hp => by
  cases p <;> first | exact absurd h1 hp | exact h _ hp
theorem Touches.out {x : List Output} (h : Touches fs b c) (h1 : Part.out ∈ fs) : Touches fs b { c with out := x } := fun p hp => by
  cases p <;> first | exact absurd h1 hp | exact h _ hp

theorem Touches.bumpBy (k : Counter) (n : Nat) (h : Touches fs b c) (h1 : Part.counts ∈ fs) : Touches fs b (bumpBy
    k n c) := by
  exact h.counts h1

theorem Touches.bump (k : Counter) (h : Touches fs b c) (h1 : Part.counts ∈ fs) : Touches fs b (bump k c) := by
  unfold Machine.bump
  repeat (first | assumption | with_reducible apply Touches.bumpBy | with_reducible apply Touches.counts)

theorem Touches.emit (o : Output) (h : Touches fs b c) (h1 : Part.out ∈ fs) : Touches fs b (emit o c) := by
  exact h.out h1

theorem Touches.noticeWith (k : NoticeKind) (x : NoticeSubject) (r : Option QualClass) (h : Touches fs b c) (h1 :
    Part.mgmt ∈ fs) : Touches fs b (noticeWith k x r c) := by
  exact h.mgmt h1

theorem Touches.notice (k : NoticeKind) (x : NoticeSubject) (h : Touches fs b c) (h1 : Part.mgmt ∈ fs) : Touches
    fs b (notice k x c) := by
  unfold Machine.notice
  repeat (first | assumption | with_reducible apply Touches.noticeWith | with_reducible apply Touches.mgmt)

theorem Touches.sendLan (p : Port) (s : Segment) (d r : HwAddr) (x : LanOut) (h : Touches fs b c) (h1 : Part.out ∈
    fs) : Touches fs b (sendLan p s d r x c) := by
  unfold Machine.sendLan
  (repeat' split) <;> (repeat (first | assumption | with_reducible apply Touches.emit | with_reducible apply Touches.out))

theorem Touches.answerTill (s : TillSender) (a : TillAnswer) (h : Touches fs b c) (h1 : Part.out ∈ fs) : Touches
    fs b (answerTill s a c) := by
  unfold Machine.answerTill
  (repeat' split) <;> (repeat (first | assumption | with_reducible apply Touches.emit | with_reducible apply Touches.out))

theorem Touches.setClass (k : UplinkClass) (l : List UplinkContent) (h : Touches fs b c) (h1 : Part.line ∈ fs) :
    Touches fs b (setClass k l c) := by
  exact h.line h1

theorem Touches.admitFrame (k : UplinkClass) (f : UplinkContent) (h : Touches fs b c) (h1 : Part.line ∈ fs) :
    Touches fs b (admitFrame k f c) := by
  unfold Machine.admitFrame
  repeat (first | assumption | with_reducible apply Touches.setClass | with_reducible apply Touches.line)

theorem Touches.offer (k : UplinkClass) (f : UplinkContent) (h : Touches fs b c) (h1 : Part.line ∈ fs) (h2 :
    Part.counts ∈ fs) : Touches fs b (offer k f c) := by
  unfold Machine.offer
  (repeat' split) <;> (repeat (first | assumption | with_reducible apply Touches.admitFrame | with_reducible apply Touches.bump | with_reducible apply Touches.line | with_reducible apply Touches.counts))

theorem Touches.exchangeTake (f : UplinkContent) (h : Touches fs b c) (h1 : Part.line ∈ fs) (h2 : Part.counts ∈
    fs) : Touches fs b (exchangeTake f c) := by
  unfold Machine.exchangeTake
  (repeat' split) <;> (repeat (first | assumption | with_reducible apply Touches.admitFrame | with_reducible apply Touches.bump | with_reducible apply Touches.line | with_reducible apply Touches.counts))

theorem Touches.senderRefused (x : ExchangeSender) (h : Touches fs b c) (h1 : Part.line ∈ fs) : Touches fs b
    (senderRefused x c) := by
  unfold Machine.senderRefused
  (repeat' split) <;> (repeat (first | assumption | with_reducible apply Touches.line))

theorem Touches.senderServed (x : ExchangeSender) (h : Touches fs b c) (h1 : Part.line ∈ fs) : Touches fs b
    (senderServed x c) := by
  unfold Machine.senderServed
  repeat (first | assumption | with_reducible apply Touches.line)

theorem Touches.answerMgmt (s : MgmtSource) (t : Nat) (r : ReplyBody) (h : Touches fs b c) (h1 : Part.line ∈ fs)
    (h2 : Part.counts ∈ fs) (h3 : Part.out ∈ fs) : Touches fs b (answerMgmt s t r c) := by
  unfold Machine.answerMgmt
  (repeat' split) <;> (repeat (first | assumption | with_reducible apply Touches.emit | with_reducible apply Touches.offer | with_reducible apply Touches.line | with_reducible apply Touches.counts | with_reducible apply Touches.out))

theorem Touches.putItem (k : Nat) (i : Item) (h : Touches fs b c) (h1 : Part.items ∈ fs) : Touches fs b (putItem k
    i c) := by
  exact h.items h1

theorem Touches.takeReference (k : Nat) (s : Slot) (n : Nat) (h : Touches fs b c) (h1 : Part.items ∈ fs) : Touches
    fs b (takeReference k s n c) := by
  unfold Machine.takeReference
  (repeat' split) <;> (repeat (first | assumption | with_reducible apply Touches.putItem | with_reducible apply Touches.items))

theorem Touches.releaseReference (k : Nat) (s : Slot) (n : Nat) (h : Touches fs b c) (h1 : Part.items ∈ fs) :
    Touches fs b (releaseReference k s n c) := by
  unfold Machine.releaseReference
  (repeat' split) <;> (repeat (first | assumption | with_reducible apply Touches.putItem | with_reducible apply Touches.items))

theorem Touches.bindToItem (k i : Nat) (h : Touches fs b c) (h1 : Part.items ∈ fs) : Touches fs b (bindToItem k i
    c) := by
  unfold Machine.bindToItem
  (repeat' split) <;> (repeat (first | assumption | with_reducible apply Touches.putItem | with_reducible apply Touches.items))

theorem Touches.unbindFromItem (k i : Nat) (h : Touches fs b c) (h1 : Part.items ∈ fs) : Touches fs b
    (unbindFromItem k i c) := by
  unfold Machine.unbindFromItem
  (repeat' split) <;> (repeat (first | assumption | with_reducible apply Touches.putItem | with_reducible apply Touches.items))

theorem Touches.handOn (x : Handoff) (h : Touches fs b c) (h1 : Part.labels ∈ fs) : Touches fs b (handOn x c) := by
  exact h.labels h1

theorem Touches.joinPending (k : Nat) (h : Touches fs b c) (h1 : Part.items ∈ fs) : Touches fs b (joinPending k c)
    := by
  exact h.items h1

theorem Touches.leavePending (k : Nat) (h : Touches fs b c) (h1 : Part.items ∈ fs) : Touches fs b (leavePending k
    c) := by
  exact h.items h1

theorem Touches.noteHeld (k : Nat) (s : VersionStatus) (h : Touches fs b c) (h1 : Part.mgmt ∈ fs) : Touches fs b
    (noteHeld k s c) := by
  unfold Machine.noteHeld
  (repeat' split) <;> (repeat (first | assumption | with_reducible apply Touches.notice | with_reducible apply Touches.mgmt))

theorem Touches.notePending (k : Nat) (e : Effect) (h : Touches fs b c) (h1 : Part.items ∈ fs) : Touches fs b
    (notePending k e c) := by
  unfold Machine.notePending
  (repeat' split) <;> (repeat (first | assumption | with_reducible apply Touches.joinPending | with_reducible apply Touches.items))

theorem Touches.applyPrice (r : PriceRecord) (h : Touches fs b c) (h1 : Part.items ∈ fs) (h2 : Part.labels ∈ fs)
    (h3 : Part.mgmt ∈ fs) : Touches fs b (applyPrice r c).1 := by
  unfold Machine.applyPrice
  (repeat' split) <;> (repeat (first | assumption | with_reducible apply Touches.handOn | with_reducible apply Touches.noteHeld | with_reducible apply Touches.notePending | with_reducible apply Touches.putItem | with_reducible apply Touches.items | with_reducible apply Touches.labels | with_reducible apply Touches.mgmt))

theorem Touches.applyDescription (k : Nat) (t : Text) (h : Touches fs b c) (h1 : Part.items ∈ fs) (h2 :
    Part.labels ∈ fs) : Touches fs b (applyDescription k t c).1 := by
  unfold Machine.applyDescription
  (repeat' split) <;> (repeat (first | assumption | with_reducible apply Touches.handOn | with_reducible apply Touches.putItem | with_reducible apply Touches.items | with_reducible apply Touches.labels))

theorem Touches.applyWithdraw (k : Nat) (h : Touches fs b c) (h1 : Part.items ∈ fs) : Touches fs b (applyWithdraw
    k c).1 := by
  unfold Machine.applyWithdraw
  (repeat' split) <;> (repeat (first | assumption | with_reducible apply Touches.items))

theorem Touches.releaseFound (k : Nat) (i : Item) (h : Touches fs b c) (h1 : Part.items ∈ fs) (h2 : Part.labels ∈
    fs) (h3 : Part.mgmt ∈ fs) : Touches fs b (releaseFound k i c).1 := by
  unfold Machine.releaseFound
  dsimp only
  split <;> split <;>
    (repeat (first | assumption | with_reducible apply Touches.handOn | with_reducible apply Touches.notice | with_reducible apply Touches.putItem | (simp only [id_eq])))

theorem Touches.applyRelease (k : Nat) (h : Touches fs b c) (h1 : Part.items ∈ fs) (h2 : Part.labels ∈ fs) (h3 :
    Part.mgmt ∈ fs) : Touches fs b (applyRelease k c).1 := by
  unfold Machine.applyRelease
  (repeat' split) <;> (repeat (first | assumption | with_reducible apply Touches.releaseFound | with_reducible apply Touches.items | with_reducible apply Touches.labels | with_reducible apply Touches.mgmt))

theorem Touches.activateOne (k : Nat) (h : Touches fs b c) (h1 : Part.items ∈ fs) (h2 : Part.mgmt ∈ fs) : Touches
    fs b (activateOne k c) := by
  unfold Machine.activateOne
  (repeat' split) <;> (repeat (first | assumption | with_reducible apply Touches.leavePending | with_reducible apply Touches.putItem | with_reducible apply Touches.notice | with_reducible apply Touches.items | with_reducible apply Touches.mgmt))

theorem Touches.activateAll (l : List Nat) (h : Touches fs b c) (h1 : Part.items ∈ fs) (h2 : Part.mgmt ∈ fs) :
    Touches fs b (activateAll l c) := by
  exact Touches.foldl (fun x d hd => Touches.activateOne x hd h1 h2) l h

theorem Touches.beginSweep (l : List Nat) (h : Touches fs b c) (h1 : Part.labels ∈ fs) : Touches fs b (beginSweep
    l c) := by
  exact h.labels h1

theorem Touches.activate (h : Touches fs b c) (h1 : Part.items ∈ fs) (h2 : Part.labels ∈ fs) (h3 : Part.mgmt ∈ fs)
    : Touches fs b (activate c) := by
  unfold Machine.activate
  repeat (first | assumption | with_reducible apply Touches.beginSweep | with_reducible apply Touches.activateAll | with_reducible apply Touches.items | with_reducible apply Touches.labels | with_reducible apply Touches.mgmt)

theorem Touches.putLabel (i : Nat) (l : Label) (h : Touches fs b c) (h1 : Part.labels ∈ fs) : Touches fs b
    (putLabel i l c) := by
  exact h.labels h1

theorem Touches.modifyLabel (i : Nat) (f : Label → Label) (h : Touches fs b c) (h1 : Part.labels ∈ fs) : Touches
    fs b (modifyLabel i f c) := by
  unfold Machine.modifyLabel
  (repeat' split) <;> (repeat (first | assumption | with_reducible apply Touches.putLabel | with_reducible apply Touches.labels))

theorem Touches.withLabel {g : Label → Block → Block} (i : Nat) (h : Touches fs b c)
    (hg : ∀ l d, Touches fs b d → Touches fs b (g l d)) : Touches fs b (withLabel i g c) := by
  unfold Machine.withLabel
  split
  · exact hg _ _ h
  · exact h

theorem Touches.enqueue (i : Nat) (h : Touches fs b c) (h1 : Part.labels ∈ fs) : Touches fs b (enqueue i c) := by
  unfold Machine.enqueue
  refine Touches.withLabel i h (fun l d hd => ?_)
  try dsimp only
  split
  · split
    · exact (Touches.putLabel _ _ hd h1).labels h1
    · exact Touches.putLabel _ _ hd h1
  · exact (Touches.putLabel _ _ hd h1).labels h1

theorem Touches.settle (i : Nat) (h : Touches fs b c) (h1 : Part.labels ∈ fs) : Touches fs b (settle i c) := by
  unfold Machine.settle
  refine Touches.withLabel i h (fun l d hd => ?_)
  try dsimp only
  (repeat' split) <;> (repeat (first | assumption | with_reducible apply Touches.enqueue | with_reducible apply Touches.putLabel | with_reducible apply Touches.labels))

theorem Touches.settleIfSettled (i : Nat) (h : Touches fs b c) (h1 : Part.labels ∈ fs) : Touches fs b
    (settleIfSettled i c) := by
  unfold Machine.settleIfSettled
  refine Touches.withLabel i h (fun l d hd => ?_)
  try dsimp only
  (repeat' split) <;> (repeat (first | assumption | with_reducible apply Touches.settle | with_reducible apply Touches.labels))

theorem Touches.becomeUncertain (i : Nat) (h : Touches fs b c) (h1 : Part.labels ∈ fs) : Touches fs b
    (becomeUncertain i c) := by
  unfold Machine.becomeUncertain
  repeat (first | assumption | with_reducible apply Touches.enqueue | with_reducible apply Touches.modifyLabel | with_reducible apply Touches.labels)

theorem Touches.returnFailed (i : Nat) (h : Touches fs b c) (h1 : Part.labels ∈ fs) : Touches fs b (returnFailed i
    c) := by
  unfold Machine.returnFailed
  refine Touches.withLabel i h (fun l d hd => ?_)
  try dsimp only
  (repeat' split) <;> (repeat (first | assumption | with_reducible apply Touches.becomeUncertain | with_reducible apply Touches.settle | with_reducible apply Touches.putLabel | with_reducible apply Touches.labels))

theorem Touches.retargetLabel (i : Nat) (h : Touches fs b c) (h1 : Part.labels ∈ fs) : Touches fs b (retargetLabel
    i c) := by
  unfold Machine.retargetLabel
  refine Touches.withLabel i h (fun l d hd => ?_)
  try dsimp only
  (repeat' split) <;> (repeat (first | assumption | with_reducible apply Touches.settle | with_reducible apply Touches.putLabel | with_reducible apply Touches.enqueue | with_reducible apply Touches.returnFailed | with_reducible apply Touches.labels))

theorem Touches.retargetLabels (l : List Nat) (h : Touches fs b c) (h1 : Part.labels ∈ fs) : Touches fs b
    (retargetLabels l c) := by
  exact Touches.foldl (fun x d hd => Touches.retargetLabel x hd h1) l h

theorem Touches.markRedrawn (x : Handoff) (i : Nat) (h : Touches fs b c) (h1 : Part.labels ∈ fs) : Touches fs b
    (markRedrawn x i c) := by
  unfold Machine.markRedrawn
  repeat (first | assumption | with_reducible apply Touches.modifyLabel | with_reducible apply Touches.labels)

theorem Touches.takeHandoff (x : Handoff) (h : Touches fs b c) (h1 : Part.labels ∈ fs) : Touches fs b (takeHandoff
    x c) := by
  unfold Machine.takeHandoff
  exact Touches.retargetLabels _ (Touches.foldl (fun y d hd => Touches.markRedrawn x y hd h1) _ h) h1

theorem Touches.itemRetarget (h : Touches fs b c) (h1 : Part.labels ∈ fs) : Touches fs b (itemRetarget c) := by
  unfold Machine.itemRetarget
  split
  · exact h
  · exact Touches.takeHandoff _ (h.labels h1) h1

theorem Touches.templateWritten (i : Nat) (h : Touches fs b c) (h1 : Part.labels ∈ fs) : Touches fs b
    (templateWritten i c) := by
  unfold Machine.templateWritten
  refine Touches.withLabel i h (fun l d hd => ?_)
  try dsimp only
  (repeat' split) <;> (repeat (first | assumption | with_reducible apply Touches.returnFailed | with_reducible apply Touches.settle | with_reducible apply Touches.putLabel | with_reducible apply Touches.labels))

theorem Touches.templateRetarget (h : Touches fs b c) (h1 : Part.labels ∈ fs) : Touches fs b (templateRetarget c)
    := by
  unfold Machine.templateRetarget
  split
  · exact h
  · exact Touches.foldl (fun y d hd => Touches.templateWritten y hd h1) _ (h.labels h1)

theorem Touches.sweepVisit (h : Touches fs b c) (h1 : Part.labels ∈ fs) : Touches fs b (sweepVisit c) := by
  unfold Machine.sweepVisit
  split
  · exact h
  · exact Touches.retargetLabels _ (h.labels h1) h1

theorem Touches.releaseWhat (w : RefWhat) (h : Touches fs b c) (h1 : Part.items ∈ fs) : Touches fs b (releaseWhat
    w c) := by
  unfold Machine.releaseWhat
  (repeat' split) <;> (repeat (first | assumption | with_reducible apply Touches.releaseReference | with_reducible apply Touches.items))

theorem Touches.releaseConfirmed (l : Label) (h : Touches fs b c) (h1 : Part.items ∈ fs) : Touches fs b
    (releaseConfirmed l c) := by
  unfold Machine.releaseConfirmed
  (repeat' split) <;> (repeat (first | assumption | with_reducible apply Touches.releaseWhat | with_reducible apply Touches.items))

theorem Touches.releaseInFlight (l : Label) (h : Touches fs b c) (h1 : Part.items ∈ fs) : Touches fs b
    (releaseInFlight l c) := by
  unfold Machine.releaseInFlight
  (repeat' split) <;> (repeat (first | assumption | with_reducible apply Touches.releaseWhat | with_reducible apply Touches.items))

theorem Touches.leaveStyle (i : Nat) (h : Touches fs b c) (h1 : Part.composer ∈ fs) : Touches fs b (leaveStyle i
    c) := by
  exact h.composer h1

theorem Touches.leaveStyleUnconfirmed (i : Nat) (l : Label) (h : Touches fs b c) (h1 : Part.composer ∈ fs) :
    Touches fs b (leaveStyleUnconfirmed i l c) := by
  unfold Machine.leaveStyleUnconfirmed
  (repeat' split) <;> (repeat (first | assumption | with_reducible apply Touches.leaveStyle | with_reducible apply Touches.composer))

theorem Touches.dropInFlight (i : Nat) (h : Touches fs b c) (h1 : Part.items ∈ fs) (h2 : Part.labels ∈ fs) (h3 :
    Part.composer ∈ fs) : Touches fs b (dropInFlight i c) := by
  unfold Machine.dropInFlight
  refine Touches.withLabel i h (fun l d hd => ?_)
  try dsimp only
  repeat (first | assumption | with_reducible apply Touches.leaveStyleUnconfirmed | with_reducible apply Touches.releaseInFlight | with_reducible apply Touches.putLabel | with_reducible apply Touches.items | with_reducible apply Touches.labels | with_reducible apply Touches.composer)

theorem Touches.dropBoth (i : Nat) (h : Touches fs b c) (h1 : Part.items ∈ fs) (h2 : Part.labels ∈ fs) (h3 :
    Part.composer ∈ fs) : Touches fs b (dropBoth i c) := by
  unfold Machine.dropBoth
  refine Touches.withLabel i h (fun l d hd => ?_)
  try dsimp only
  repeat (first | assumption | with_reducible apply Touches.leaveStyleUnconfirmed | with_reducible apply Touches.releaseInFlight | with_reducible apply Touches.releaseConfirmed | with_reducible apply Touches.putLabel | with_reducible apply Touches.items | with_reducible apply Touches.labels | with_reducible apply Touches.composer)

theorem Touches.giveUpBinding (i : Nat) (m t : Option Nat) (h : Touches fs b c) (h1 : Part.items ∈ fs) (h2 :
    Part.labels ∈ fs) (h3 : Part.composer ∈ fs) : Touches fs b (giveUpBinding i m t c) := by
  unfold Machine.giveUpBinding
  refine Touches.withLabel i h (fun l d hd => ?_)
  try dsimp only
  refine Touches.leaveStyle _ ?_ h3
  have hp := Touches.releaseInFlight l (Touches.releaseConfirmed l (Touches.putLabel i { l with
    confirmed := none, inFlight := none, item := m, template := t, binding := .foreign, retry := 0,
    marks := clearMarks, oversize := false } hd h2) h1) h1
  generalize l.item = x
  cases x with
  | none => exact hp
  | some old => exact Touches.unbindFromItem old i hp h1

theorem Touches.applyRebind (i k t : Nat) (h : Touches fs b c) (h1 : Part.items ∈ fs) (h2 : Part.labels ∈ fs) (h3
    : Part.composer ∈ fs) : Touches fs b (applyRebind i k t c) := by
  unfold Machine.applyRebind
  repeat (first | assumption | with_reducible apply Touches.settle | with_reducible apply Touches.bindToItem | with_reducible apply Touches.giveUpBinding | with_reducible apply Touches.items | with_reducible apply Touches.labels | with_reducible apply Touches.composer)

theorem Touches.applyUnbind (i : Nat) (h : Touches fs b c) (h1 : Part.items ∈ fs) (h2 : Part.labels ∈ fs) (h3 :
    Part.composer ∈ fs) : Touches fs b (applyUnbind i c) := by
  unfold Machine.applyUnbind
  refine Touches.withLabel i h (fun l d hd => ?_)
  try dsimp only
  (repeat' split) <;> repeat (first | assumption | with_reducible apply Touches.settle | with_reducible apply Touches.giveUpBinding | with_reducible apply Touches.items | with_reducible apply Touches.labels | with_reducible apply Touches.composer)

theorem Touches.applyTemplate (i t : Nat) (h : Touches fs b c) (h1 : Part.labels ∈ fs) : Touches fs b
    (applyTemplate i t c) := by
  unfold Machine.applyTemplate
  refine Touches.withLabel i h (fun l d hd => ?_)
  try dsimp only
  (repeat' split) <;> (repeat (first | assumption | with_reducible apply Touches.returnFailed | with_reducible apply Touches.settle | with_reducible apply Touches.putLabel | with_reducible apply Touches.labels))

theorem Touches.applySameItem (i t : Nat) (l : Label) (h : Touches fs b c) (h1 : Part.labels ∈ fs) : Touches fs b
    (applySameItem i t l c) := by
  unfold Machine.applySameItem
  (repeat' split) <;> (repeat (first | assumption | with_reducible apply Touches.applyTemplate | with_reducible apply Touches.labels))

theorem Touches.applyDeferredBind (i k t : Nat) (l : Label) (h : Touches fs b c) (h1 : Part.items ∈ fs) (h2 :
    Part.labels ∈ fs) (h3 : Part.composer ∈ fs) (h4 : Part.mgmt ∈ fs) : Touches fs b (applyDeferredBind i k t l c)
    := by
  unfold Machine.applyDeferredBind
  (repeat' split) <;> (repeat (first | assumption | with_reducible apply Touches.settleIfSettled | with_reducible apply Touches.applySameItem | with_reducible apply Touches.applyRebind | with_reducible apply Touches.notice | with_reducible apply Touches.applyUnbind | with_reducible apply Touches.items | with_reducible apply Touches.labels | with_reducible apply Touches.composer | with_reducible apply Touches.mgmt))

theorem Touches.applyNext (i : Nat) (h : Touches fs b c) (h1 : Part.items ∈ fs) (h2 : Part.labels ∈ fs) (h3 :
    Part.composer ∈ fs) (h4 : Part.mgmt ∈ fs) : Touches fs b (applyNext i c) := by
  unfold Machine.applyNext
  refine Touches.withLabel i h (fun l d hd => ?_)
  try dsimp only
  (repeat' split) <;> (repeat (first | assumption | with_reducible apply Touches.applyDeferredBind | with_reducible apply Touches.applyUnbind | with_reducible apply Touches.putLabel | with_reducible apply Touches.items | with_reducible apply Touches.labels | with_reducible apply Touches.composer | with_reducible apply Touches.mgmt))

theorem Touches.applyLabel (i : Nat) (k : Coded DisplayClass) (h : Touches fs b c) (h1 : Part.labels ∈ fs) :
    Touches fs b (applyLabel i k c).1 := by
  unfold Machine.applyLabel
  (repeat' split) <;> (repeat (first | assumption | with_reducible apply Touches.putLabel | with_reducible apply Touches.labels))

theorem Touches.storeNext (i : Nat) (n : NextBinding) (h : Touches fs b c) (h1 : Part.labels ∈ fs) : Touches fs b
    (storeNext i n c) := by
  unfold Machine.storeNext
  repeat (first | assumption | with_reducible apply Touches.modifyLabel | with_reducible apply Touches.labels)

theorem Touches.bindChecked (i k t : Nat) (l : Label) (m : Item) (h : Touches fs b c) (h1 : Part.items ∈ fs) (h2 :
    Part.labels ∈ fs) (h3 : Part.composer ∈ fs) : Touches fs b (bindChecked i k t l m c).1 := by
  unfold Machine.bindChecked
  (repeat' split) <;> (repeat (first | assumption | with_reducible apply Touches.storeNext | with_reducible apply Touches.applySameItem | with_reducible apply Touches.applyRebind | with_reducible apply Touches.items | with_reducible apply Touches.labels | with_reducible apply Touches.composer))

theorem Touches.applyBind (i k t : Nat) (h : Touches fs b c) (h1 : Part.items ∈ fs) (h2 : Part.labels ∈ fs) (h3 :
    Part.composer ∈ fs) : Touches fs b (applyBind i k t c).1 := by
  unfold Machine.applyBind
  (repeat' split) <;> (repeat (first | assumption | with_reducible apply Touches.bindChecked | with_reducible apply Touches.items | with_reducible apply Touches.labels | with_reducible apply Touches.composer))

theorem Touches.applyUnbindRecord (i : Nat) (h : Touches fs b c) (h1 : Part.items ∈ fs) (h2 : Part.labels ∈ fs)
    (h3 : Part.composer ∈ fs) : Touches fs b (applyUnbindRecord i c).1 := by
  unfold Machine.applyUnbindRecord
  (repeat' split) <;> (repeat (first | assumption | with_reducible apply Touches.storeNext | with_reducible apply Touches.applyUnbind | with_reducible apply Touches.items | with_reducible apply Touches.labels | with_reducible apply Touches.composer))

theorem Touches.applyTemplateRecord (i t : Nat) (h : Touches fs b c) (h1 : Part.items ∈ fs) (h2 : Part.labels ∈
    fs) (h3 : Part.composer ∈ fs) : Touches fs b (applyTemplateRecord i t c).1 := by
  unfold Machine.applyTemplateRecord
  (repeat' split) <;> (repeat (first | assumption | with_reducible apply Touches.applyTemplate | with_reducible apply Touches.items | with_reducible apply Touches.labels | with_reducible apply Touches.composer))

theorem Touches.transmissionHeard (i : Nat) (h : Touches fs b c) (h1 : Part.labels ∈ fs) (h2 : Part.mgmt ∈ fs) :
    Touches fs b (transmissionHeard i c) := by
  unfold Machine.transmissionHeard
  refine Touches.withLabel i h (fun l d hd => ?_)
  try dsimp only
  split
  · exact Touches.notice _ _ (Touches.putLabel _ _ hd h1) h2
  · exact Touches.putLabel _ _ hd h1

theorem Touches.presenceAtCycle (k i : Nat) (h : Touches fs b c) (h1 : Part.labels ∈ fs) (h2 : Part.mgmt ∈ fs) :
    Touches fs b (presenceAtCycle k i c) := by
  unfold Machine.presenceAtCycle
  refine Touches.withLabel i h (fun l d hd => ?_)
  try dsimp only
  (repeat' split) <;> (repeat (first | assumption | with_reducible apply Touches.notice | with_reducible apply Touches.putLabel | with_reducible apply Touches.labels | with_reducible apply Touches.mgmt))

theorem Touches.presenceCheck (k : Nat) (h : Touches fs b c) (h1 : Part.labels ∈ fs) (h2 : Part.mgmt ∈ fs) :
    Touches fs b (presenceCheck k c) := by
  exact Touches.foldl (fun x d hd => Touches.presenceAtCycle k x hd h1 h2) _ h

theorem Touches.endTransaction (i : Nat) (h : Touches fs b c) (h1 : Part.items ∈ fs) (h2 : Part.labels ∈ fs) (h3 :
    Part.composer ∈ fs) (h4 : Part.mgmt ∈ fs) : Touches fs b (endTransaction i c) := by
  unfold Machine.endTransaction
  refine Touches.withLabel i h (fun l d hd => ?_)
  try dsimp only
  (repeat' split) <;> (repeat (first | assumption | with_reducible apply Touches.settle | with_reducible apply Touches.applyNext | with_reducible apply Touches.items | with_reducible apply Touches.labels | with_reducible apply Touches.composer | with_reducible apply Touches.mgmt))

theorem Touches.confirmInFlight (i : Nat) (f : InFlight) (h : Touches fs b c) (h1 : Part.items ∈ fs) (h2 :
    Part.labels ∈ fs) (h3 : Part.composer ∈ fs) (h4 : Part.mgmt ∈ fs) : Touches fs b (confirmInFlight i f c) := by
  unfold Machine.confirmInFlight
  refine Touches.withLabel i h (fun l d hd => ?_)
  try dsimp only
  repeat (first | assumption | with_reducible apply Touches.endTransaction | with_reducible apply Touches.releaseConfirmed | with_reducible apply Touches.putLabel | with_reducible apply Touches.items | with_reducible apply Touches.labels | with_reducible apply Touches.composer | with_reducible apply Touches.mgmt)

theorem Touches.resolveReport (i t : Nat) (k : Option Nat) (h : Touches fs b c) (h1 : Part.items ∈ fs) (h2 :
    Part.labels ∈ fs) (h3 : Part.composer ∈ fs) (h4 : Part.mgmt ∈ fs) : Touches fs b (resolveReport i t k c) := by
  unfold Machine.resolveReport
  refine Touches.withLabel i h (fun l d hd => ?_)
  try dsimp only
  (repeat' split) <;> (repeat (first | assumption | with_reducible apply Touches.confirmInFlight | with_reducible apply Touches.endTransaction | with_reducible apply Touches.dropInFlight | with_reducible apply Touches.putLabel | with_reducible apply Touches.dropBoth | with_reducible apply Touches.items | with_reducible apply Touches.labels | with_reducible apply Touches.composer | with_reducible apply Touches.mgmt))

theorem Touches.becomeFailed (i : Nat) (h : Touches fs b c) (h1 : Part.labels ∈ fs) (h2 : Part.mgmt ∈ fs) :
    Touches fs b (becomeFailed i c) := by
  unfold Machine.becomeFailed
  repeat (first | assumption | with_reducible apply Touches.notice | with_reducible apply Touches.modifyLabel | with_reducible apply Touches.labels | with_reducible apply Touches.mgmt)

theorem Touches.storeTarget (i : Nat) (h : Touches fs b c) (h1 : Part.labels ∈ fs) : Touches fs b (storeTarget i c) := by
  unfold Machine.storeTarget
  exact Touches.withLabel i h (fun l d hd => Touches.putLabel _ _ hd h1)

theorem Touches.outcomeAck (i t : Nat) (h : Touches fs b c) (h1 : Part.items ∈ fs) (h2 : Part.labels ∈ fs) (h3 :
    Part.composer ∈ fs) (h4 : Part.mgmt ∈ fs) (h5 : Part.counts ∈ fs) : Touches fs b (outcomeAck i t c) := by
  unfold Machine.outcomeAck
  refine Touches.withLabel i h (fun l d hd => ?_)
  try dsimp only
  (repeat' split) <;> (repeat (first | assumption | with_reducible apply Touches.confirmInFlight | with_reducible apply Touches.resolveReport | with_reducible apply Touches.bump | with_reducible apply Touches.items | with_reducible apply Touches.labels | with_reducible apply Touches.composer | with_reducible apply Touches.mgmt | with_reducible apply Touches.counts))

theorem Touches.outcomeNakBase (i : Nat) (h : Touches fs b c) (h1 : Part.items ∈ fs) (h2 : Part.labels ∈ fs) (h3 :
    Part.composer ∈ fs) (h4 : Part.mgmt ∈ fs) (h5 : Part.counts ∈ fs) : Touches fs b (outcomeNakBase i c) := by
  unfold Machine.outcomeNakBase
  refine Touches.withLabel i h (fun l d hd => ?_)
  try dsimp only
  (repeat' split) <;> (repeat (first | assumption | with_reducible apply Touches.settle | with_reducible apply Touches.applyNext | with_reducible apply Touches.modifyLabel | with_reducible apply Touches.dropInFlight | with_reducible apply Touches.bump | with_reducible apply Touches.items | with_reducible apply Touches.labels | with_reducible apply Touches.composer | with_reducible apply Touches.mgmt | with_reducible apply Touches.counts))

theorem Touches.afterNakCheck (i : Nat) (h : Touches fs b c) (h1 : Part.items ∈ fs) (h2 : Part.labels ∈ fs) (h3 :
    Part.composer ∈ fs) (h4 : Part.mgmt ∈ fs) : Touches fs b (afterNakCheck i c) := by
  unfold Machine.afterNakCheck
  refine Touches.withLabel i h (fun l d hd => ?_)
  try dsimp only
  (repeat' split) <;> (repeat (first | assumption | with_reducible apply Touches.applyNext | with_reducible apply Touches.becomeFailed | with_reducible apply Touches.storeTarget | with_reducible apply Touches.settle | with_reducible apply Touches.items | with_reducible apply Touches.labels | with_reducible apply Touches.composer | with_reducible apply Touches.mgmt))

theorem Touches.outcomeNakCheck (i : Nat) (h : Touches fs b c) (h1 : Part.items ∈ fs) (h2 : Part.labels ∈ fs) (h3
    : Part.composer ∈ fs) (h4 : Part.mgmt ∈ fs) (h5 : Part.counts ∈ fs) : Touches fs b (outcomeNakCheck i c) := by
  unfold Machine.outcomeNakCheck
  refine Touches.withLabel i h (fun l d hd => ?_)
  try dsimp only
  (repeat' split) <;> (repeat (first | assumption | with_reducible apply Touches.afterNakCheck | with_reducible apply Touches.modifyLabel | with_reducible apply Touches.dropInFlight | with_reducible apply Touches.bump | with_reducible apply Touches.items | with_reducible apply Touches.labels | with_reducible apply Touches.composer | with_reducible apply Touches.mgmt | with_reducible apply Touches.counts))

theorem Touches.afterNoReply (i : Nat) (h : Touches fs b c) (h1 : Part.labels ∈ fs) (h2 : Part.mgmt ∈ fs) :
    Touches fs b (afterNoReply i c) := by
  unfold Machine.afterNoReply
  refine Touches.withLabel i h (fun l d hd => ?_)
  try dsimp only
  (repeat' split) <;> (repeat (first | assumption | with_reducible apply Touches.becomeFailed | with_reducible apply Touches.becomeUncertain | with_reducible apply Touches.labels | with_reducible apply Touches.mgmt))

theorem Touches.outcomeNoReply (i : Nat) (h : Touches fs b c) (h1 : Part.items ∈ fs) (h2 : Part.labels ∈ fs) (h3 :
    Part.composer ∈ fs) (h4 : Part.mgmt ∈ fs) (h5 : Part.counts ∈ fs) : Touches fs b (outcomeNoReply i c) := by
  unfold Machine.outcomeNoReply
  refine Touches.withLabel i h (fun l d hd => ?_)
  try dsimp only
  (repeat' split) <;> (repeat (first | assumption | with_reducible apply Touches.applyNext | with_reducible apply Touches.afterNoReply | with_reducible apply Touches.storeTarget | with_reducible apply Touches.putLabel | with_reducible apply Touches.bump | with_reducible apply Touches.items | with_reducible apply Touches.labels | with_reducible apply Touches.composer | with_reducible apply Touches.mgmt | with_reducible apply Touches.counts))

theorem Touches.outcomeQueryNoReply (i : Nat) (h : Touches fs b c) (h1 : Part.labels ∈ fs) (h2 : Part.mgmt ∈ fs)
    (h3 : Part.counts ∈ fs) : Touches fs b (outcomeQueryNoReply i c) := by
  unfold Machine.outcomeQueryNoReply
  refine Touches.withLabel i h (fun l d hd => ?_)
  try dsimp only
  (repeat' split) <;> (repeat (first | assumption | with_reducible apply Touches.afterNoReply | with_reducible apply Touches.storeTarget | with_reducible apply Touches.putLabel | with_reducible apply Touches.bump | with_reducible apply Touches.labels | with_reducible apply Touches.mgmt | with_reducible apply Touches.counts))

theorem Touches.outcomeReport (i t : Nat) (h : Touches fs b c) (h1 : Part.items ∈ fs) (h2 : Part.labels ∈ fs) (h3 :
    Part.composer ∈ fs) (h4 : Part.mgmt ∈ fs) : Touches fs b (outcomeReport i t c) := by
  unfold Machine.outcomeReport
  refine Touches.withLabel i h (fun l d hd => ?_)
  have hr := Touches.resolveReport i t none hd h1 h2 h3 h4
  split
  · exact Touches.retargetLabel i hr h2
  · exact hr

theorem Touches.checkInReport (i t k : Nat) (h : Touches fs b c) (h1 : Part.items ∈ fs) (h2 : Part.labels ∈ fs)
    (h3 : Part.composer ∈ fs) (h4 : Part.mgmt ∈ fs) : Touches fs b (checkInReport i t k c) := by
  unfold Machine.checkInReport
  refine Touches.withLabel i h (fun l d hd => ?_)
  try dsimp only
  (repeat' split) <;> (repeat (first | assumption | with_reducible apply Touches.confirmInFlight | with_reducible apply Touches.resolveReport | with_reducible apply Touches.returnFailed | with_reducible apply Touches.items | with_reducible apply Touches.labels | with_reducible apply Touches.composer | with_reducible apply Touches.mgmt))

theorem Touches.takeCheckIn (i t y k : Nat) (h : Touches fs b c) (h1 : Part.items ∈ fs) (h2 : Part.labels ∈ fs)
    (h3 : Part.composer ∈ fs) (h4 : Part.mgmt ∈ fs) : Touches fs b (takeCheckIn i t y k c) := by
  unfold Machine.takeCheckIn
  repeat (first | assumption | with_reducible apply Touches.checkInReport | with_reducible apply Touches.modifyLabel | with_reducible apply Touches.transmissionHeard | with_reducible apply Touches.items | with_reducible apply Touches.labels | with_reducible apply Touches.composer | with_reducible apply Touches.mgmt)

theorem Touches.forceLabel (i : Nat) (l : Label) (h : Touches fs b c) (h1 : Part.labels ∈ fs) : Touches fs b
    (forceLabel i l c) := by
  unfold Machine.forceLabel
  (repeat' split) <;> (repeat (first | assumption | with_reducible apply Touches.returnFailed | with_reducible apply Touches.putLabel | with_reducible apply Touches.enqueue | with_reducible apply Touches.settle | with_reducible apply Touches.labels))

theorem Touches.applyForce (i : Nat) (h : Touches fs b c) (h1 : Part.labels ∈ fs) : Touches fs b (applyForce i
    c).1 := by
  unfold Machine.applyForce
  (repeat' split) <;> (repeat (first | assumption | with_reducible apply Touches.forceLabel | with_reducible apply Touches.labels))

theorem Touches.restartLabel (i : Nat) (h : Touches fs b c) (h1 : Part.items ∈ fs) (h2 : Part.labels ∈ fs) (h3 :
    Part.composer ∈ fs) (h4 : Part.mgmt ∈ fs) : Touches fs b (restartLabel i c) := by
  unfold Machine.restartLabel
  refine Touches.withLabel i h (fun l d hd => ?_)
  try dsimp only
  (repeat' split) <;> (repeat (first | assumption | with_reducible apply Touches.applyNext | with_reducible apply Touches.becomeUncertain | with_reducible apply Touches.items | with_reducible apply Touches.labels | with_reducible apply Touches.composer | with_reducible apply Touches.mgmt))

theorem Touches.restartPresence (k : Nat) (h : Touches fs b c) (h1 : Part.labels ∈ fs) : Touches fs b
    (restartPresence k c) := by
  exact h.labels h1

theorem Touches.restartSweep (h : Touches fs b c) (h1 : Part.labels ∈ fs) : Touches fs b (restartSweep c) := by
  exact h.labels h1

theorem Touches.warmDirectory (k : Nat) (h : Touches fs b c) (h1 : Part.items ∈ fs) (h2 : Part.labels ∈ fs) (h3 :
    Part.composer ∈ fs) (h4 : Part.mgmt ∈ fs) : Touches fs b (warmDirectory k c) := by
  unfold Machine.warmDirectory
  exact Touches.restartSweep (Touches.restartPresence _
    (Touches.foldl (fun x d hd => Touches.restartLabel x hd h1 h2 h3 h4) _ h) h2) h2

theorem Touches.emptyStyle (h : Touches fs b c) (h1 : Part.composer ∈ fs) : Touches fs b (emptyStyle c) := by
  exact h.composer h1

theorem Touches.applyTemplateWrite (n : Fin 32) (w : TemplateWrite) (h : Touches fs b c) (h1 : Part.composer ∈ fs)
    (h2 : Part.labels ∈ fs) : Touches fs b (applyTemplateWrite n w c).1 := by
  unfold Machine.applyTemplateWrite
  split
  · exact h
  · split
    · intro p hp
      cases p <;> first | exact absurd h1 hp | exact absurd h2 hp | exact h _ hp
    · exact h

theorem Touches.applyFontWrite (f : Fin 4) (n : Nat) (h : Touches fs b c) (h1 : Part.composer ∈ fs) : Touches fs b
    (applyFontWrite f n c).1 := by
  unfold Machine.applyFontWrite
  (repeat' split) <;> (repeat (first | assumption | with_reducible apply Touches.emptyStyle | with_reducible apply Touches.composer))

theorem Touches.applyGlyphWrite (n : Fin 384) (w : GlyphWrite) (h : Touches fs b c) (h1 : Part.composer ∈ fs) :
    Touches fs b (applyGlyphWrite n w c).1 := by
  unfold Machine.applyGlyphWrite
  (repeat' split) <;> (repeat (first | assumption | with_reducible apply Touches.emptyStyle | with_reducible apply Touches.composer))

theorem Touches.sendFragments (k n : Nat) (l : List (List Byte)) (h : Touches fs b c) (h1 : Part.counts ∈ fs) (h2
    : Part.out ∈ fs) : Touches fs b (sendFragments k n l c) := by
  induction l generalizing n c with
  | nil => exact h
  | cons x rest ih => exact ih (n + 1) (Touches.bump _ (Touches.emit _ h h2) h1)

theorem Touches.beginEntry (e : PlanEntry) (h : Touches fs b c) (h1 : Part.counts ∈ fs) (h2 : Part.out ∈ fs) :
    Touches fs b (beginEntry e c) := by
  unfold Machine.beginEntry
  repeat (first | assumption | with_reducible apply Touches.sendFragments | with_reducible apply Touches.bump | with_reducible apply Touches.emit | with_reducible apply Touches.counts | with_reducible apply Touches.out)

theorem Touches.beginTransaction (h : Touches fs b c) (h1 : Part.counts ∈ fs) (h2 : Part.out ∈ fs) : Touches fs b
    (beginTransaction c) := by
  unfold Machine.beginTransaction
  (repeat' split) <;> (repeat (first | assumption | with_reducible apply Touches.beginEntry | with_reducible apply Touches.counts | with_reducible apply Touches.out))

theorem Touches.handOutcome (e : PlanEntry) (o : RadioOutcome) (h : Touches fs b c) (h1 : Part.items ∈ fs) (h2 :
    Part.labels ∈ fs) (h3 : Part.composer ∈ fs) (h4 : Part.mgmt ∈ fs) (h5 : Part.counts ∈ fs) : Touches fs b
    (handOutcome e o c) := by
  unfold Machine.handOutcome
  (repeat' split) <;> (repeat (first | assumption | with_reducible apply Touches.outcomeAck | with_reducible apply Touches.outcomeNakBase | with_reducible apply Touches.outcomeNakCheck | with_reducible apply Touches.outcomeReport | with_reducible apply Touches.outcomeQueryNoReply | with_reducible apply Touches.outcomeNoReply | with_reducible apply Touches.transmissionHeard | with_reducible apply Touches.bump | with_reducible apply Touches.items | with_reducible apply Touches.labels | with_reducible apply Touches.composer | with_reducible apply Touches.mgmt | with_reducible apply Touches.counts))

theorem Touches.recordOutcome (o : RadioOutcome) (h : Touches fs b c) (h1 : Part.radio ∈ fs) : Touches fs b
    (recordOutcome o c) := by
  exact h.radio h1

theorem Touches.closeWindow (h : Touches fs b c) (h1 : Part.items ∈ fs) (h2 : Part.labels ∈ fs) (h3 :
    Part.composer ∈ fs) (h4 : Part.mgmt ∈ fs) (h5 : Part.counts ∈ fs) (h6 : Part.radio ∈ fs) : Touches fs b
    (closeWindow c) := by
  unfold Machine.closeWindow
  (repeat' split) <;> (repeat (first | assumption | with_reducible apply Touches.recordOutcome | with_reducible apply Touches.handOutcome | with_reducible apply Touches.items | with_reducible apply Touches.labels | with_reducible apply Touches.composer | with_reducible apply Touches.mgmt | with_reducible apply Touches.counts | with_reducible apply Touches.radio))

theorem Touches.replyWindowClose (h : Touches fs b c) (h1 : Part.items ∈ fs) (h2 : Part.labels ∈ fs) (h3 :
    Part.composer ∈ fs) (h4 : Part.mgmt ∈ fs) (h5 : Part.counts ∈ fs) (h6 : Part.radio ∈ fs) (h7 : Part.out ∈ fs)
    : Touches fs b (replyWindowClose c) := by
  unfold Machine.replyWindowClose
  (repeat' split) <;> (repeat (first | assumption | with_reducible apply Touches.beginTransaction | with_reducible apply Touches.closeWindow | with_reducible apply Touches.items | with_reducible apply Touches.labels | with_reducible apply Touches.composer | with_reducible apply Touches.mgmt | with_reducible apply Touches.counts | with_reducible apply Touches.radio | with_reducible apply Touches.out))

theorem Touches.takeReply (e : PlanEntry) (t : ReplyTransmission) (h : Touches fs b c) (h1 : Part.radio ∈ fs) (h2
    : Part.counts ∈ fs) : Touches fs b (takeReply e t c) := by
  unfold Machine.takeReply
  (repeat' split) <;> (repeat (first | assumption | with_reducible apply Touches.bump | with_reducible apply Touches.radio | with_reducible apply Touches.counts))

theorem Touches.labelReply (t : ReplyTransmission) (h : Touches fs b c) (h1 : Part.radio ∈ fs) (h2 : Part.counts ∈
    fs) : Touches fs b (labelReply t c) := by
  unfold Machine.labelReply
  (repeat' split) <;> (repeat (first | assumption | with_reducible apply Touches.takeReply | with_reducible apply Touches.bump | with_reducible apply Touches.radio | with_reducible apply Touches.counts))

theorem Touches.radioCheckIn (k : CheckIn) (h : Touches fs b c) (h1 : Part.items ∈ fs) (h2 : Part.labels ∈ fs) (h3
    : Part.composer ∈ fs) (h4 : Part.mgmt ∈ fs) (h5 : Part.counts ∈ fs) : Touches fs b (radioCheckIn k c) := by
  unfold Machine.radioCheckIn
  (repeat' split) <;> (repeat (first | assumption | with_reducible apply Touches.takeCheckIn | with_reducible apply Touches.bump | with_reducible apply Touches.items | with_reducible apply Touches.labels | with_reducible apply Touches.composer | with_reducible apply Touches.mgmt | with_reducible apply Touches.counts))

theorem Touches.takeTarget (t : Target) (h : Touches fs b c) (h1 : Part.items ∈ fs) : Touches fs b (takeTarget t
    c) := by
  unfold Machine.takeTarget
  (repeat' split) <;> (repeat (first | assumption | with_reducible apply Touches.takeReference | with_reducible apply Touches.items))

theorem Touches.joinStyle (i : Nat) (u : Composed) (t : Target) (h : Touches fs b c) (h1 : Part.composer ∈ fs) :
    Touches fs b (joinStyle i u t c) := by
  unfold Machine.joinStyle
  (repeat' split) <;> (repeat (first | assumption | with_reducible apply Touches.composer))

theorem Touches.bufferUpdate (i : Nat) (l : List Byte) (h : Touches fs b c) (h1 : Part.composer ∈ fs) : Touches fs
    b (bufferUpdate i l c) := by
  exact h.composer h1

theorem Touches.noteTruncated (i : Nat) (u : Composed) (h : Touches fs b c) (h1 : Part.mgmt ∈ fs) (h2 :
    Part.counts ∈ fs) : Touches fs b (noteTruncated i u c) := by
  unfold Machine.noteTruncated
  (repeat' split) <;> (repeat (first | assumption | with_reducible apply Touches.notice | with_reducible apply Touches.bump | with_reducible apply Touches.mgmt | with_reducible apply Touches.counts))

theorem Touches.selectUpdate (i : Nat) (l : Label) (t : Target) (u : Composed) (h : Touches fs b c) (h1 :
    Part.items ∈ fs) (h2 : Part.labels ∈ fs) (h3 : Part.composer ∈ fs) (h4 : Part.mgmt ∈ fs) (h5 : Part.counts ∈
    fs) : Touches fs b (selectUpdate i l t u c) := by
  unfold Machine.selectUpdate
  repeat (first | assumption | with_reducible apply Touches.noteTruncated | with_reducible apply Touches.bufferUpdate | with_reducible apply Touches.joinStyle | with_reducible apply Touches.putLabel | with_reducible apply Touches.takeTarget | with_reducible apply Touches.items | with_reducible apply Touches.labels | with_reducible apply Touches.composer | with_reducible apply Touches.mgmt | with_reducible apply Touches.counts)

theorem Touches.becomeOversize (i : Nat) (h : Touches fs b c) (h1 : Part.labels ∈ fs) (h2 : Part.mgmt ∈ fs) (h3 :
    Part.counts ∈ fs) : Touches fs b (becomeOversize i c) := by
  unfold Machine.becomeOversize
  repeat (first | assumption | with_reducible apply Touches.notice | with_reducible apply Touches.bump | with_reducible apply Touches.modifyLabel | with_reducible apply Touches.labels | with_reducible apply Touches.mgmt | with_reducible apply Touches.counts)

theorem Touches.walkReach (i : Nat) {w : Walk} (h : Touches fs b w.block) (h1 : Part.items ∈ fs) (h2 : Part.labels ∈ fs)
    (h3 : Part.composer ∈ fs) (h4 : Part.mgmt ∈ fs) (h5 : Part.counts ∈ fs) : Touches fs b (walkReach i w).block := by
  unfold Machine.walkReach
  split
  · exact h
  · split
    · unfold walkStale
      split
      · split
        · unfold walkUpdate
          split
          · exact Touches.becomeOversize _ h h2 h4 h5
          · split
            · exact Touches.selectUpdate _ _ _ _ h h1 h2 h3 h4 h5
            · exact h
        · exact h
      · exact Touches.enqueue _ (Touches.putLabel _ _ h h2) h2
    all_goals exact h

theorem Touches.walkQueue (l : List Nat) {w : Walk} (h : Touches fs b w.block) (h1 : Part.items ∈ fs)
    (h2 : Part.labels ∈ fs) (h3 : Part.composer ∈ fs) (h4 : Part.mgmt ∈ fs) (h5 : Part.counts ∈ fs) :
    Touches fs b (walkQueue l w).block := by
  induction l generalizing w with
  | nil => exact h
  | cons i rest ih =>
    unfold Machine.walkQueue
    split
    · exact h
    · exact ih (Touches.walkReach i h h1 h2 h3 h4 h5)

theorem Touches.slotWalk (h : Touches fs b c) (h1 : Part.items ∈ fs) (h2 : Part.labels ∈ fs) (h3 : Part.composer ∈ fs)
    (h4 : Part.mgmt ∈ fs) (h5 : Part.counts ∈ fs) : Touches fs b (slotWalk c).block :=
  Touches.walkQueue _ h h1 h2 h3 h4 h5

theorem Touches.closeRest (n : Nat) (h : Touches fs b c) (h1 : Part.items ∈ fs) (h2 : Part.labels ∈ fs) (h3 :
    Part.composer ∈ fs) (h4 : Part.mgmt ∈ fs) (h5 : Part.counts ∈ fs) (h6 : Part.radio ∈ fs) (h7 : Part.out ∈ fs)
    : Touches fs b (closeRest n c) := by
  induction n generalizing c with
  | zero => exact h
  | succ n ih =>
    unfold Machine.closeRest
    split
    · exact ih (Touches.replyWindowClose h h1 h2 h3 h4 h5 h6 h7)
    · exact h

theorem Touches.closeSlot (h : Touches fs b c) (h1 : Part.items ∈ fs) (h2 : Part.labels ∈ fs) (h3 : Part.composer
    ∈ fs) (h4 : Part.mgmt ∈ fs) (h5 : Part.counts ∈ fs) (h6 : Part.radio ∈ fs) (h7 : Part.out ∈ fs) : Touches fs b
    (closeSlot c) := by
  unfold Machine.closeSlot
  repeat (first | assumption | with_reducible apply Touches.closeRest | with_reducible apply Touches.items | with_reducible apply Touches.labels | with_reducible apply Touches.composer | with_reducible apply Touches.mgmt | with_reducible apply Touches.counts | with_reducible apply Touches.radio | with_reducible apply Touches.out)

theorem Touches.beginSlot (h : Touches fs b c) (h1 : Part.radio ∈ fs) (h2 : Part.composer ∈ fs) (h3 : Part.time ∈
    fs) : Touches fs b (beginSlot c) := by
  intro p hp
  cases p <;> first | exact absurd h1 hp | exact absurd h2 hp | exact absurd h3 hp | exact h _ hp

theorem Touches.sendBeacon (h : Touches fs b c) (h1 : Part.counts ∈ fs) (h2 : Part.out ∈ fs) : Touches fs b
    (sendBeacon c) := by
  unfold Machine.sendBeacon
  repeat (first | assumption | with_reducible apply Touches.bump | with_reducible apply Touches.emit | with_reducible apply Touches.counts | with_reducible apply Touches.out)

theorem Touches.notePresence (h : Touches fs b c) (h1 : Part.labels ∈ fs) (h2 : Part.mgmt ∈ fs) : Touches fs b
    (notePresence c) := by
  unfold Machine.notePresence
  (repeat' split) <;> (repeat (first | assumption | with_reducible apply Touches.presenceCheck | with_reducible apply Touches.labels | with_reducible apply Touches.mgmt))

theorem Touches.selectPlan (h : Touches fs b c) (h1 : Part.items ∈ fs) (h2 : Part.labels ∈ fs) (h3 : Part.composer
    ∈ fs) (h4 : Part.mgmt ∈ fs) (h5 : Part.counts ∈ fs) (h6 : Part.radio ∈ fs) : Touches fs b (selectPlan c) := by
  unfold Machine.selectPlan
  exact Touches.radio (Touches.slotWalk h h1 h2 h3 h4 h5) h6

theorem Touches.beacon (h : Touches fs b c) (h1 : Part.items ∈ fs) (h2 : Part.labels ∈ fs) (h3 : Part.composer ∈
    fs) (h4 : Part.mgmt ∈ fs) (h5 : Part.counts ∈ fs) (h6 : Part.radio ∈ fs) (h7 : Part.out ∈ fs) (h8 : Part.time
    ∈ fs) : Touches fs b (beacon c) := by
  unfold Machine.beacon
  repeat (first | assumption | with_reducible apply Touches.beginTransaction | with_reducible apply Touches.selectPlan | with_reducible apply Touches.notePresence | with_reducible apply Touches.sendBeacon | with_reducible apply Touches.beginSlot | with_reducible apply Touches.closeSlot | with_reducible apply Touches.items | with_reducible apply Touches.labels | with_reducible apply Touches.composer | with_reducible apply Touches.mgmt | with_reducible apply Touches.counts | with_reducible apply Touches.radio | with_reducible apply Touches.out | with_reducible apply Touches.time)

theorem Touches.applyRadioSettings (w : RadioSettingsWrite) (h : Touches fs b c) (h1 : Part.radio ∈ fs) : Touches
    fs b (applyRadioSettings w c).1 := by
  unfold Machine.applyRadioSettings
  (repeat' split) <;> (repeat (first | assumption | with_reducible apply Touches.radio))

theorem Touches.warmRadio (h : Touches fs b c) (h1 : Part.radio ∈ fs) : Touches fs b (warmRadio c) := by
  exact h.radio h1

theorem Touches.warmComposer (h : Touches fs b c) (h1 : Part.composer ∈ fs) : Touches fs b (warmComposer c) := by
  exact h.composer h1

theorem Touches.putTill (n : Nat) (r : TillRecord) (h : Touches fs b c) (h1 : Part.till ∈ fs) : Touches fs b
    (putTill n r c) := by
  unfold Machine.putTill
  (repeat' split) <;> (repeat (first | assumption | with_reducible apply Touches.till))

theorem Touches.replyTill (s : TillSender) (k n : Nat) (r : TillResult) (h : Touches fs b c) (h1 : Part.out ∈ fs)
    : Touches fs b (replyTill s k n r c) := by
  unfold Machine.replyTill
  repeat (first | assumption | with_reducible apply Touches.answerTill | with_reducible apply Touches.out)

theorem Touches.refuseTill (s : TillSender) (k n : Nat) (r : TillResult) (h : Touches fs b c) (h1 : Part.counts ∈
    fs) (h2 : Part.out ∈ fs) : Touches fs b (refuseTill s k n r c) := by
  unfold Machine.refuseTill
  repeat (first | assumption | with_reducible apply Touches.replyTill | with_reducible apply Touches.bump | with_reducible apply Touches.counts | with_reducible apply Touches.out)

theorem Touches.helloAt (s : TillSender) (n : Nat) (h : Touches fs b c) (h1 : Part.till ∈ fs) (h2 : Part.out ∈ fs)
    : Touches fs b (helloAt s n c) := by
  unfold Machine.helloAt
  (repeat' split) <;> (repeat (first | assumption | with_reducible apply Touches.replyTill | with_reducible apply Touches.putTill | with_reducible apply Touches.till | with_reducible apply Touches.out))

theorem Touches.tillHello (s : TillSender) (n : Nat) (h : Touches fs b c) (h1 : Part.till ∈ fs) (h2 : Part.counts
    ∈ fs) (h3 : Part.out ∈ fs) : Touches fs b (tillHello s n c) := by
  unfold Machine.tillHello
  (repeat' split) <;> (repeat (first | assumption | with_reducible apply Touches.helloAt | with_reducible apply Touches.refuseTill | with_reducible apply Touches.till | with_reducible apply Touches.counts | with_reducible apply Touches.out))

theorem Touches.tillPriceQuery (s : TillSender) (n k : Nat) (h : Touches fs b c) (h1 : Part.till ∈ fs) (h2 :
    Part.counts ∈ fs) (h3 : Part.out ∈ fs) : Touches fs b (tillPriceQuery s n k c) := by
  unfold Machine.tillPriceQuery
  (repeat' split) <;> (repeat (first | assumption | with_reducible apply Touches.replyTill | with_reducible apply Touches.putTill | with_reducible apply Touches.refuseTill | with_reducible apply Touches.till | with_reducible apply Touches.counts | with_reducible apply Touches.out))

theorem Touches.noteDiffering (n : Nat) (l : List JournalEntry) (h : Touches fs b c) (h1 : Part.mgmt ∈ fs) :
    Touches fs b (noteDiffering n l c) := by
  induction l generalizing c with
  | nil => exact h
  | cons x rest ih =>
    refine ih ?_
    split
    · exact Touches.notice _ _ h h1
    · exact h

theorem Touches.noteHigh (h : Touches fs b c) (h1 : Part.till ∈ fs) (h2 : Part.mgmt ∈ fs) : Touches fs b (noteHigh
    c) := by
  unfold Machine.noteHigh
  split
  · exact Touches.notice _ _ (h.till h1) h2
  · exact h

theorem Touches.addEntries (l : List JournalEntry) (h : Touches fs b c) (h1 : Part.till ∈ fs) : Touches fs b
    (addEntries l c) := by
  exact h.till h1

theorem Touches.acceptRecord (n q t : Nat) (g : Bool) (l : List SaleLine) (h : Touches fs b c) (h1 : Part.till ∈
    fs) (h2 : Part.mgmt ∈ fs) : Touches fs b (acceptRecord n q t g l c) := by
  unfold Machine.acceptRecord
  repeat (first | assumption | with_reducible apply Touches.noteHigh | with_reducible apply Touches.noteDiffering | with_reducible apply Touches.addEntries | with_reducible apply Touches.putTill | with_reducible apply Touches.till | with_reducible apply Touches.mgmt)

theorem Touches.noteFull (h : Touches fs b c) (h1 : Part.till ∈ fs) (h2 : Part.mgmt ∈ fs) : Touches fs b (noteFull
    c) := by
  unfold Machine.noteFull
  split
  · exact h
  · exact Touches.notice _ _ (h.till h1) h2

theorem Touches.takeRecord (s : TillSender) (n q t : Nat) (g : Bool) (l : List SaleLine) (h : Touches fs b c) (h1
    : Part.till ∈ fs) (h2 : Part.mgmt ∈ fs) (h3 : Part.out ∈ fs) : Touches fs b (takeRecord s n q t g l c) := by
  unfold Machine.takeRecord
  (repeat' split) <;> (repeat (first | assumption | with_reducible apply Touches.replyTill | with_reducible apply Touches.acceptRecord | with_reducible apply Touches.noteFull | with_reducible apply Touches.till | with_reducible apply Touches.mgmt | with_reducible apply Touches.out))

theorem Touches.saleBySequence (s : TillSender) (n q t : Nat) (l : List SaleLine) (h : Touches fs b c) (h1 :
    Part.till ∈ fs) (h2 : Part.mgmt ∈ fs) (h3 : Part.out ∈ fs) : Touches fs b (saleBySequence s n q t l c) := by
  unfold Machine.saleBySequence
  (repeat' split) <;> (repeat (first | assumption | with_reducible apply Touches.takeRecord | with_reducible apply Touches.replyTill | with_reducible apply Touches.till | with_reducible apply Touches.mgmt | with_reducible apply Touches.out))

theorem Touches.tillSaleRecord (s : TillSender) (n q t : Nat) (l : List SaleLine) (h : Touches fs b c) (h1 :
    Part.till ∈ fs) (h2 : Part.mgmt ∈ fs) (h3 : Part.counts ∈ fs) (h4 : Part.out ∈ fs) : Touches fs b
    (tillSaleRecord s n q t l c) := by
  unfold Machine.tillSaleRecord
  (repeat' split) <;> (repeat (first | assumption | with_reducible apply Touches.saleBySequence | with_reducible apply Touches.refuseTill | with_reducible apply Touches.putTill | with_reducible apply Touches.till | with_reducible apply Touches.mgmt | with_reducible apply Touches.counts | with_reducible apply Touches.out))

theorem Touches.tillFrame (s : TillSender) (f : TillFrame) (h : Touches fs b c) (h1 : Part.till ∈ fs) (h2 :
    Part.mgmt ∈ fs) (h3 : Part.counts ∈ fs) (h4 : Part.out ∈ fs) : Touches fs b (tillFrame s f c) := by
  unfold Machine.tillFrame
  (repeat' split) <;> (repeat (first | assumption | with_reducible apply Touches.tillHello | with_reducible apply Touches.tillPriceQuery | with_reducible apply Touches.tillSaleRecord | with_reducible apply Touches.refuseTill | with_reducible apply Touches.till | with_reducible apply Touches.mgmt | with_reducible apply Touches.counts | with_reducible apply Touches.out))

theorem Touches.silenceExpiry (n : Nat) (h : Touches fs b c) (h1 : Part.till ∈ fs) (h2 : Part.mgmt ∈ fs) : Touches
    fs b (silenceExpiry n c) := by
  unfold Machine.silenceExpiry
  (repeat' split) <;> (repeat (first | assumption | with_reducible apply Touches.notice | with_reducible apply Touches.putTill | with_reducible apply Touches.till | with_reducible apply Touches.mgmt))

theorem Touches.markSent (n : Nat) (h : Touches fs b c) (h1 : Part.till ∈ fs) : Touches fs b (markSent n c) := by
  exact h.till h1

theorem Touches.journalBlock (h : Touches fs b c) (h1 : Part.till ∈ fs) (h2 : Part.line ∈ fs) : Touches fs b
    (journalBlock c) := by
  unfold Machine.journalBlock
  (repeat' split) <;> (repeat (first | assumption | with_reducible apply Touches.markSent | with_reducible apply Touches.admitFrame | with_reducible apply Touches.till | with_reducible apply Touches.line))

theorem Touches.removeAcked (n : Nat) (h : Touches fs b c) (h1 : Part.till ∈ fs) : Touches fs b (removeAcked n c)
    := by
  exact h.till h1

theorem Touches.takeAck (n : Nat) (h : Touches fs b c) (h1 : Part.till ∈ fs) (h2 : Part.counts ∈ fs) : Touches fs
    b (takeAck n c) := by
  unfold Machine.takeAck
  (repeat' split) <;> (repeat (first | assumption | with_reducible apply Touches.removeAcked | with_reducible apply Touches.bump | with_reducible apply Touches.till | with_reducible apply Touches.counts))

theorem Touches.revertSent (h : Touches fs b c) (h1 : Part.till ∈ fs) : Touches fs b (revertSent c) := by
  exact h.till h1

theorem Touches.ackTimerExpiry (h : Touches fs b c) (h1 : Part.till ∈ fs) (h2 : Part.counts ∈ fs) : Touches fs b
    (ackTimerExpiry c) := by
  unfold Machine.ackTimerExpiry
  (repeat' split) <;> (repeat (first | assumption | with_reducible apply Touches.bump | with_reducible apply Touches.revertSent | with_reducible apply Touches.till | with_reducible apply Touches.counts))

theorem Touches.warmTill (h : Touches fs b c) (h1 : Part.till ∈ fs) : Touches fs b (warmTill c) := by
  exact (Touches.revertSent h h1).till h1

theorem Touches.putSession (a : HwAddr) (s : Session) (h : Touches fs b c) (h1 : Part.guest ∈ fs) : Touches fs b
    (putSession a s c) := by
  exact h.guest h1

theorem Touches.removeSession (a : HwAddr) (h : Touches fs b c) (h1 : Part.guest ∈ fs) : Touches fs b
    (removeSession a c) := by
  exact h.guest h1

theorem Touches.guestToLine (a : HwAddr) (s d : NetAddr) (l : List Byte) (x : Session) (h : Touches fs b c) (h1 :
    Part.guest ∈ fs) (h2 : Part.line ∈ fs) (h3 : Part.counts ∈ fs) : Touches fs b (guestToLine a s d l x c) := by
  unfold Machine.guestToLine
  (repeat' split) <;> (repeat (first | assumption | with_reducible apply Touches.offer | with_reducible apply Touches.putSession | with_reducible apply Touches.bump | with_reducible apply Touches.guest | with_reducible apply Touches.line | with_reducible apply Touches.counts))

theorem Touches.noteGuestFull (h : Touches fs b c) (h1 : Part.guest ∈ fs) (h2 : Part.mgmt ∈ fs) : Touches fs b
    (noteGuestFull c) := by
  unfold Machine.noteGuestFull
  split
  · exact h
  · exact Touches.notice _ _ (h.guest h1) h2

theorem Touches.requestAdmission (a : HwAddr) (s d : NetAddr) (l : List Byte) (h : Touches fs b c) (h1 :
    Part.guest ∈ fs) (h2 : Part.line ∈ fs) (h3 : Part.counts ∈ fs) (h4 : Part.mgmt ∈ fs) : Touches fs b
    (requestAdmission a s d l c) := by
  unfold Machine.requestAdmission
  (repeat' split) <;> (repeat (first | assumption | with_reducible apply Touches.guestToLine | with_reducible apply Touches.bump | with_reducible apply Touches.putSession | with_reducible apply Touches.noteGuestFull | with_reducible apply Touches.guest | with_reducible apply Touches.line | with_reducible apply Touches.counts | with_reducible apply Touches.mgmt))

theorem Touches.guestUplink (a : HwAddr) (s d : NetAddr) (l : List Byte) (h : Touches fs b c) (h1 : Part.guest ∈
    fs) (h2 : Part.line ∈ fs) (h3 : Part.counts ∈ fs) (h4 : Part.mgmt ∈ fs) : Touches fs b (guestUplink a s d l c)
    := by
  unfold Machine.guestUplink
  (repeat' split) <;> (repeat (first | assumption | with_reducible apply Touches.guestToLine | with_reducible apply Touches.requestAdmission | with_reducible apply Touches.guest | with_reducible apply Touches.line | with_reducible apply Touches.counts | with_reducible apply Touches.mgmt))

theorem Touches.guestDownlink (a : HwAddr) (l : List Byte) (h : Touches fs b c) (h1 : Part.guest ∈ fs) (h2 :
    Part.counts ∈ fs) : Touches fs b (guestDownlink a l c).1 := by
  unfold Machine.guestDownlink
  (repeat' split) <;> (repeat (first | assumption | with_reducible apply Touches.putSession | with_reducible apply Touches.bump | with_reducible apply Touches.guest | with_reducible apply Touches.counts))

theorem Touches.reachTimeLimit (a : HwAddr) (s : Session) (h : Touches fs b c) (h1 : Part.guest ∈ fs) : Touches fs
    b (reachTimeLimit a s c) := by
  unfold Machine.reachTimeLimit
  (repeat' split) <;> (repeat (first | assumption | with_reducible apply Touches.removeSession | with_reducible apply Touches.putSession | with_reducible apply Touches.guest))

theorem Touches.timeLimitExpiry (a : HwAddr) (h : Touches fs b c) (h1 : Part.guest ∈ fs) : Touches fs b
    (timeLimitExpiry a c) := by
  unfold Machine.timeLimitExpiry
  (repeat' split) <;> (repeat (first | assumption | with_reducible apply Touches.reachTimeLimit | with_reducible apply Touches.guest))

theorem Touches.idleLimitExpiry (a : HwAddr) (h : Touches fs b c) (h1 : Part.guest ∈ fs) : Touches fs b
    (idleLimitExpiry a c) := by
  unfold Machine.idleLimitExpiry
  (repeat' split) <;> (repeat (first | assumption | with_reducible apply Touches.removeSession | with_reducible apply Touches.guest))

theorem Touches.cooldownEnd (a : HwAddr) (h : Touches fs b c) (h1 : Part.guest ∈ fs) : Touches fs b (cooldownEnd a
    c) := by
  unfold Machine.cooldownEnd
  (repeat' split) <;> (repeat (first | assumption | with_reducible apply Touches.removeSession | with_reducible apply Touches.guest))

theorem Touches.applyEndGuest (a : HwAddr) (h : Touches fs b c) (h1 : Part.guest ∈ fs) : Touches fs b
    (applyEndGuest a c).1 := by
  unfold Machine.applyEndGuest
  (repeat' split) <;> (repeat (first | assumption | with_reducible apply Touches.removeSession | with_reducible apply Touches.guest))

theorem Touches.setProfile (g : GuestProfile) (h : Touches fs b c) (h1 : Part.guest ∈ fs) : Touches fs b
    (setProfile g c) := by
  exact h.guest h1

theorem Touches.applyGuestProfile (w : GuestProfileWrite) (h : Touches fs b c) (h1 : Part.guest ∈ fs) : Touches fs
    b (applyGuestProfile w c).1 := by
  unfold Machine.applyGuestProfile
  (repeat' split) <;> (repeat (first | assumption | with_reducible apply Touches.setProfile | with_reducible apply Touches.guest))

theorem Touches.governorReading (h : Touches fs b c) (h1 : Part.guest ∈ fs) (h2 : Part.time ∈ fs) : Touches fs b
    (governorReading c) := by
  intro p hp
  cases p <;> first | exact absurd h1 hp | exact absurd h2 hp | exact h _ hp

theorem Touches.fillBuckets (h : Touches fs b c) (h1 : Part.guest ∈ fs) : Touches fs b (fillBuckets c) := by
  exact h.guest h1

theorem Touches.dropSessions (h : Touches fs b c) (h1 : Part.guest ∈ fs) : Touches fs b (dropSessions c) := by
  exact h.guest h1

theorem Touches.warmGuest (h : Touches fs b c) (h1 : Part.guest ∈ fs) : Touches fs b (warmGuest c) := by
  exact h.guest h1

theorem Touches.setAddresses (t : Table AddressEntry) (h : Touches fs b c) (h1 : Part.fwd ∈ fs) : Touches fs b
    (setAddresses t c) := by
  exact h.fwd h1

theorem Touches.keepAddresses (k : Nat × AddressEntry → Bool) (h : Touches fs b c) (h1 : Part.fwd ∈ fs) : Touches
    fs b (keepAddresses k c) := by
  exact h.fwd h1

theorem Touches.dropPortAddresses (p : Port) (h : Touches fs b c) (h1 : Part.fwd ∈ fs) : Touches fs b
    (dropPortAddresses p c) := by
  unfold Machine.dropPortAddresses
  repeat (first | assumption | with_reducible apply Touches.keepAddresses | with_reducible apply Touches.fwd)

theorem Touches.refuseLearning (h : Touches fs b c) (h1 : Part.fwd ∈ fs) (h2 : Part.mgmt ∈ fs) (h3 : Part.counts ∈
    fs) : Touches fs b (refuseLearning c) := by
  unfold Machine.refuseLearning
  split
  · exact Touches.bump _ h h3
  · exact Touches.notice _ _ ((Touches.bump _ h h3).fwd h1) h2

theorem Touches.touchAddress (s : Segment) (a : HwAddr) (p : Port) (h : Touches fs b c) (h1 : Part.fwd ∈ fs) (h2 :
    Part.mgmt ∈ fs) (h3 : Part.counts ∈ fs) : Touches fs b (touchAddress s a p c) := by
  unfold Machine.touchAddress
  (repeat' split) <;> (repeat (first | assumption | with_reducible apply Touches.setAddresses | with_reducible apply Touches.refuseLearning | with_reducible apply Touches.fwd | with_reducible apply Touches.mgmt | with_reducible apply Touches.counts))

theorem Touches.takeNet (s : Segment) (a : HwAddr) (n : NetAddr) (h : Touches fs b c) (h1 : Part.fwd ∈ fs) :
    Touches fs b (takeNet s a n c) := by
  unfold Machine.takeNet
  (repeat' split) <;> (repeat (first | assumption | with_reducible apply Touches.setAddresses | with_reducible apply Touches.fwd))

theorem Touches.learnNet (s : Segment) (a : HwAddr) (n : Option NetAddr) (h : Touches fs b c) (h1 : Part.fwd ∈ fs)
    : Touches fs b (learnNet s a n c) := by
  unfold Machine.learnNet
  (repeat' split) <;> (repeat (first | assumption | with_reducible apply Touches.takeNet | with_reducible apply Touches.fwd))

theorem Touches.learn (s : Segment) (p : Port) (f : LanFrame) (h : Touches fs b c) (h1 : Part.fwd ∈ fs) (h2 :
    Part.mgmt ∈ fs) (h3 : Part.counts ∈ fs) : Touches fs b (learn s p f c) := by
  unfold Machine.learn
  repeat (first | assumption | with_reducible apply Touches.learnNet | with_reducible apply Touches.touchAddress | with_reducible apply Touches.fwd | with_reducible apply Touches.mgmt | with_reducible apply Touches.counts)

theorem Touches.addressAging (s : Segment) (a : HwAddr) (h : Touches fs b c) (h1 : Part.fwd ∈ fs) : Touches fs b
    (addressAging s a c) := by
  unfold Machine.addressAging
  repeat (first | assumption | with_reducible apply Touches.keepAddresses | with_reducible apply Touches.fwd)

theorem Touches.flood (s : Segment) (p : Port) (f : LanFrame) (h : Touches fs b c) (h1 : Part.out ∈ fs) : Touches
    fs b (flood s p f c) := by
  unfold Machine.flood
  refine Touches.foldl (fun q d hd => ?_) _ h
  split
  · exact Touches.sendLan _ _ _ _ _ hd h1
  · exact hd

theorem Touches.switchFrame (s : Segment) (p : Port) (f : LanFrame) (h : Touches fs b c) (h1 : Part.counts ∈ fs)
    (h2 : Part.out ∈ fs) : Touches fs b (switchFrame s p f c) := by
  unfold Machine.switchFrame
  (repeat' split) <;> (repeat (first | assumption | with_reducible apply Touches.flood | with_reducible apply Touches.sendLan | with_reducible apply Touches.bump | with_reducible apply Touches.counts | with_reducible apply Touches.out))

theorem Touches.sendRouted (s : Segment) (a d : NetAddr) (l : List Byte) (e : Nat × AddressEntry) (h : Touches fs
    b c) (h1 : Part.out ∈ fs) : Touches fs b (sendRouted s a d l e c) := by
  unfold Machine.sendRouted
  repeat (first | assumption | with_reducible apply Touches.sendLan | with_reducible apply Touches.out)

theorem Touches.sendToGuest (a d : NetAddr) (l : List Byte) (e : Nat × AddressEntry) (h : Touches fs b c) (h1 :
    Part.guest ∈ fs) (h2 : Part.counts ∈ fs) (h3 : Part.out ∈ fs) : Touches fs b (sendToGuest a d l e c) := by
  unfold Machine.sendToGuest
  (repeat' split) <;> (repeat (first | assumption | with_reducible apply Touches.sendRouted | with_reducible apply Touches.guestDownlink | with_reducible apply Touches.guest | with_reducible apply Touches.counts | with_reducible apply Touches.out))

theorem Touches.route (o : Option Segment) (s : Segment) (a d : NetAddr) (l : List Byte) (h : Touches fs b c) (h1
    : Part.guest ∈ fs) (h2 : Part.counts ∈ fs) (h3 : Part.out ∈ fs) : Touches fs b (route o s a d l c) := by
  unfold Machine.route
  (repeat' split) <;> (repeat (first | assumption | with_reducible apply Touches.bump | with_reducible apply Touches.sendToGuest | with_reducible apply Touches.sendRouted | with_reducible apply Touches.guest | with_reducible apply Touches.counts | with_reducible apply Touches.out))

theorem Touches.handToLine (s : Segment) (a : HwAddr) (x d : NetAddr) (l : List Byte) (h : Touches fs b c) (h1 :
    Part.guest ∈ fs) (h2 : Part.line ∈ fs) (h3 : Part.counts ∈ fs) (h4 : Part.mgmt ∈ fs) : Touches fs b
    (handToLine s a x d l c) := by
  unfold Machine.handToLine
  (repeat' split) <;> (repeat (first | assumption | with_reducible apply Touches.offer | with_reducible apply Touches.guestUplink | with_reducible apply Touches.guest | with_reducible apply Touches.line | with_reducible apply Touches.counts | with_reducible apply Touches.mgmt))

theorem Touches.towardUplink (s : Segment) (a : HwAddr) (x d : NetAddr) (l : List Byte) (h : Touches fs b c) (h1 :
    Part.guest ∈ fs) (h2 : Part.line ∈ fs) (h3 : Part.counts ∈ fs) (h4 : Part.mgmt ∈ fs) : Touches fs b
    (towardUplink s a x d l c) := by
  unfold Machine.towardUplink
  (repeat' split) <;> (repeat (first | assumption | with_reducible apply Touches.handToLine | with_reducible apply Touches.bump | with_reducible apply Touches.guest | with_reducible apply Touches.line | with_reducible apply Touches.counts | with_reducible apply Touches.mgmt))

theorem Touches.gatewayNetwork (s : Segment) (a : HwAddr) (x d : NetAddr) (l : List Byte) (h : Touches fs b c) (h1
    : Part.guest ∈ fs) (h2 : Part.line ∈ fs) (h3 : Part.counts ∈ fs) (h4 : Part.mgmt ∈ fs) (h5 : Part.out ∈ fs) :
    Touches fs b (gatewayNetwork s a x d l c) := by
  unfold Machine.gatewayNetwork
  (repeat' split) <;> (repeat (first | assumption | with_reducible apply Touches.bump | with_reducible apply Touches.route | with_reducible apply Touches.towardUplink | with_reducible apply Touches.guest | with_reducible apply Touches.line | with_reducible apply Touches.counts | with_reducible apply Touches.mgmt | with_reducible apply Touches.out))

theorem Touches.fromUplink (a d : NetAddr) (l : List Byte) (h : Touches fs b c) (h1 : Part.guest ∈ fs) (h2 :
    Part.counts ∈ fs) (h3 : Part.out ∈ fs) : Touches fs b (fromUplink a d l c) := by
  unfold Machine.fromUplink
  (repeat' split) <;> (repeat (first | assumption | with_reducible apply Touches.bump | with_reducible apply Touches.route | with_reducible apply Touches.guest | with_reducible apply Touches.counts | with_reducible apply Touches.out))

theorem Touches.serviceFrame (s : Segment) (p : Port) (a : HwAddr) (x d : NetAddr) (k : ServiceContent) (h :
    Touches fs b c) (h1 : Part.counts ∈ fs) : Touches fs b (serviceFrame s p a x d k c).1 := by
  unfold Machine.serviceFrame
  (repeat' split) <;> (repeat (first | assumption | with_reducible apply Touches.bump | with_reducible apply Touches.counts))

theorem Touches.gatewayFrame (s : Segment) (p : Port) (f : LanFrame) (h : Touches fs b c) (h1 : Part.guest ∈ fs)
    (h2 : Part.line ∈ fs) (h3 : Part.counts ∈ fs) (h4 : Part.mgmt ∈ fs) (h5 : Part.out ∈ fs) : Touches fs b
    (gatewayFrame s p f c).1 := by
  unfold Machine.gatewayFrame
  (repeat' split) <;> (repeat (first | assumption | with_reducible apply Touches.bump | with_reducible apply Touches.serviceFrame | with_reducible apply Touches.gatewayNetwork | with_reducible apply Touches.guest | with_reducible apply Touches.line | with_reducible apply Touches.counts | with_reducible apply Touches.mgmt | with_reducible apply Touches.out))

theorem Touches.deliver (s : Segment) (p : Port) (f : LanFrame) (h : Touches fs b c) (h1 : Part.guest ∈ fs) (h2 :
    Part.line ∈ fs) (h3 : Part.counts ∈ fs) (h4 : Part.mgmt ∈ fs) (h5 : Part.out ∈ fs) (h6 : Part.fwd ∈ fs) :
    Touches fs b (deliver s p f c).1 := by
  unfold Machine.deliver
  (repeat' split) <;> (repeat (first | assumption | with_reducible apply Touches.bump | with_reducible apply Touches.gatewayFrame | with_reducible apply Touches.switchFrame | with_reducible apply Touches.learn | with_reducible apply Touches.guest | with_reducible apply Touches.line | with_reducible apply Touches.counts | with_reducible apply Touches.mgmt | with_reducible apply Touches.out | with_reducible apply Touches.fwd))

theorem Touches.forwardFrame (p : Port) (f : LanFrame) (h : Touches fs b c) (h1 : Part.guest ∈ fs) (h2 : Part.line
    ∈ fs) (h3 : Part.counts ∈ fs) (h4 : Part.mgmt ∈ fs) (h5 : Part.out ∈ fs) (h6 : Part.fwd ∈ fs) : Touches fs b
    (forwardFrame p f c).1 := by
  unfold Machine.forwardFrame
  (repeat' split) <;> (repeat (first | assumption | with_reducible apply Touches.deliver | with_reducible apply Touches.bump | with_reducible apply Touches.guest | with_reducible apply Touches.line | with_reducible apply Touches.counts | with_reducible apply Touches.mgmt | with_reducible apply Touches.out | with_reducible apply Touches.fwd))

theorem Touches.setPort (p : Port) (r : PortRecord) (h : Touches fs b c) (h1 : Part.fwd ∈ fs) : Touches fs b
    (setPort p r c) := by
  exact h.fwd h1

theorem Touches.applyPortWrite (p : Port) (w : PortWrite) (h : Touches fs b c) (h1 : Part.fwd ∈ fs) : Touches fs b
    (applyPortWrite p w c).1 := by
  unfold Machine.applyPortWrite
  (repeat' split) <;> (repeat (first | assumption | with_reducible apply Touches.dropPortAddresses | with_reducible apply Touches.setPort | with_reducible apply Touches.fwd))

theorem Touches.linkUp (p : Port) (h : Touches fs b c) (h1 : Part.fwd ∈ fs) : Touches fs b (linkUp p c) := by
  unfold Machine.linkUp
  repeat (first | assumption | with_reducible apply Touches.setPort | with_reducible apply Touches.fwd)

theorem Touches.linkDown (p : Port) (h : Touches fs b c) (h1 : Part.fwd ∈ fs) : Touches fs b (linkDown p c) := by
  unfold Machine.linkDown
  repeat (first | assumption | with_reducible apply Touches.dropPortAddresses | with_reducible apply Touches.setPort | with_reducible apply Touches.fwd)

theorem Touches.setGateway (s : Segment) (g : Gateway) (h : Touches fs b c) (h1 : Part.fwd ∈ fs) : Touches fs b
    (setGateway s g c) := by
  exact h.fwd h1

theorem Touches.applyGatewayWrite (s : Segment) (w : GatewayWrite) (h : Touches fs b c) (h1 : Part.fwd ∈ fs) :
    Touches fs b (applyGatewayWrite s w c).1 := by
  unfold Machine.applyGatewayWrite
  (repeat' split) <;> (repeat (first | assumption | with_reducible apply Touches.setAddresses | with_reducible apply Touches.setGateway | with_reducible apply Touches.fwd))

theorem Touches.applyAgingWrite (n : Nat) (h : Touches fs b c) (h1 : Part.fwd ∈ fs) : Touches fs b
    (applyAgingWrite n c).1 := by
  unfold Machine.applyAgingWrite
  split
  · exact Touches.keepAddresses _ (h.fwd h1) h1
  · exact h

theorem Touches.applyPolicyWrite (n : Fin 25) (a : Coded Bool) (h : Touches fs b c) (h1 : Part.fwd ∈ fs) : Touches
    fs b (applyPolicyWrite n a c).1 := by
  unfold Machine.applyPolicyWrite
  (repeat' split) <;> (repeat (first | assumption | with_reducible apply Touches.fwd))

theorem Touches.warmForwarder (h : Touches fs b c) (h1 : Part.fwd ∈ fs) : Touches fs b (warmForwarder c) := by
  exact h.fwd h1

theorem Touches.formReply (r : ExchangeReply) (h : Touches fs b c) (h1 : Part.line ∈ fs) (h2 : Part.exch ∈ fs) (h3
    : Part.counts ∈ fs) : Touches fs b (formReply r c) := by
  unfold Machine.formReply
  split
  · exact Touches.exchangeTake _ h h1 h3
  · split
    · exact Touches.senderRefused _ (h.exch h2) h1
    · exact Touches.bump _ h h3

theorem Touches.offerHeldFrom (l : List ExchangeReply) (h : Touches fs b c) (h1 : Part.line ∈ fs) (h2 : Part.exch
    ∈ fs) (h3 : Part.counts ∈ fs) : Touches fs b (offerHeldFrom l c) := by
  induction l generalizing c with
  | nil => exact Touches.senderServed _ (h.exch h2) h1
  | cons r rest ih =>
    unfold Machine.offerHeldFrom
    split
    · exact h.exch h2
    · exact ih (Touches.exchangeTake _ h h1 h3)

theorem Touches.offerHeld (h : Touches fs b c) (h1 : Part.line ∈ fs) (h2 : Part.exch ∈ fs) (h3 : Part.counts ∈ fs)
    : Touches fs b (offerHeld c) := by
  unfold Machine.offerHeld
  repeat (first | assumption | with_reducible apply Touches.offerHeldFrom | with_reducible apply Touches.line | with_reducible apply Touches.exch | with_reducible apply Touches.counts)

theorem Touches.offeredOne (q : Qualification) (h : Touches fs b c) (h1 : Part.line ∈ fs) : Touches fs b
    (offeredOne q c) := by
  exact h.line h1

theorem Touches.offerPatternFrom (n : Nat) (h : Touches fs b c) (h1 : Part.line ∈ fs) (h2 : Part.counts ∈ fs) :
    Touches fs b (offerPatternFrom n c) := by
  induction n generalizing c with
  | zero => exact h
  | succ n ih =>
    unfold Machine.offerPatternFrom
    split
    · exact h
    · split
      · split
        · exact Touches.senderRefused _ h h1
        · exact ih (Touches.offeredOne _ (Touches.exchangeTake _ h h1 h2) h1)
      · exact Touches.senderServed _ h h1

theorem Touches.offerPattern (h : Touches fs b c) (h1 : Part.line ∈ fs) (h2 : Part.counts ∈ fs) : Touches fs b
    (offerPattern c) := by
  unfold Machine.offerPattern
  (repeat' split) <;> (repeat (first | assumption | with_reducible apply Touches.senderServed | with_reducible apply Touches.offerPatternFrom | with_reducible apply Touches.line | with_reducible apply Touches.counts))

theorem Touches.admitWaitingFrom (l : List UplinkContent) (h : Touches fs b c) (h1 : Part.line ∈ fs) : Touches fs
    b (admitWaitingFrom l c) := by
  induction l generalizing c with
  | nil => exact h.line h1
  | cons f rest ih =>
    unfold Machine.admitWaitingFrom
    split
    · exact ih (Touches.admitFrame _ _ h h1)
    · exact h.line h1

theorem Touches.admitWaiting (h : Touches fs b c) (h1 : Part.line ∈ fs) : Touches fs b (admitWaiting c) := by
  unfold Machine.admitWaiting
  repeat (first | assumption | with_reducible apply Touches.admitWaitingFrom | with_reducible apply Touches.line)

theorem Touches.serveSender (x : ExchangeSender) (h : Touches fs b c) (h1 : Part.line ∈ fs) (h2 : Part.exch ∈ fs)
    (h3 : Part.counts ∈ fs) : Touches fs b (serveSender x c) := by
  unfold Machine.serveSender
  (repeat' split) <;> (repeat (first | assumption | with_reducible apply Touches.offerHeld | with_reducible apply Touches.offerPattern | with_reducible apply Touches.line | with_reducible apply Touches.exch | with_reducible apply Touches.counts))

theorem Touches.signalRoom (h : Touches fs b c) (h1 : Part.line ∈ fs) (h2 : Part.exch ∈ fs) (h3 : Part.counts ∈
    fs) : Touches fs b (signalRoom c) := by
  exact Touches.foldl (fun x d hd => Touches.serveSender x hd h1 h2 h3) _ h

theorem Touches.exchangeRoom (h : Touches fs b c) (h1 : Part.line ∈ fs) (h2 : Part.exch ∈ fs) (h3 : Part.counts ∈
    fs) : Touches fs b (exchangeRoom c) := by
  unfold Machine.exchangeRoom
  repeat (first | assumption | with_reducible apply Touches.signalRoom | with_reducible apply Touches.admitWaiting | with_reducible apply Touches.line | with_reducible apply Touches.exch | with_reducible apply Touches.counts)

theorem Touches.setExchange (x : ExchangeState) (h : Touches fs b c) (h1 : Part.exch ∈ fs) : Touches fs b
    (setExchange x c) := by
  exact h.exch h1

theorem Touches.startHold (h : Touches fs b c) (h1 : Part.exch ∈ fs) : Touches fs b (startHold c) := by
  exact h.exch h1

theorem Touches.formOpened (h : Touches fs b c) (h1 : Part.line ∈ fs) (h2 : Part.exch ∈ fs) (h3 : Part.counts ∈
    fs) : Touches fs b (formOpened c) := by
  unfold Machine.formOpened
  split
  · exact Touches.formReply _ h h1 h2 h3
  · exact Touches.startHold (Touches.formReply _ h h1 h2 h3) h2

theorem Touches.engineResult (k : QualClass) (h : Touches fs b c) (h1 : Part.line ∈ fs) (h2 : Part.exch ∈ fs) (h3
    : Part.counts ∈ fs) : Touches fs b (engineResult k c) := by
  unfold Machine.engineResult
  (repeat' split) <;> (repeat (first | assumption | with_reducible apply Touches.setExchange | with_reducible apply Touches.startHold | with_reducible apply Touches.formOpened | with_reducible apply Touches.line | with_reducible apply Touches.exch | with_reducible apply Touches.counts))

theorem Touches.abortExchange (h : Touches fs b c) (h1 : Part.line ∈ fs) (h2 : Part.exch ∈ fs) (h3 : Part.counts ∈
    fs) (h4 : Part.mgmt ∈ fs) : Touches fs b (abortExchange c) := by
  unfold Machine.abortExchange
  split
  · exact h
  · exact Touches.notice _ _ (Touches.bump _ (Touches.senderServed _ (h.exch h2) h1) h3) h4

theorem Touches.holdResult (q : Qualification) (h : Touches fs b c) (h1 : Part.line ∈ fs) : Touches fs b
    (holdResult q c) := by
  exact h.line h1

theorem Touches.finishQual (q : Qualification) (h : Touches fs b c) (h1 : Part.line ∈ fs) (h2 : Part.exch ∈ fs)
    (h3 : Part.counts ∈ fs) (h4 : Part.mgmt ∈ fs) : Touches fs b (finishQual q c) := by
  unfold Machine.finishQual
  repeat (first | assumption | with_reducible apply Touches.engineResult | with_reducible apply Touches.noticeWith | with_reducible apply Touches.senderServed | with_reducible apply Touches.holdResult | with_reducible apply Touches.line | with_reducible apply Touches.exch | with_reducible apply Touches.counts | with_reducible apply Touches.mgmt)

theorem Touches.abortQual (h : Touches fs b c) (h1 : Part.line ∈ fs) : Touches fs b (abortQual c) := by
  unfold Machine.abortQual
  split
  · exact h
  · exact Touches.senderServed _ (h.line h1) h1

theorem Touches.discardResult (h : Touches fs b c) (h1 : Part.line ∈ fs) : Touches fs b (discardResult c) := by
  exact h.line h1

theorem Touches.startQual (n k : Nat) (h : Touches fs b c) (h1 : Part.line ∈ fs) (h2 : Part.counts ∈ fs) : Touches
    fs b (startQual n k c) := by
  unfold Machine.startQual
  exact Touches.offerPattern (h.line h1) h1 h2

theorem Touches.applyQualify (n : Option Nat) (k : Option Insertion) (h : Touches fs b c) (h1 : Part.line ∈ fs)
    (h2 : Part.counts ∈ fs) : Touches fs b (applyQualify n k c).1 := by
  unfold Machine.applyQualify
  (repeat' split) <;> (repeat (first | assumption | with_reducible apply Touches.startQual | with_reducible apply Touches.line | with_reducible apply Touches.counts))

theorem Touches.examine (n : Nat) (l : List Bool) (q : Qualification) (h : Touches fs b c) (h1 : Part.line ∈ fs)
    (h2 : Part.exch ∈ fs) (h3 : Part.counts ∈ fs) (h4 : Part.mgmt ∈ fs) : Touches fs b (examine n l q c) := by
  unfold Machine.examine
  split
  · exact h
  · split
    · exact Touches.finishQual _ h h1 h2 h3 h4
    · exact h.line h1

theorem Touches.takePattern (n : Nat) (l : List Bool) (h : Touches fs b c) (h1 : Part.line ∈ fs) (h2 : Part.exch ∈
    fs) (h3 : Part.counts ∈ fs) (h4 : Part.mgmt ∈ fs) : Touches fs b (takePattern n l c) := by
  unfold Machine.takePattern
  (repeat' split) <;> (repeat (first | assumption | with_reducible apply Touches.bump | with_reducible apply Touches.examine | with_reducible apply Touches.line | with_reducible apply Touches.exch | with_reducible apply Touches.counts | with_reducible apply Touches.mgmt))

theorem Touches.takeTestLoop (h : Touches fs b c) (h1 : Part.counts ∈ fs) : Touches fs b (takeTestLoop c) := by
  unfold Machine.takeTestLoop
  (repeat' split) <;> (repeat (first | assumption | with_reducible apply Touches.bump | with_reducible apply Touches.counts))

theorem Touches.qualifyTimeout (h : Touches fs b c) (h1 : Part.line ∈ fs) (h2 : Part.exch ∈ fs) (h3 : Part.counts
    ∈ fs) (h4 : Part.mgmt ∈ fs) : Touches fs b (qualifyTimeout c) := by
  unfold Machine.qualifyTimeout
  (repeat' split) <;> (repeat (first | assumption | with_reducible apply Touches.finishQual | with_reducible apply Touches.line | with_reducible apply Touches.exch | with_reducible apply Touches.counts | with_reducible apply Touches.mgmt))

theorem Touches.setMode (m : Mode) (h : Touches fs b c) (h1 : Part.mode ∈ fs) (h2 : Part.mgmt ∈ fs) : Touches fs b
    (setMode m c) := by
  unfold Machine.setMode
  exact Touches.notice _ _ (h.mode h1) h2

theorem Touches.stopDrain (h : Touches fs b c) (h1 : Part.mode ∈ fs) : Touches fs b (stopDrain c) := by
  exact h.mode h1

theorem Touches.startDrain (h : Touches fs b c) (h1 : Part.mode ∈ fs) : Touches fs b (startDrain c) := by
  exact h.mode h1

theorem Touches.becomeClosed (h : Touches fs b c) (h1 : Part.mode ∈ fs) (h2 : Part.mgmt ∈ fs) (h3 : Part.guest ∈
    fs) (h4 : Part.labels ∈ fs) : Touches fs b (becomeClosed c) := by
  unfold Machine.becomeClosed
  repeat (first | assumption | with_reducible apply Touches.beginSweep | with_reducible apply Touches.setMode | with_reducible apply Touches.dropSessions | with_reducible apply Touches.stopDrain | with_reducible apply Touches.mode | with_reducible apply Touches.mgmt | with_reducible apply Touches.guest | with_reducible apply Touches.labels)

theorem Touches.drainExpiry (h : Touches fs b c) (h1 : Part.mode ∈ fs) (h2 : Part.mgmt ∈ fs) (h3 : Part.guest ∈
    fs) (h4 : Part.labels ∈ fs) : Touches fs b (drainExpiry c) := by
  unfold Machine.drainExpiry
  (repeat' split) <;> (repeat (first | assumption | with_reducible apply Touches.becomeClosed | with_reducible apply Touches.mode | with_reducible apply Touches.mgmt | with_reducible apply Touches.guest | with_reducible apply Touches.labels))

theorem Touches.setClockTo (v : Nat) (h : Touches fs b c) (h1 : Part.mode ∈ fs) : Touches fs b (setClockTo v c) := by
  exact h.mode h1

theorem Touches.setWindowState (w : WindowState) (h : Touches fs b c) (h1 : Part.mode ∈ fs) (h2 : Part.mgmt ∈ fs)
    : Touches fs b (setWindowState w c) := by
  unfold Machine.setWindowState
  exact Touches.notice _ _ (h.mode h1) h2

theorem Touches.stopHold (h : Touches fs b c) (h1 : Part.exch ∈ fs) : Touches fs b (stopHold c) := by
  exact h.exch h1

theorem Touches.openRequest {d : Block} (e : openRequest c = some d) (h : Touches fs b c) (h1 : Part.mode ∈ fs)
    (h2 : Part.mgmt ∈ fs) (h3 : Part.labels ∈ fs) (h4 : Part.items ∈ fs) : Touches fs b d := by
  unfold Machine.openRequest at e
  split at e
  · cases e; exact Touches.activate (Touches.setMode _ h h1 h2) h4 h3 h2
  · cases e; exact Touches.setMode _ (Touches.stopDrain h h1) h1 h2
  · cases e

theorem Touches.closeRequest {d : Block} (e : closeRequest c = some d) (h : Touches fs b c) (h1 : Part.mode ∈ fs)
    (h2 : Part.mgmt ∈ fs) : Touches fs b d := by
  unfold Machine.closeRequest at e
  split at e <;> cases e
  exact Touches.startDrain (Touches.setMode _ h h1 h2) h1

theorem Touches.closeNowRequest {d : Block} (e : closeNowRequest c = some d) (h : Touches fs b c) (h1 : Part.mode ∈ fs)
    (h2 : Part.mgmt ∈ fs) (h3 : Part.guest ∈ fs) (h4 : Part.labels ∈ fs) : Touches fs b d := by
  unfold Machine.closeNowRequest at e
  split at e <;> cases e
  exact Touches.becomeClosed h h1 h2 h3 h4

theorem Touches.windowOpenRequest {d : Block} (e : windowOpenRequest c = some d) (h : Touches fs b c)
    (h1 : Part.mode ∈ fs) (h2 : Part.mgmt ∈ fs) (h3 : Part.line ∈ fs) : Touches fs b d := by
  unfold Machine.windowOpenRequest at e
  split at e <;> cases e
  exact Touches.discardResult (Touches.setWindowState _ h h1 h2) h3

theorem Touches.windowCloseRequest {d : Block} (e : windowCloseRequest c = some d) (h : Touches fs b c)
    (h1 : Part.mode ∈ fs) (h2 : Part.mgmt ∈ fs) (h3 : Part.line ∈ fs) (h4 : Part.exch ∈ fs) (h5 : Part.counts ∈ fs) :
    Touches fs b d := by
  unfold Machine.windowCloseRequest at e
  split at e <;> cases e
  exact Touches.stopHold (Touches.abortExchange (Touches.discardResult (Touches.abortQual
    (Touches.setWindowState _ h h1 h2) h3) h3) h3 h4 h5 h2) h4

theorem Touches.fireAction (a : ScheduleAction) (h : Touches fs b c) (h1 : Part.mode ∈ fs) (h2 : Part.mgmt ∈ fs)
    (h3 : Part.guest ∈ fs) (h4 : Part.labels ∈ fs) (h5 : Part.items ∈ fs) (h6 : Part.line ∈ fs) (h7 : Part.exch ∈
    fs) (h8 : Part.counts ∈ fs) : Touches fs b (fireAction a c) := by
  unfold Machine.fireAction
  split
  · cases hr : Machine.openRequest c with
    | none => exact h
    | some d => exact Touches.openRequest hr h h1 h2 h4 h5
  · cases hr : Machine.closeRequest c with
    | none => exact h
    | some d => exact Touches.closeRequest hr h h1 h2
  · cases hr : Machine.windowOpenRequest c with
    | none => exact h
    | some d => exact Touches.windowOpenRequest hr h h1 h2 h6
  · cases hr : Machine.windowCloseRequest c with
    | none => exact h
    | some d => exact Touches.windowCloseRequest hr h h1 h2 h6 h7 h8

theorem Touches.fireEntries (k : Nat) (h : Touches fs b c) (h1 : Part.mode ∈ fs) (h2 : Part.mgmt ∈ fs) (h3 :
    Part.guest ∈ fs) (h4 : Part.labels ∈ fs) (h5 : Part.items ∈ fs) (h6 : Part.line ∈ fs) (h7 : Part.exch ∈ fs)
    (h8 : Part.counts ∈ fs) : Touches fs b (fireEntries k c) := by
  exact Touches.foldl (fun e d hd => Touches.fireAction e.action hd h1 h2 h3 h4 h5 h6 h7 h8) _ h

theorem Touches.newSecond (h : Touches fs b c) (h1 : Part.time ∈ fs) : Touches fs b (newSecond c) := by
  exact h.time h1

theorem Touches.clockAdvance (h : Touches fs b c) (h1 : Part.mode ∈ fs) (h2 : Part.mgmt ∈ fs) (h3 : Part.guest ∈
    fs) (h4 : Part.labels ∈ fs) (h5 : Part.items ∈ fs) (h6 : Part.line ∈ fs) (h7 : Part.exch ∈ fs) (h8 :
    Part.counts ∈ fs) (h9 : Part.time ∈ fs) : Touches fs b (clockAdvance c) := by
  unfold Machine.clockAdvance
  (repeat' split) <;> (repeat (first | assumption | with_reducible apply Touches.newSecond | with_reducible apply Touches.fireEntries | with_reducible apply Touches.setClockTo | with_reducible apply Touches.mode | with_reducible apply Touches.mgmt | with_reducible apply Touches.guest | with_reducible apply Touches.labels | with_reducible apply Touches.items | with_reducible apply Touches.line | with_reducible apply Touches.exch | with_reducible apply Touches.counts | with_reducible apply Touches.time))

theorem Touches.applyOpen (h : Touches fs b c) (h1 : Part.mode ∈ fs) (h2 : Part.mgmt ∈ fs) (h3 : Part.labels ∈ fs)
    (h4 : Part.items ∈ fs) : Touches fs b (applyOpen c).1 := by
  unfold Machine.applyOpen
  split
  · next d hr => exact Touches.openRequest hr h h1 h2 h3 h4
  · exact h

theorem Touches.applyClose (h : Touches fs b c) (h1 : Part.mode ∈ fs) (h2 : Part.mgmt ∈ fs) : Touches fs b
    (applyClose c).1 := by
  unfold Machine.applyClose
  split
  · next d hr => exact Touches.closeRequest hr h h1 h2
  · exact h

theorem Touches.applyCloseNow (h : Touches fs b c) (h1 : Part.mode ∈ fs) (h2 : Part.mgmt ∈ fs) (h3 : Part.guest ∈
    fs) (h4 : Part.labels ∈ fs) : Touches fs b (applyCloseNow c).1 := by
  unfold Machine.applyCloseNow
  split
  · next d hr => exact Touches.closeNowRequest hr h h1 h2 h3 h4
  · exact h

theorem Touches.applySetClock (v : Nat) (h : Touches fs b c) (h1 : Part.mode ∈ fs) : Touches fs b (applySetClock v
    c).1 := by
  unfold Machine.applySetClock
  (repeat' split) <;> (repeat (first | assumption | with_reducible apply Touches.setClockTo | with_reducible apply Touches.mode))

theorem Touches.applyWindowOpen (h : Touches fs b c) (h1 : Part.mode ∈ fs) (h2 : Part.mgmt ∈ fs) (h3 : Part.line ∈
    fs) : Touches fs b (applyWindowOpen c).1 := by
  unfold Machine.applyWindowOpen
  split
  · next d hr => exact Touches.windowOpenRequest hr h h1 h2 h3
  · exact h

theorem Touches.applyWindowClose (h : Touches fs b c) (h1 : Part.mode ∈ fs) (h2 : Part.mgmt ∈ fs) (h3 : Part.line
    ∈ fs) (h4 : Part.exch ∈ fs) (h5 : Part.counts ∈ fs) : Touches fs b (applyWindowClose c).1 := by
  unfold Machine.applyWindowClose
  split
  · next d hr => exact Touches.windowCloseRequest hr h h1 h2 h3 h4 h5
  · exact h

theorem Touches.applyScheduleWrite (n : Fin 16) (w : ScheduleWrite) (h : Touches fs b c) (h1 : Part.mode ∈ fs) :
    Touches fs b (applyScheduleWrite n w c).1 := by
  unfold Machine.applyScheduleWrite
  (repeat' split) <;> (repeat (first | assumption | with_reducible apply Touches.mode))

theorem Touches.applyModeSettings (w : ModeSettingsWrite) (h : Touches fs b c) (h1 : Part.mode ∈ fs) : Touches fs
    b (applyModeSettings w c).1 := by
  unfold Machine.applyModeSettings
  (repeat' split) <;> (repeat (first | assumption | with_reducible apply Touches.mode))

theorem Touches.applyPriceSettings (w : PriceSettingsWrite) (h : Touches fs b c) (h1 : Part.price ∈ fs) (h2 :
    Part.composer ∈ fs) : Touches fs b (applyPriceSettings w c).1 := by
  unfold Machine.applyPriceSettings
  split
  · exact h
  · dsimp only
    split
    · exact h.price h1
    · exact Touches.emptyStyle (h.price h1) h2

theorem Touches.warmMode (h : Touches fs b c) (h1 : Part.mode ∈ fs) (h2 : Part.mgmt ∈ fs) (h3 : Part.guest ∈ fs)
    (h4 : Part.labels ∈ fs) : Touches fs b (warmMode c) := by
  unfold Machine.warmMode
  (repeat' split) <;> (repeat (first | assumption | with_reducible apply Touches.becomeClosed | with_reducible apply Touches.mode | with_reducible apply Touches.mgmt | with_reducible apply Touches.guest | with_reducible apply Touches.labels))

theorem Touches.refuseExchange (k : Byte) (r : Code) (h : Touches fs b c) (h1 : Part.line ∈ fs) (h2 : Part.exch ∈
    fs) (h3 : Part.counts ∈ fs) : Touches fs b (refuseExchange k r c) := by
  unfold Machine.refuseExchange
  repeat (first | assumption | with_reducible apply Touches.formReply | with_reducible apply Touches.bump | with_reducible apply Touches.line | with_reducible apply Touches.exch | with_reducible apply Touches.counts)

theorem Touches.openFromIdle (h : Touches fs b c) (h1 : Part.line ∈ fs) (h2 : Part.exch ∈ fs) (h3 : Part.counts ∈
    fs) : Touches fs b (openFromIdle c) := by
  unfold Machine.openFromIdle
  (repeat' split) <;> (repeat (first | assumption | with_reducible apply Touches.setExchange | with_reducible apply Touches.formOpened | with_reducible apply Touches.startQual | with_reducible apply Touches.line | with_reducible apply Touches.exch | with_reducible apply Touches.counts))

theorem Touches.openByState (h : Touches fs b c) (h1 : Part.line ∈ fs) (h2 : Part.exch ∈ fs) (h3 : Part.counts ∈
    fs) : Touches fs b (openByState c) := by
  unfold Machine.openByState
  split
  · exact Touches.refuseExchange _ _ h h1 h2 h3
  · exact Touches.formOpened h h1 h2 h3
  · exact Touches.setExchange _ (Touches.formOpened (h.exch h2) h1 h2 h3) h2
  · split
    · exact Touches.refuseExchange _ _ h h1 h2 h3
    · exact Touches.openFromIdle h h1 h2 h3

theorem Touches.takeOpen (h : Touches fs b c) (h1 : Part.line ∈ fs) (h2 : Part.exch ∈ fs) (h3 : Part.counts ∈ fs)
    : Touches fs b (takeOpen c) := by
  unfold Machine.takeOpen
  (repeat' split) <;> (repeat (first | assumption | with_reducible apply Touches.refuseExchange | with_reducible apply Touches.openByState | with_reducible apply Touches.line | with_reducible apply Touches.exch | with_reducible apply Touches.counts))

theorem Touches.startByNumber (n k : Nat) (h : Touches fs b c) (h1 : Part.line ∈ fs) (h2 : Part.exch ∈ fs) (h3 :
    Part.counts ∈ fs) : Touches fs b (startByNumber n k c) := by
  unfold Machine.startByNumber
  split
  · exact Touches.setExchange _ (h.exch h2) h2
  · split
    · split
      · exact Touches.formReply _ h h1 h2 h3
      · exact Touches.refuseExchange _ _ h h1 h2 h3
    · exact Touches.refuseExchange _ _ h h1 h2 h3

theorem Touches.takeStart (n k : Nat) (h : Touches fs b c) (h1 : Part.line ∈ fs) (h2 : Part.exch ∈ fs) (h3 :
    Part.counts ∈ fs) : Touches fs b (takeStart n k c) := by
  unfold Machine.takeStart
  (repeat' split) <;> (repeat (first | assumption | with_reducible apply Touches.refuseExchange | with_reducible apply Touches.startByNumber | with_reducible apply Touches.line | with_reducible apply Touches.exch | with_reducible apply Touches.counts))

theorem Touches.takeRecords (l : List ExchangeRecord) (h : Touches fs b c) (h1 : Part.line ∈ fs) (h2 : Part.exch ∈
    fs) (h3 : Part.counts ∈ fs) : Touches fs b (takeRecords l c) := by
  unfold Machine.takeRecords
  (repeat' split) <;> (repeat (first | assumption | with_reducible apply Touches.refuseExchange | with_reducible apply Touches.line | with_reducible apply Touches.exch | with_reducible apply Touches.counts))

theorem Touches.applyTime (v : Option Nat) (h : Touches fs b c) (h1 : Part.mode ∈ fs) : Touches fs b (applyTime v
    c).1 := by
  unfold Machine.applyTime
  (repeat' split) <;> (repeat (first | assumption | with_reducible apply Touches.setClockTo | with_reducible apply Touches.mode))

theorem Touches.applyStaged (r : StagedRecord) (h : Touches fs b c) (h1 : Part.items ∈ fs) (h2 : Part.labels ∈ fs)
    (h3 : Part.composer ∈ fs) (h4 : Part.mgmt ∈ fs) (h5 : Part.mode ∈ fs) : Touches fs b (applyStaged r c).1 := by
  unfold Machine.applyStaged
  (repeat' split) <;> (repeat (first | assumption | with_reducible apply Touches.applyPrice | with_reducible apply Touches.applyDescription | with_reducible apply Touches.applyWithdraw | with_reducible apply Touches.applyLabel | with_reducible apply Touches.applyBind | with_reducible apply Touches.applyUnbindRecord | with_reducible apply Touches.applyTemplateRecord | with_reducible apply Touches.applyTime | with_reducible apply Touches.items | with_reducible apply Touches.labels | with_reducible apply Touches.composer | with_reducible apply Touches.mgmt | with_reducible apply Touches.mode))

theorem Touches.commitRecords (l : List StagedRecord) (h : Touches fs b c) (h1 : Part.items ∈ fs) (h2 : Part.labels ∈ fs)
    (h3 : Part.composer ∈ fs) (h4 : Part.mgmt ∈ fs) (h5 : Part.mode ∈ fs) :
    Touches fs b (commitRecords l c).block := by
  unfold Machine.commitRecords
  suffices ∀ k : Commit, Touches fs b k.block → Touches fs b (l.foldl commitOne k).block from this _ h
  induction l with
  | nil => exact fun k hk => hk
  | cons r rest ih =>
    refine fun k hk => ih (commitOne k r) ?_
    unfold commitOne
    split <;> exact Touches.applyStaged _ hk h1 h2 h3 h4 h5

theorem Touches.commitBatch (g : Staging) (h : Touches fs b c) (h1 : Part.items ∈ fs) (h2 : Part.labels ∈ fs) (h3
    : Part.composer ∈ fs) (h4 : Part.mgmt ∈ fs) (h5 : Part.mode ∈ fs) (h6 : Part.line ∈ fs) (h7 : Part.exch ∈ fs)
    (h8 : Part.counts ∈ fs) : Touches fs b (commitBatch g c) := by
  unfold Machine.commitBatch finishCommit
  have hc := Touches.commitRecords g.records h h1 h2 h3 h4 h5
  exact Touches.setExchange _ (Touches.bump _ (Touches.notice _ _
    (Touches.formReply _ (hc.exch h7) h6 h7 h8) h4) h8) h7

theorem Touches.rejectBatch (g : Staging) (y : Bool) (h : Touches fs b c) (h1 : Part.line ∈ fs) (h2 : Part.exch ∈
    fs) (h3 : Part.counts ∈ fs) : Touches fs b (rejectBatch g y c) := by
  unfold Machine.rejectBatch
  exact Touches.setExchange _ (Touches.bump _ (Touches.formReply _ (h.exch h2) h1 h2 h3) h3) h2

theorem Touches.endBatch (k : Nat) (g : Staging) (h : Touches fs b c) (h1 : Part.items ∈ fs) (h2 : Part.labels ∈
    fs) (h3 : Part.composer ∈ fs) (h4 : Part.mgmt ∈ fs) (h5 : Part.mode ∈ fs) (h6 : Part.line ∈ fs) (h7 :
    Part.exch ∈ fs) (h8 : Part.counts ∈ fs) : Touches fs b (endBatch k g c) := by
  unfold Machine.endBatch
  (repeat' split) <;> (repeat (first | assumption | with_reducible apply Touches.rejectBatch | with_reducible apply Touches.commitBatch | with_reducible apply Touches.items | with_reducible apply Touches.labels | with_reducible apply Touches.composer | with_reducible apply Touches.mgmt | with_reducible apply Touches.mode | with_reducible apply Touches.line | with_reducible apply Touches.exch | with_reducible apply Touches.counts))

theorem Touches.takeEnd (k : Nat) (h : Touches fs b c) (h1 : Part.items ∈ fs) (h2 : Part.labels ∈ fs) (h3 :
    Part.composer ∈ fs) (h4 : Part.mgmt ∈ fs) (h5 : Part.mode ∈ fs) (h6 : Part.line ∈ fs) (h7 : Part.exch ∈ fs)
    (h8 : Part.counts ∈ fs) : Touches fs b (takeEnd k c) := by
  unfold Machine.takeEnd
  (repeat' split) <;> (repeat (first | assumption | with_reducible apply Touches.endBatch | with_reducible apply Touches.refuseExchange | with_reducible apply Touches.items | with_reducible apply Touches.labels | with_reducible apply Touches.composer | with_reducible apply Touches.mgmt | with_reducible apply Touches.mode | with_reducible apply Touches.line | with_reducible apply Touches.exch | with_reducible apply Touches.counts))

theorem Touches.takeExchange (f : ExchangeFrame) (h : Touches fs b c) (h1 : Part.items ∈ fs) (h2 : Part.labels ∈
    fs) (h3 : Part.composer ∈ fs) (h4 : Part.mgmt ∈ fs) (h5 : Part.mode ∈ fs) (h6 : Part.line ∈ fs) (h7 :
    Part.exch ∈ fs) (h8 : Part.counts ∈ fs) : Touches fs b (takeExchange f c) := by
  unfold Machine.takeExchange
  (repeat' split) <;> (repeat (first | assumption | with_reducible apply Touches.takeOpen | with_reducible apply Touches.takeStart | with_reducible apply Touches.takeRecords | with_reducible apply Touches.takeEnd | with_reducible apply Touches.refuseExchange | with_reducible apply Touches.items | with_reducible apply Touches.labels | with_reducible apply Touches.composer | with_reducible apply Touches.mgmt | with_reducible apply Touches.mode | with_reducible apply Touches.line | with_reducible apply Touches.exch | with_reducible apply Touches.counts))

theorem Touches.warmExchange (h : Touches fs b c) (h1 : Part.line ∈ fs) (h2 : Part.exch ∈ fs) (h3 : Part.counts ∈
    fs) (h4 : Part.mgmt ∈ fs) : Touches fs b (warmExchange c) := by
  unfold Machine.warmExchange
  exact Touches.stopHold ((Touches.abortExchange h h1 h2 h3 h4).exch h2) h2

theorem Touches.lineUp (h : Touches fs b c) (h1 : Part.line ∈ fs) (h2 : Part.exch ∈ fs) (h3 : Part.counts ∈ fs)
    (h4 : Part.mgmt ∈ fs) : Touches fs b (lineUp c) := by
  unfold Machine.lineUp
  exact Touches.signalRoom (Touches.notice _ _ (h.line h1) h4) h1 h2 h3

theorem Touches.countForState (h : Touches fs b c) (h1 : Part.line ∈ fs) (h2 : Part.exch ∈ fs) (h3 : Part.counts ∈
    fs) (h4 : Part.mgmt ∈ fs) : Touches fs b (countForState c) := by
  unfold Machine.countForState
  split
  · exact h.line h1
  · split
    · exact Touches.lineUp h h1 h2 h3 h4
    · exact h.line h1

theorem Touches.discardClass (k : UplinkClass) (h : Touches fs b c) (h1 : Part.line ∈ fs) (h2 : Part.counts ∈ fs)
    : Touches fs b (discardClass k c) := by
  unfold Machine.discardClass
  repeat (first | assumption | with_reducible apply Touches.setClass | with_reducible apply Touches.bumpBy | with_reducible apply Touches.line | with_reducible apply Touches.counts)

theorem Touches.discardWaiting (h : Touches fs b c) (h1 : Part.line ∈ fs) (h2 : Part.counts ∈ fs) : Touches fs b
    (discardWaiting c) := by
  unfold Machine.discardWaiting
  exact (Touches.bumpBy _ _ h h2).line h1

theorem Touches.discardQueue (h : Touches fs b c) (h1 : Part.line ∈ fs) (h2 : Part.counts ∈ fs) : Touches fs b
    (discardQueue c) := by
  exact Touches.discardWaiting (Touches.foldl (fun k d hd => Touches.discardClass k hd h1 h2) _ h) h1 h2

theorem Touches.goDown (h : Touches fs b c) (h1 : Part.line ∈ fs) (h2 : Part.counts ∈ fs) (h3 : Part.mgmt ∈ fs) :
    Touches fs b (goDown c) := by
  unfold Machine.goDown
  refine Touches.notice _ _ (Touches.bump _ ?_ h2) h3
  exact Touches.line h h1

theorem Touches.lineDown (h : Touches fs b c) (h1 : Part.line ∈ fs) (h2 : Part.exch ∈ fs) (h3 : Part.counts ∈ fs)
    (h4 : Part.mgmt ∈ fs) (h5 : Part.till ∈ fs) : Touches fs b (lineDown c) := by
  exact Touches.abortExchange (Touches.revertSent (Touches.abortQual (Touches.discardResult
    (Touches.discardQueue (Touches.goDown h h1 h3 h4) h1 h3) h1) h1) h5) h1 h2 h3 h4

theorem Touches.lossExpiry (h : Touches fs b c) (h1 : Part.line ∈ fs) (h2 : Part.exch ∈ fs) (h3 : Part.counts ∈
    fs) (h4 : Part.mgmt ∈ fs) (h5 : Part.till ∈ fs) : Touches fs b (lossExpiry c) := by
  unfold Machine.lossExpiry
  (repeat' split) <;> (repeat (first | assumption | with_reducible apply Touches.lineDown | with_reducible apply Touches.line | with_reducible apply Touches.exch | with_reducible apply Touches.counts | with_reducible apply Touches.mgmt | with_reducible apply Touches.till))

theorem Touches.aliveExpiry (h : Touches fs b c) (h1 : Part.line ∈ fs) : Touches fs b (aliveExpiry c) := by
  exact h.line h1

theorem Touches.sendFrame (f : SentFrame) (h : Touches fs b c) (h1 : Part.line ∈ fs) (h2 : Part.out ∈ fs) :
    Touches fs b (sendFrame f c) := by
  unfold Machine.sendFrame
  (repeat' split) <;> (repeat (first | assumption | with_reducible apply Touches.emit | with_reducible apply Touches.line | with_reducible apply Touches.out))

theorem Touches.sendAlive (h : Touches fs b c) (h1 : Part.line ∈ fs) (h2 : Part.counts ∈ fs) (h3 : Part.out ∈ fs)
    : Touches fs b (sendAlive c) := by
  unfold Machine.sendAlive
  exact Touches.bump _ (Touches.sendFrame _ (h.line h1) h1 h3) h2

theorem Touches.payFor (k : UplinkClass) (f : UplinkContent) (h : Touches fs b c) (h1 : Part.guest ∈ fs) : Touches
    fs b (payFor k f c) := by
  unfold Machine.payFor
  (repeat' split) <;> (repeat (first | assumption | with_reducible apply Touches.guest))

theorem Touches.noteLastPattern (f : UplinkContent) (h : Touches fs b c) (h1 : Part.line ∈ fs) : Touches fs b
    (noteLastPattern f c) := by
  unfold Machine.noteLastPattern
  (repeat' split) <;> (repeat (first | assumption | with_reducible apply Touches.line))

theorem Touches.noteRoom (k : UplinkClass) (h : Touches fs b c) (h1 : Part.line ∈ fs) (h2 : Part.exch ∈ fs) (h3 :
    Part.counts ∈ fs) : Touches fs b (noteRoom k c) := by
  unfold Machine.noteRoom
  (repeat' split) <;> (repeat (first | assumption | with_reducible apply Touches.exchangeRoom | with_reducible apply Touches.line | with_reducible apply Touches.exch | with_reducible apply Touches.counts))

theorem Touches.takeFrame (k : UplinkClass) (f : UplinkContent) (l : List UplinkContent) (h : Touches fs b c) (h1
    : Part.line ∈ fs) (h2 : Part.exch ∈ fs) (h3 : Part.counts ∈ fs) (h4 : Part.guest ∈ fs) (h5 : Part.out ∈ fs) :
    Touches fs b (takeFrame k f l c) := by
  unfold Machine.takeFrame
  repeat (first | assumption | with_reducible apply Touches.noteRoom | with_reducible apply Touches.noteLastPattern | with_reducible apply Touches.bump | with_reducible apply Touches.sendFrame | with_reducible apply Touches.payFor | with_reducible apply Touches.setClass | with_reducible apply Touches.line | with_reducible apply Touches.exch | with_reducible apply Touches.counts | with_reducible apply Touches.guest | with_reducible apply Touches.out)

theorem Touches.drainOne (h : Touches fs b c) (h1 : Part.line ∈ fs) (h2 : Part.exch ∈ fs) (h3 : Part.counts ∈ fs)
    (h4 : Part.guest ∈ fs) (h5 : Part.out ∈ fs) : Touches fs b (drainOne c) := by
  unfold Machine.drainOne
  (repeat' split) <;> (repeat (first | assumption | with_reducible apply Touches.takeFrame | with_reducible apply Touches.line | with_reducible apply Touches.exch | with_reducible apply Touches.counts | with_reducible apply Touches.guest | with_reducible apply Touches.out))

theorem Touches.transmitStart (h : Touches fs b c) (h1 : Part.line ∈ fs) (h2 : Part.exch ∈ fs) (h3 : Part.counts ∈
    fs) (h4 : Part.guest ∈ fs) (h5 : Part.out ∈ fs) : Touches fs b (transmitStart c) := by
  unfold Machine.transmitStart
  (repeat' split) <;> (repeat (first | assumption | with_reducible apply Touches.sendAlive | with_reducible apply Touches.drainOne | with_reducible apply Touches.line | with_reducible apply Touches.exch | with_reducible apply Touches.counts | with_reducible apply Touches.guest | with_reducible apply Touches.out))

theorem Touches.abortForLoopback (h : Touches fs b c) (h1 : Part.line ∈ fs) (h2 : Part.exch ∈ fs) (h3 :
    Part.counts ∈ fs) (h4 : Part.mgmt ∈ fs) : Touches fs b (abortForLoopback c) := by
  unfold Machine.abortForLoopback
  (repeat' split) <;> (repeat (first | assumption | with_reducible apply Touches.abortExchange | with_reducible apply Touches.abortQual | with_reducible apply Touches.line | with_reducible apply Touches.exch | with_reducible apply Touches.counts | with_reducible apply Touches.mgmt))

theorem Touches.changeLoopback (l : Loopback) (t : Option Nat) (h : Touches fs b c) (h1 : Part.line ∈ fs) (h2 :
    Part.exch ∈ fs) (h3 : Part.counts ∈ fs) (h4 : Part.mgmt ∈ fs) : Touches fs b (changeLoopback l t c) := by
  unfold Machine.changeLoopback
  exact Touches.notice _ _ (Touches.abortForLoopback (h.line h1) h1 h2 h3 h4) h4

theorem Touches.setLoopback (l : Loopback) (n : Nat) (h : Touches fs b c) (h1 : Part.line ∈ fs) (h2 : Part.exch ∈
    fs) (h3 : Part.counts ∈ fs) (h4 : Part.mgmt ∈ fs) : Touches fs b (setLoopback l n c) := by
  unfold Machine.setLoopback
  split
  · exact h.line h1
  · exact Touches.changeLoopback _ _ h h1 h2 h3 h4

theorem Touches.applyLoop (l : Loopback) (n : Option Nat) (h : Touches fs b c) (h1 : Part.line ∈ fs) (h2 :
    Part.exch ∈ fs) (h3 : Part.counts ∈ fs) (h4 : Part.mgmt ∈ fs) : Touches fs b (applyLoop l n c).1 := by
  unfold Machine.applyLoop
  (repeat' split) <;> (repeat (first | assumption | with_reducible apply Touches.setLoopback | with_reducible apply Touches.line | with_reducible apply Touches.exch | with_reducible apply Touches.counts | with_reducible apply Touches.mgmt))

theorem Touches.applyLoopback (m : Coded Loopback) (n : Option Nat) (h : Touches fs b c) (h1 : Part.line ∈ fs) (h2
    : Part.exch ∈ fs) (h3 : Part.counts ∈ fs) (h4 : Part.mgmt ∈ fs) : Touches fs b (applyLoopback m n c).1 := by
  unfold Machine.applyLoopback
  (repeat' split) <;> (repeat (first | assumption | with_reducible apply Touches.applyLoop | with_reducible apply Touches.changeLoopback | with_reducible apply Touches.line | with_reducible apply Touches.exch | with_reducible apply Touches.counts | with_reducible apply Touches.mgmt))

theorem Touches.loopbackExpiry (h : Touches fs b c) (h1 : Part.line ∈ fs) (h2 : Part.exch ∈ fs) (h3 : Part.counts
    ∈ fs) (h4 : Part.mgmt ∈ fs) : Touches fs b (loopbackExpiry c) := by
  unfold Machine.loopbackExpiry
  (repeat' split) <;> (repeat (first | assumption | with_reducible apply Touches.changeLoopback | with_reducible apply Touches.line | with_reducible apply Touches.exch | with_reducible apply Touches.counts | with_reducible apply Touches.mgmt))

theorem Touches.warmLine (h : Touches fs b c) (h1 : Part.line ∈ fs) : Touches fs b (warmLine c) := by
  exact h.line h1

theorem Touches.setWindow (x : MgmtSource) (w : TableWindow) (h : Touches fs b c) (h1 : Part.mgmt ∈ fs) : Touches
    fs b (setWindow x w c) := by
  unfold Machine.setWindow
  (repeat' split) <;> (repeat (first | assumption | with_reducible apply Touches.mgmt))

theorem Touches.applyWindow (x : MgmtSource) (t : Coded TableName) (f l : Nat) (d : Coded Direction) (h : Touches
    fs b c) (h1 : Part.mgmt ∈ fs) : Touches fs b (applyWindow x t f l d c).1 := by
  unfold Machine.applyWindow
  (repeat' split) <;> (repeat (first | assumption | with_reducible apply Touches.setWindow | with_reducible apply Touches.mgmt))

theorem Touches.applyCollectorWrite (a : Option NetAddr) (h : Touches fs b c) (h1 : Part.mgmt ∈ fs) : Touches fs b
    (applyCollectorWrite a c).1 := by
  unfold Machine.applyCollectorWrite
  (repeat' split) <;> (repeat (first | assumption | with_reducible apply Touches.mgmt))

theorem Touches.writePorts (n : Nat) (r : WriteRecord) (h : Touches fs b c) (h1 : Part.fwd ∈ fs) (h2 : Part.mgmt ∈
    fs) : Touches fs b (writePorts n r c).1 := by
  unfold Machine.writePorts
  (repeat' split) <;> (repeat (first | assumption | with_reducible apply Touches.applyPortWrite | with_reducible apply Touches.applyGatewayWrite | with_reducible apply Touches.applyAgingWrite | with_reducible apply Touches.applyCollectorWrite | with_reducible apply Touches.fwd | with_reducible apply Touches.mgmt))

theorem Touches.writePolicy (n : Nat) (r : WriteRecord) (h : Touches fs b c) (h1 : Part.fwd ∈ fs) : Touches fs b
    (writePolicy n r c).1 := by
  unfold Machine.writePolicy
  (repeat' split) <;> (repeat (first | assumption | with_reducible apply Touches.applyPolicyWrite | with_reducible apply Touches.fwd))

theorem Touches.writeSchedule (n : Nat) (r : WriteRecord) (h : Touches fs b c) (h1 : Part.mode ∈ fs) : Touches fs
    b (writeSchedule n r c).1 := by
  unfold Machine.writeSchedule
  (repeat' split) <;> (repeat (first | assumption | with_reducible apply Touches.applyScheduleWrite | with_reducible apply Touches.applyModeSettings | with_reducible apply Touches.mode))

theorem Touches.writePriceSettings (n : Nat) (r : WriteRecord) (h : Touches fs b c) (h1 : Part.price ∈ fs) (h2 :
    Part.composer ∈ fs) : Touches fs b (writePriceSettings n r c).1 := by
  unfold Machine.writePriceSettings
  (repeat' split) <;> (repeat (first | assumption | with_reducible apply Touches.applyPriceSettings | with_reducible apply Touches.price | with_reducible apply Touches.composer))

theorem Touches.writeTemplates (n : Nat) (r : WriteRecord) (h : Touches fs b c) (h1 : Part.composer ∈ fs) (h2 :
    Part.labels ∈ fs) : Touches fs b (writeTemplates n r c).1 := by
  unfold Machine.writeTemplates
  (repeat' split) <;> (repeat (first | assumption | with_reducible apply Touches.applyTemplateWrite | with_reducible apply Touches.composer | with_reducible apply Touches.labels))

theorem Touches.writeGlyphs (n : Nat) (r : WriteRecord) (h : Touches fs b c) (h1 : Part.composer ∈ fs) : Touches
    fs b (writeGlyphs n r c).1 := by
  unfold Machine.writeGlyphs
  (repeat' split) <;> (repeat (first | assumption | with_reducible apply Touches.applyFontWrite | with_reducible apply Touches.applyGlyphWrite | with_reducible apply Touches.composer))

theorem Touches.writeRadio (n : Nat) (r : WriteRecord) (h : Touches fs b c) (h1 : Part.radio ∈ fs) : Touches fs b
    (writeRadio n r c).1 := by
  unfold Machine.writeRadio
  (repeat' split) <;> (repeat (first | assumption | with_reducible apply Touches.applyRadioSettings | with_reducible apply Touches.radio))

theorem Touches.writeGuest (n : Nat) (r : WriteRecord) (h : Touches fs b c) (h1 : Part.guest ∈ fs) : Touches fs b
    (writeGuest n r c).1 := by
  unfold Machine.writeGuest
  (repeat' split) <;> (repeat (first | assumption | with_reducible apply Touches.applyGuestProfile | with_reducible apply Touches.guest))

theorem Touches.writeItems (r : WriteRecord) (h : Touches fs b c) (h1 : Part.items ∈ fs) (h2 : Part.labels ∈ fs)
    (h3 : Part.mgmt ∈ fs) : Touches fs b (writeItems r c).1 := by
  unfold Machine.writeItems
  (repeat' split) <;> (repeat (first | assumption | with_reducible apply Touches.applyPrice | with_reducible apply Touches.applyDescription | with_reducible apply Touches.applyWithdraw | with_reducible apply Touches.items | with_reducible apply Touches.labels | with_reducible apply Touches.mgmt))

theorem Touches.writeLabels (r : WriteRecord) (h : Touches fs b c) (h1 : Part.items ∈ fs) (h2 : Part.labels ∈ fs)
    (h3 : Part.composer ∈ fs) : Touches fs b (writeLabels r c).1 := by
  unfold Machine.writeLabels
  (repeat' split) <;> (repeat (first | assumption | with_reducible apply Touches.applyLabel | with_reducible apply Touches.applyBind | with_reducible apply Touches.applyUnbindRecord | with_reducible apply Touches.applyTemplateRecord | with_reducible apply Touches.items | with_reducible apply Touches.labels | with_reducible apply Touches.composer))

theorem Touches.writeAt (t : TableName) (n : Nat) (r : WriteRecord) (h : Touches fs b c) (h1 : Part.items ∈ fs)
    (h2 : Part.labels ∈ fs) (h3 : Part.composer ∈ fs) (h4 : Part.mgmt ∈ fs) (h5 : Part.mode ∈ fs) (h6 : Part.price
    ∈ fs) (h7 : Part.radio ∈ fs) (h8 : Part.fwd ∈ fs) (h9 : Part.guest ∈ fs) : Touches fs b (writeAt t n r c).1 :=
    by
  unfold Machine.writeAt
  (repeat' split) <;> (repeat (first | assumption | with_reducible apply Touches.writePorts | with_reducible apply Touches.writePolicy | with_reducible apply Touches.writeSchedule | with_reducible apply Touches.writePriceSettings | with_reducible apply Touches.writeTemplates | with_reducible apply Touches.writeGlyphs | with_reducible apply Touches.writeRadio | with_reducible apply Touches.writeGuest | with_reducible apply Touches.writeItems | with_reducible apply Touches.writeLabels | with_reducible apply Touches.items | with_reducible apply Touches.labels | with_reducible apply Touches.composer | with_reducible apply Touches.mgmt | with_reducible apply Touches.mode | with_reducible apply Touches.price | with_reducible apply Touches.radio | with_reducible apply Touches.fwd | with_reducible apply Touches.guest))

theorem Touches.writeFrom (x : MgmtSource) (n : Nat) (l : List WriteRecord) (h : Touches fs b c) (h1 : Part.items
    ∈ fs) (h2 : Part.labels ∈ fs) (h3 : Part.composer ∈ fs) (h4 : Part.mgmt ∈ fs) (h5 : Part.mode ∈ fs) (h6 :
    Part.price ∈ fs) (h7 : Part.radio ∈ fs) (h8 : Part.fwd ∈ fs) (h9 : Part.guest ∈ fs) : Touches fs b (writeFrom
    x n l c).1 := by
  induction l generalizing n c with
  | nil => unfold Machine.writeFrom; split <;> exact h
  | cons r rest ih =>
    unfold Machine.writeFrom
    split
    · exact h
    · split
      · exact Touches.writeAt _ _ _ h h1 h2 h3 h4 h5 h6 h7 h8 h9
      · exact ih (n + 1) (Touches.setWindow _ _ (Touches.writeAt _ _ _ h h1 h2 h3 h4 h5 h6 h7 h8 h9) h4)

theorem Touches.applyWrite (x : MgmtSource) (l : List WriteRecord) (h : Touches fs b c) (h1 : Part.items ∈ fs) (h2
    : Part.labels ∈ fs) (h3 : Part.composer ∈ fs) (h4 : Part.mgmt ∈ fs) (h5 : Part.mode ∈ fs) (h6 : Part.price ∈
    fs) (h7 : Part.radio ∈ fs) (h8 : Part.fwd ∈ fs) (h9 : Part.guest ∈ fs) : Touches fs b (applyWrite x l c).1 :=
    by
  unfold Machine.applyWrite
  (repeat' split) <;> (repeat (first | assumption | with_reducible apply Touches.writeFrom | with_reducible apply Touches.items | with_reducible apply Touches.labels | with_reducible apply Touches.composer | with_reducible apply Touches.mgmt | with_reducible apply Touches.mode | with_reducible apply Touches.price | with_reducible apply Touches.radio | with_reducible apply Touches.fwd | with_reducible apply Touches.guest))

theorem Touches.setWrites (l : List WriteProgress) (h : Touches fs b c) (h1 : Part.mgmt ∈ fs) : Touches fs b
    (setWrites l c) := h.mgmt h1

theorem Touches.writePart (g : MgmtHeader) (n k : Nat) (r : WriteRecord) (l : List WriteProgress) (w : TableWindow)
    (h : Touches fs b c) (h1 : Part.items ∈ fs) (h2 : Part.labels ∈ fs) (h3 : Part.composer ∈ fs) (h4 : Part.mgmt ∈ fs)
    (h5 : Part.mode ∈ fs) (h6 : Part.price ∈ fs) (h7 : Part.radio ∈ fs) (h8 : Part.fwd ∈ fs) (h9 : Part.guest ∈ fs) :
    Touches fs b (writePart g n k r l w c).1 := by
  have hw := Touches.writeAt w.table w.cursor r h h1 h2 h3 h4 h5 h6 h7 h8 h9
  unfold Machine.writePart
  split
  · exact Touches.setWrites _ hw h4
  · split <;> exact Touches.setWrites _ (Touches.setWindow _ _ hw h4) h4

theorem Touches.writeFirst (g : MgmtHeader) (k : Nat) (r : WriteRecord) (h : Touches fs b c) (h1 : Part.items ∈ fs)
    (h2 : Part.labels ∈ fs) (h3 : Part.composer ∈ fs) (h4 : Part.mgmt ∈ fs) (h5 : Part.mode ∈ fs) (h6 : Part.price ∈ fs)
    (h7 : Part.radio ∈ fs) (h8 : Part.fwd ∈ fs) (h9 : Part.guest ∈ fs) : Touches fs b (writeFirst g k r c).1 := by
  unfold Machine.writeFirst
  repeat' split
  all_goals first | exact h | exact Touches.writePart _ _ _ _ _ _ h h1 h2 h3 h4 h5 h6 h7 h8 h9

theorem Touches.writeLater (g : MgmtHeader) (n k : Nat) (r : WriteRecord) (h : Touches fs b c) (h1 : Part.items ∈ fs)
    (h2 : Part.labels ∈ fs) (h3 : Part.composer ∈ fs) (h4 : Part.mgmt ∈ fs) (h5 : Part.mode ∈ fs) (h6 : Part.price ∈ fs)
    (h7 : Part.radio ∈ fs) (h8 : Part.fwd ∈ fs) (h9 : Part.guest ∈ fs) : Touches fs b (writeLater g n k r c).1 := by
  unfold Machine.writeLater
  repeat' split
  all_goals first | exact h | exact Touches.writePart _ _ _ _ _ _ h h1 h2 h3 h4 h5 h6 h7 h8 h9

theorem Touches.applyRead (x : MgmtSource) (n : Nat) (h : Touches fs b c) (h1 : Part.mgmt ∈ fs) : Touches fs b
    (applyRead x n c).1 := by
  unfold Machine.applyRead
  (repeat' split) <;> (repeat (first | assumption | with_reducible apply Touches.setWindow | with_reducible apply Touches.mgmt))

theorem Touches.applySave (h : Touches fs b c) (h1 : Part.mgmt ∈ fs) : Touches fs b (applySave c).1 := by
  unfold Machine.applySave
  (repeat' split) <;> (repeat (first | assumption | with_reducible apply Touches.mgmt))

theorem Touches.saveComplete (h : Touches fs b c) (h1 : Part.mgmt ∈ fs) : Touches fs b (saveComplete c) := by
  unfold Machine.saveComplete
  split
  · exact h
  · exact Touches.notice _ _ (h.mgmt h1) h1

theorem Touches.warmMgmt (h : Touches fs b c) (h1 : Part.mgmt ∈ fs) : Touches fs b (warmMgmt c) := by
  exact h.mgmt h1

theorem Touches.warmTime (h : Touches fs b c) (h1 : Part.time ∈ fs) : Touches fs b (warmTime c) := by
  exact h.time h1

theorem Touches.warmLabels (h : Touches fs b c) (h1 : Part.items ∈ fs) (h2 : Part.labels ∈ fs) (h3 : Part.composer
    ∈ fs) (h4 : Part.mgmt ∈ fs) (h5 : Part.radio ∈ fs) : Touches fs b (warmLabels c) := by
  unfold Machine.warmLabels
  repeat (first | assumption | with_reducible apply Touches.warmComposer | with_reducible apply Touches.warmRadio | with_reducible apply Touches.warmDirectory | with_reducible apply Touches.items | with_reducible apply Touches.labels | with_reducible apply Touches.composer | with_reducible apply Touches.mgmt | with_reducible apply Touches.radio)

theorem Touches.warmRestart (h : Touches fs b c) (h1 : Part.items ∈ fs) (h2 : Part.labels ∈ fs) (h3 :
    Part.composer ∈ fs) (h4 : Part.mgmt ∈ fs) (h5 : Part.radio ∈ fs) (h6 : Part.mode ∈ fs) (h7 : Part.guest ∈ fs)
    (h8 : Part.till ∈ fs) (h9 : Part.fwd ∈ fs) (h10 : Part.line ∈ fs) (h11 : Part.exch ∈ fs) (h12 : Part.counts ∈
    fs) (h13 : Part.time ∈ fs) : Touches fs b (warmRestart c) := by
  unfold Machine.warmRestart
  repeat (first | assumption | with_reducible apply Touches.warmTime | with_reducible apply Touches.warmExchange | with_reducible apply Touches.warmLine | with_reducible apply Touches.warmGuest | with_reducible apply Touches.warmForwarder | with_reducible apply Touches.warmTill | with_reducible apply Touches.warmLabels | with_reducible apply Touches.warmMode | with_reducible apply Touches.warmMgmt | with_reducible apply Touches.items | with_reducible apply Touches.labels | with_reducible apply Touches.composer | with_reducible apply Touches.mgmt | with_reducible apply Touches.radio | with_reducible apply Touches.mode | with_reducible apply Touches.guest | with_reducible apply Touches.till | with_reducible apply Touches.fwd | with_reducible apply Touches.line | with_reducible apply Touches.exch | with_reducible apply Touches.counts | with_reducible apply Touches.time)

theorem Touches.applyClearNotices (h : Touches fs b c) (h1 : Part.mgmt ∈ fs) : Touches fs b (applyClearNotices
    c).1 := by
  exact h.mgmt h1

theorem Touches.dropHead (h : Touches fs b c) (h1 : Part.mgmt ∈ fs) : Touches fs b (dropHead c) := by
  exact h.mgmt h1

theorem Touches.noticeToOffice (a : NetAddr) (p : Nat × AddressEntry) (e : NoticeEntry) (h : Touches fs b c) (h1 :
    Part.out ∈ fs) : Touches fs b (noticeToOffice a p e c) := by
  unfold Machine.noticeToOffice
  repeat (first | assumption | with_reducible apply Touches.sendLan | with_reducible apply Touches.out)

theorem Touches.sendHead (a : NetAddr) (e : NoticeEntry) {d : Block} (q : sendHead a e c = some d) (h : Touches fs b c)
    (h1 : Part.mgmt ∈ fs) (h2 : Part.line ∈ fs) (h3 : Part.out ∈ fs) : Touches fs b d := by
  unfold Machine.sendHead at q
  split at q
  · obtain ⟨p, -, rfl⟩ := Option.map_eq_some_iff.mp q
    exact Touches.dropHead (Touches.noticeToOffice _ _ _ h h3) h1
  · split at q
    · cases q
    · split at q
      · cases q; exact Touches.dropHead (Touches.admitFrame _ _ h h2) h1
      · cases q

theorem Touches.noticeSend (h : Touches fs b c) (h1 : Part.mgmt ∈ fs) (h2 : Part.line ∈ fs) (h3 : Part.out ∈ fs) :
    Touches fs b (noticeSend c) := by
  unfold Machine.noticeSend
  cases q : noticeSend? c with
  | none => exact h
  | some d =>
    unfold noticeSend? at q
    split at q
    · exact Touches.sendHead _ _ q h h1 h2 h3
    · cases q

end Sys2Proof.Machine
end

