-- ==== Sys2Proof/Laws/Operations.lean ====
section
/-! SUPPORT. What each shared operation can do, said once: the effect of a command on the block, the two ways a message or
a record write can go, an offer to the uplink queue, an answer, a counter's value, and the cases of a reply window. Later
proofs cite these in place of unfolding. -/

namespace Sys2Proof.Machine

/-! ## Commands -/

/-- A command's effect on the block, as one function. -/
def effect : Instr → Block → Block
  | .openCmd h => message h applyOpen
  | .closeCmd h => message h applyClose
  | .closeNow h => message h applyCloseNow
  | .drainTimerExpiry => drainExpiry
  | .setClock h value => message h (applySetClock value)
  | .clockAdvance => clockAdvance
  | .windowOpen h => message h applyWindowOpen
  | .windowClose h => message h applyWindowClose
  | .release h code => message h (applyRelease code)
  | .price via r => writeBy via .items (.price r)
  | .description via code text => writeBy via .items (.description code text)
  | .withdraw via code => writeBy via .items (.withdraw code)
  | .label via id cls => writeBy via .labels (.label id cls)
  | .bind via id code template => writeBy via .labels (.bind id code template)
  | .unbind via id => writeBy via .labels (.unbind id)
  | .templateRecord via id template => writeBy via .labels (.templateChange id template)
  | .itemRetarget => itemRetarget
  | .templateRetarget => templateRetarget
  | .sweepVisit => sweepVisit
  | .forceLabel h id => message h (applyForce id)
  | .beacon => beacon
  | .labelReply t => labelReply t
  | .replyWindowClose => replyWindowClose
  | .checkIn c => radioCheckIn c
  | .hello sender till => tillHello sender till
  | .priceQuery sender till code => tillPriceQuery sender till code
  | .saleRecord sender till sequence time lines => tillSaleRecord sender till sequence time lines
  | .silenceTimerExpiry till => silenceExpiry till
  | .journalBlock => journalBlock
  | .journalAck number => fun b => if lineTakes b then takeAck number b else b
  | .acknowledgementTimerExpiry => ackTimerExpiry
  | .lanFrame port f => lanFrame port f
  | .linkUp port => linkUp port
  | .linkDown port => linkDown port
  | .addressAgingExpiry segment hw => addressAging segment hw
  | .timeLimitExpiry hw => timeLimitExpiry hw
  | .idleLimitExpiry hw => idleLimitExpiry hw
  | .cooldownEnd hw => cooldownEnd hw
  | .endGuest h hw => message h (applyEndGuest hw)
  | .governorReading => governorReading
  | .lineFrame a => lineFrame a
  | .lossTimerExpiry => lossExpiry
  | .aliveTimerExpiry => aliveExpiry
  | .transmitStart => transmitStart
  | .loopback h mode duration => message h (applyLoopback mode duration)
  | .loopbackTimerExpiry => loopbackExpiry
  | .qualifyLine h length insertion => message h (applyQualify length insertion)
  | .qualifyTimeout => qualifyTimeout
  | .exchangeOpen => fromLine takeOpen
  | .batchStart n k => fromLine (takeStart n k)
  | .exchangeRecords records => fromLine (takeRecords records)
  | .batchEnd check => fromLine (takeEnd check)
  | .reopenHoldExpiry => holdExpiry
  | .window h table first last direction => message h (applyWindow h.source table first last direction)
  | .read h count => message h (applyRead h.source count)
  | .status h => message h (fun b => (b, .status (statusReport b)))
  | .portWrite via r => writeBy via .ports (.port r)
  | .gatewayRecordWrite via r => writeBy via .ports (.gateway r)
  | .agingTimeWrite via aging => writeBy via .ports (.forwarder aging)
  | .collectorRecordWrite via address => writeBy via .ports (.collector address)
  | .policyCellWrite via allow => writeBy via .policy (.policyCell allow)
  | .scheduleEntryWrite via r => writeBy via .schedule (.scheduleEntry r)
  | .modeSettingsWrite via r => writeBy via .schedule (.modeSettings r)
  | .priceSettingsWrite via r => writeBy via .priceSettings (.priceSettings r)
  | .templateWrite via r => writeBy via .templates (.template r)
  | .fontWrite via height => writeBy via .glyphs (.font height)
  | .glyphWrite via r => writeBy via .glyphs (.glyph r)
  | .radioSettingsWrite via r => writeBy via .radioSettings (.radioSettings r)
  | .guestProfileWrite via r => writeBy via .guestProfile (.guestProfile r)
  | .readOnlyWrite h records => message h (applyWrite h.source records)
  | .clearNotices h => message h applyClearNotices
  | .noticeSend => noticeSend
  | .saveSettings h => message h applySave
  | .saveComplete => saveComplete
  | .warmRestart h => silentMessage h warmRestart
  | .coldRestart h => silentMessage h coldRestart
  | .resetLine retain => resetBy retain
  | .powerUp => coldRestart

/-- Every command answers a next state: the block its effect gives, the waiting commands as they were. -/
theorem exec_eq_effect (c : Instr) (s : State) : exec c s = s.becomes (effect c s.block) := by cases c <;> rfl

/-- A command that answers `t` made its effect of the block, and left the queue. -/
theorem exec_next {c : Instr} {s t : State} (h : exec c s = .next t) :
    t.block = effect c s.block ∧ t.pending = s.pending := by
  rw [exec_eq_effect] at h
  cases h
  exact ⟨rfl, rfl⟩

/-- What a step can do: the command at the front, or on an empty queue the due event, or a tick. -/
theorem step_cases {s t : State} (h : step s = .next t) :
    (∃ c rest, s.pending = c :: rest ∧ t.block = effect c s.block ∧ t.pending = rest) ∨
      (s.pending = [] ∧ t.pending = [] ∧
        ((∃ c, due s.block = some c ∧ t.block = effect c s.block) ∨ (due s.block = none ∧ t.block = tick s.block))) := by
  unfold step at h
  split at h
  · next c rest hp =>
    have := exec_next h
    exact Or.inl ⟨c, rest, hp, this⟩
  · next hp =>
    unfold idle at h
    split at h
    · next c hd =>
      have := exec_next h
      exact Or.inr ⟨hp, this.2.trans hp, Or.inl ⟨c, hd, this.1⟩⟩
    · next hd =>
      cases h
      exact Or.inr ⟨hp, hp, Or.inr ⟨hd, rfl⟩⟩

/-- Every invariant of the block is kept by every step once every command's effect and the tick keep it. -/
theorem step_keeps {P : Block → Prop} (he : ∀ c b, P b → P (effect c b)) (ht : ∀ b, P b → P (tick b)) {s t : State}
    (hs : P s.block) (h : step s = .next t) : P t.block := by
  rcases step_cases h with ⟨c, rest, _, hb, _⟩ | ⟨_, _, ⟨c, _, hb⟩ | ⟨_, hb⟩⟩
  · rw [hb]; exact he c _ hs
  · rw [hb]; exact he c _ hs
  · rw [hb]; exact ht _ hs

/-! ## Messages and record writes -/

theorem lineTakes_iff (b : Block) : lineTakes b = true ↔ b.line.up = true ∧ b.line.loopback = .off := by
  simp [lineTakes]

/-- A message that is taken has its effect and its one answer. -/
theorem message_of_taken {h : MgmtHeader} {b : Block} (f : Block → Block × ReplyBody) (ht : Taken h b) :
    message h f b = answerMgmt h.source h.tag (f b).2 (f b).1 := by
  have hs : sourceTakes b h.source = true := by
    cases hsrc : h.source with
    | storeServer hw net port => rfl
    | headOffice => exact (lineTakes_iff b).2 (ht.2 hsrc)
  simp [message, hs, forStation, ht.1, answered]

/-- A restart message that is taken has its effect and no answer. -/
theorem silentMessage_of_taken {h : MgmtHeader} {b : Block} (f : Block → Block) (ht : Taken h b) :
    silentMessage h f b = f b := by
  have hs : sourceTakes b h.source = true := by
    cases hsrc : h.source with
    | storeServer hw net port => rfl
    | headOffice => exact (lineTakes_iff b).2 (ht.2 hsrc)
  simp [silentMessage, hs, forStation, ht.1]

/-- Whatever a message asks for, the block is as it was, or the message is counted as another station's, or its effect
is answered. -/
theorem message_cases (h : MgmtHeader) (f : Block → Block × ReplyBody) (b : Block) :
    message h f b = b ∨ message h f b = bump .mgmtIgnored b ∨
      message h f b = answerMgmt h.source h.tag (f b).2 (f b).1 := by
  unfold message forStation answered ignoreMessage
  split
  · split
    · exact Or.inr (Or.inr rfl)
    · exact Or.inr (Or.inl rfl)
  · exact Or.inl rfl

/-- The same of a message that `f` itself answers, or leaves unanswered. -/
theorem silentMessage_cases (h : MgmtHeader) (f : Block → Block) (b : Block) :
    silentMessage h f b = b ∨ silentMessage h f b = bump .mgmtIgnored b ∨ silentMessage h f b = f b := by
  unfold silentMessage forStation ignoreMessage
  split
  · split
    · exact Or.inr (Or.inr rfl)
    · exact Or.inr (Or.inl rfl)
  · exact Or.inl rfl

@[simp] theorem writeBy_event (n : Nat) (t : TableName) (r : WriteRecord) (b : Block) :
    writeBy (.event n) t r b = emit (.recordResult (writeAt t n r b).2) (writeAt t n r b).1 := rfl

@[simp] theorem writeBy_message (h : MgmtHeader) (t : TableName) (r : WriteRecord) (b : Block) :
    writeBy (.message h) t r b = message h (applyWrite h.source [r]) b := rfl

@[simp] theorem writeBy_part (h : MgmtHeader) (index count : Nat) (t : TableName) (r : WriteRecord) (b : Block) :
    writeBy (.part h index count) t r b = partOfWrite h index count r b := rfl

/-- What a record of a WRITE taken record by record can do at the cursor of window `w`: it is refused, and ends the WRITE
with its index; it is the last, and the WRITE is answered; or it leaves the WRITE waiting for the next. -/
theorem writePart_cases (h : MgmtHeader) (index count : Nat) (r : WriteRecord) (others : List WriteProgress)
    (w : TableWindow) (b : Block) :
    (∃ c, (writeAt w.table w.cursor r b).2 = some c ∧ writePart h index count r others w b =
      (setWrites others (writeAt w.table w.cursor r b).1, some (.refusal c (some index)))) ∨
    ((writeAt w.table w.cursor r b).2 = none ∧ index = count ∧ writePart h index count r others w b =
      (setWrites others (setWindow h.source (stepWindow w) (writeAt w.table w.cursor r b).1),
       some (.written count (nextCursor w)))) ∨
    ((writeAt w.table w.cursor r b).2 = none ∧ index ≠ count ∧ writePart h index count r others w b =
      (setWrites (others ++ [WriteProgress.mk h count index])
        (setWindow h.source (stepWindow w) (writeAt w.table w.cursor r b).1), none)) := by
  unfold writePart
  split
  · next c hc => exact Or.inl ⟨c, hc, rfl⟩
  · next hn =>
    split
    · next hi => exact Or.inr (Or.inl ⟨hn, hi, rfl⟩)
    · next hi => exact Or.inr (Or.inr ⟨hn, hi, rfl⟩)

/-- What a record of a WRITE taken record by record can do: nothing, where no WRITE waits for it or its message is not
taken; the count of a message for another station; or what the first or a later record does, with its answer. -/
theorem partOfWrite_cases (h : MgmtHeader) (index count : Nat) (r : WriteRecord) (b : Block) :
    partOfWrite h index count r b = b ∨ partOfWrite h index count r b = bump .mgmtIgnored b ∨
      (index = 1 ∧ partOfWrite h index count r b = answerWrite h (writeFirst h count r b)) ∨
      (1 < index ∧ partOfWrite h index count r b = answerWrite h (writeLater h index count r b)) := by
  unfold partOfWrite
  split
  · split
    · exact Or.inl rfl
    · next h1 h0 =>
      have hi : index = 1 := by omega
      rcases silentMessage_cases h (fun c => answerWrite h (writeFirst h count r c)) b with e | e | e
      · exact Or.inl e
      · exact Or.inr (Or.inl e)
      · exact Or.inr (Or.inr (Or.inl ⟨hi, e⟩))
  · next h1 => exact Or.inr (Or.inr (Or.inr ⟨by omega, rfl⟩))

/-- An answer that is not due leaves the block as it is; one that is due is the message's one answer. -/
@[simp] theorem answerWrite_none (h : MgmtHeader) (b : Block) : answerWrite h (b, none) = b := rfl
@[simp] theorem answerWrite_some (h : MgmtHeader) (b : Block) (r : ReplyBody) :
    answerWrite h (b, some r) = answerMgmt h.source h.tag r b := rfl

/-! ## Answers and offers -/

/-- An answer leaves the block as it was, sends one frame, or is offered to the MANAGEMENT class. -/
theorem answerMgmt_cases (src : MgmtSource) (tag : Nat) (body : ReplyBody) (b : Block) :
    answerMgmt src tag body b = b ∨ (∃ o, answerMgmt src tag body b = emit o b) ∨
      answerMgmt src tag body b = offer .management (.management (MgmtReply.mk tag body)) b := by
  cases src with
  | storeServer hw net port =>
    simp only [answerMgmt]
    split
    · exact Or.inr (Or.inl ⟨_, rfl⟩)
    · exact Or.inl rfl
  | headOffice => exact Or.inr (Or.inr rfl)

/-- A frame offered to a dropping class is admitted with room, or counted. -/
theorem offer_cases (c : UplinkClass) (f : UplinkContent) (b : Block) :
    (b.line.up = true ∧ classBytes b c + uplinkBytes f ≤ classLimit c ∧ offer c f b = admitFrame c f b) ∨
      (b.line.up = true ∧ classLimit c < classBytes b c + uplinkBytes f ∧ offer c f b = bump (.dropped c) b) ∨
      (b.line.up = false ∧ offer c f b = bump (.discarded c) b) := by
  by_cases hu : b.line.up = true
  · by_cases hf : classBytes b c + uplinkBytes f ≤ classLimit c
    · exact Or.inl ⟨hu, hf, by simp [offer, hu, classFits, hf]⟩
    · exact Or.inr (Or.inl ⟨hu, by omega, by simp [offer, hu, classFits, hf]⟩)
  · exact Or.inr (Or.inr ⟨by simpa using hu, by simp [offer, hu]⟩)

/-- A frame of the EXCHANGE class that is not refused is admitted with room, waits, or is discarded. -/
theorem exchangeTake_cases (f : UplinkContent) (b : Block) :
    (b.line.up = true ∧ b.line.wait = [] ∧ classBytes b .exchange + uplinkBytes f ≤ classLimit .exchange ∧
        exchangeTake f b = admitFrame .exchange f b) ∨
      (b.line.up = true ∧ exchangeTake f b = { b with line := { b.line with wait := b.line.wait ++ [f] } }) ∨
      (b.line.up = false ∧ exchangeTake f b = bump (.discarded .exchange) b) := by
  unfold exchangeTake
  split
  · next hu =>
    split
    · next h =>
      simp only [Bool.and_eq_true, List.isEmpty_iff, classFits, decide_eq_true_eq] at h
      exact Or.inl ⟨hu, h.1, h.2, rfl⟩
    · exact Or.inr (Or.inl ⟨hu, rfl⟩)
  · next hu => exact Or.inr (Or.inr ⟨by simpa using hu, rfl⟩)

theorem get_set_same {α : Type} {n : Nat} (v : Vector α n) (i : Fin n) (x : α) : (v.set i.val x i.isLt).get i = x :=
  Vector.getElem_set_self (xs := v) i.isLt

theorem get_set_apart {α : Type} {n : Nat} (v : Vector α n) (i j : Fin n) (x : α) (h : i ≠ j) :
    (v.set i.val x i.isLt).get j = v.get j :=
  Vector.getElem_set_ne (xs := v) i.isLt j.isLt (fun e => h (Fin.ext e))

@[simp] theorem classFrames_setClass_self (c : UplinkClass) (l : List UplinkContent) (b : Block) :
    classFrames (setClass c l b) c = l := get_set_same _ _ _

@[simp] theorem classFrames_setClass_other {c d : UplinkClass} (l : List UplinkContent) (b : Block) (h : d ≠ c) :
    classFrames (setClass c l b) d = classFrames b d := by
  have : classIndex c ≠ classIndex d := by cases c <;> cases d <;> simp_all [classIndex]
  exact get_set_apart _ _ _ _ this

/-! ## Counters -/

/-- The counter at a position of COUNTERS, where there is one. -/
def counterAt : Fin 61 → Option Counter
  | 0 => some .lateOutcome
  | 1 => some .oversizeCount
  | 2 => some .truncatedCount
  | 3 => some .beacons
  | 4 => some .updatesSent
  | 5 => some .queriesSent
  | 6 => some .fragmentsSent
  | 7 => some .noReplyCount
  | 8 => some .replyError
  | 9 => some .strayReply
  | 10 => some .duplicateReply
  | 11 => some .unknownLabel
  | 12 => some .tillFramesRefused
  | 13 => some .ackBeyond
  | 14 => some .journalRewinds
  | 15 => some .tagMismatch
  | 16 => some .untagged
  | 17 => some .unusedPort
  | 18 => some .badSource
  | 19 => some .policyDenied
  | 20 => some .noNeighbour
  | 21 => some .noRoute
  | 22 => some .serviceRefused
  | 23 => some .gatewayDiscard
  | 24 => some .learnRefused
  | 25 => some .guestAdmitted
  | 26 => some .guestNotAdmitted
  | 27 => some .guestPoliced
  | 28 => some .guestBlocked
  | 29 => some .guestLineDown
  | 30 => some .framesReceived
  | 31 => some .frameError
  | 32 => some .crcError
  | 33 => some .unexpectedKind
  | 34 => some .receivedWhileDown
  | 35 => some .framesSent
  | 36 => some .aliveSent
  | 37 => some .lineDowns
  | 38 => some .loopedBack
  | 39 => some .remoteEchoed
  | 40 => some (.dropped .tillAuth)
  | 41 => some (.dropped .management)
  | 42 => some (.dropped .exchange)
  | 43 => some (.dropped .office)
  | 44 => some (.dropped .journal)
  | 45 => some (.dropped .guest)
  | 46 => some (.discarded .tillAuth)
  | 47 => some (.discarded .management)
  | 48 => some (.discarded .exchange)
  | 49 => some (.discarded .office)
  | 50 => some (.discarded .journal)
  | 51 => some (.discarded .guest)
  | 55 => some .batchesCommitted
  | 56 => some .batchesRejected
  | 57 => some .exchangeRefusals
  | 58 => some .exchangeAborts
  | 59 => some .exchangeRepliesLost
  | 60 => some .mgmtIgnored
  | _ => none

@[simp] theorem counterAt_counterIndex (c : Counter) : counterAt (counterIndex c) = some c := by
  cases c with
  | dropped k => cases k <;> rfl
  | discarded k => cases k <;> rfl
  | _ => rfl

/-- No two counters share a position. -/
theorem counterIndex_injective {c d : Counter} (h : counterIndex c = counterIndex d) : c = d := by
  have := congrArg counterAt h
  simpa using this

@[simp] theorem counterValue_bumpBy_self (c : Counter) (n : Nat) (b : Block) :
    counterValue (bumpBy c n b) c = min (counterValue b c + n) 4294967295 := by
  exact get_set_same b.counts (counterIndex c) _

@[simp] theorem counterValue_bumpBy_other {c d : Counter} (n : Nat) (b : Block) (h : d ≠ c) :
    counterValue (bumpBy c n b) d = counterValue b d := by
  have : counterIndex c ≠ counterIndex d := fun e => h (counterIndex_injective e).symm
  exact get_set_apart _ _ _ _ this

@[simp] theorem counterValue_bump_self (c : Counter) (b : Block) :
    counterValue (bump c b) c = min (counterValue b c + 1) 4294967295 := counterValue_bumpBy_self c 1 b

@[simp] theorem counterValue_bump_other {c d : Counter} (b : Block) (h : d ≠ c) :
    counterValue (bump c b) d = counterValue b d := counterValue_bumpBy_other 1 b h

end Sys2Proof.Machine
end

