-- ==== Sys2Proof/WellFormed.lean ====
section
/-! DEFINITION. Which commands the wires can carry at all: every numeric operand fits the field R192 (or the rule
named) gives it. A value that fits and is out of its rule's range is well formed, and its owner refuses it. -/

namespace Sys2Proof

/-- R192: a one-byte field. -/
def fitsByte (n : Nat) : Bool := n < 256
/-- R192: a two-byte field. -/
def fits16 (n : Nat) : Bool := n < 65536
/-- R192: a four-byte field. -/
def fits32 (n : Nat) : Bool := n < 4294967296
/-- R192: an 8-byte item code field. -/
def fitsCode (n : Nat) : Bool := n < 18446744073709551616

/-- R192: station and tag of a management message header. -/
def MgmtHeader.wf (h : MgmtHeader) : Bool := fitsByte h.station && fits16 h.tag

/-- The header of a record write, where it has one. -/
def Via.wf : Via → Bool
  | .message h => h.wf
  | .part h index count => h.wf && fits32 index && fits32 count
  | .event position => fits32 position

/-- R192: a sale line on the wire: quantity two bytes signed, price four, version two. -/
def SaleLine.wf (l : SaleLine) : Bool :=
  fitsCode l.code && decide (-32768 ≤ l.quantity) && decide (l.quantity < 32768) && fits32 l.price && fits16 l.version

/-- R179: a record on the wire has a kind byte and at most 65,535 content bytes. -/
def ExchangeRecord.wf (r : ExchangeRecord) : Bool := decide (1 ≤ r.bytes.length) && decide (r.bytes.length ≤ 65536)

/-- R192: the fields of a radio reply. -/
def RadioReply.wf : RadioReply → Bool
  | .ack tag => fitsByte tag
  | .nakBase => true
  | .nakCheck => true
  | .report tag => fitsByte tag

/-- A LAN frame's tag is absent or 1 to 4,094 (file 08, "Frames and segments"). -/
def LanFrame.wf (f : LanFrame) : Bool :=
  match f.tag with
  | none => true
  | some t => decide (1 ≤ t) && decide (t ≤ 4094)

/-- R192: the content of a line frame by its kind; a pattern frame carries 32 pattern bytes. -/
def LineContent.wf : LineContent → Bool
  | .journalAck n => fits32 n
  | .testPattern n bits => fits32 n && decide (bits.length = 256)
  | .exchange (.batchStart n k) => fits32 n && fits16 k
  | .exchange (.exchangeRecords rs) => fitsByte rs.length && rs.all ExchangeRecord.wf
  | .exchange (.batchEnd c) => fits16 c
  | _ => true

/-- A command is well formed when each operand fits its field. -/
def Instr.wf : Instr → Bool
  | .openCmd h => h.wf
  | .closeCmd h => h.wf
  | .closeNow h => h.wf
  | .drainTimerExpiry => true
  | .setClock h v => h.wf && fitsCode v
  | .clockAdvance => true
  | .windowOpen h => h.wf
  | .windowClose h => h.wf
  | .release h code => h.wf && fitsCode code
  | .price via r => via.wf && fitsCode r.code
  | .description via code _ => via.wf && fitsCode code
  | .withdraw via code => via.wf && fitsCode code
  | .label via id _ => via.wf && fits32 id
  | .bind via id code t => via.wf && fits32 id && fitsCode code && fitsByte t
  | .unbind via id => via.wf && fits32 id
  | .templateRecord via id t => via.wf && fits32 id && fitsByte t
  | .itemRetarget => true
  | .templateRetarget => true
  | .sweepVisit => true
  | .forceLabel h id => h.wf && fits32 id
  | .beacon => true
  | .labelReply t => fits32 t.label && t.reply.wf
  | .replyWindowClose => true
  | .checkIn c => fits32 c.label && fitsByte c.tag && decide (c.battery < 16) && fits16 c.check
  | .hello _ till => fitsByte till
  | .priceQuery _ till code => fitsByte till && fitsCode code
  | .saleRecord _ till seq time lines =>
      fitsByte till && fits32 seq && fits32 time && fitsByte lines.length && lines.all SaleLine.wf
  | .silenceTimerExpiry till => decide (1 ≤ till) && decide (till ≤ 96)
  | .journalBlock => true
  | .journalAck n => fits32 n
  | .acknowledgementTimerExpiry => true
  | .lanFrame _ f => f.wf
  | .linkUp _ => true
  | .linkDown _ => true
  | .addressAgingExpiry _ _ => true
  | .timeLimitExpiry _ => true
  | .idleLimitExpiry _ => true
  | .cooldownEnd _ => true
  | .endGuest h _ => h.wf
  | .governorReading => true
  | .lineFrame (.fromLine f) => f.content.wf
  | .lineFrame .returned => true
  | .lossTimerExpiry => true
  | .aliveTimerExpiry => true
  | .transmitStart => true
  | .loopback h _ _ => h.wf
  | .loopbackTimerExpiry => true
  | .qualifyLine h _ _ => h.wf
  | .qualifyTimeout => true
  | .exchangeOpen => true
  | .batchStart n k => fits32 n && fits16 k
  | .exchangeRecords rs => fitsByte rs.length && rs.all ExchangeRecord.wf
  | .batchEnd c => fits16 c
  | .reopenHoldExpiry => true
  | .window h _ _ _ _ => h.wf
  | .read h _ => h.wf
  | .status h => h.wf
  | .portWrite via _ => via.wf
  | .gatewayRecordWrite via _ => via.wf
  | .agingTimeWrite via _ => via.wf
  | .collectorRecordWrite via _ => via.wf
  | .policyCellWrite via _ => via.wf
  | .scheduleEntryWrite via _ => via.wf
  | .modeSettingsWrite via _ => via.wf
  | .priceSettingsWrite via _ => via.wf
  | .templateWrite via _ => via.wf
  | .fontWrite via _ => via.wf
  | .glyphWrite via _ => via.wf
  | .radioSettingsWrite via _ => via.wf
  | .guestProfileWrite via _ => via.wf
  | .readOnlyWrite h _ => h.wf
  | .clearNotices h => h.wf
  | .noticeSend => true
  | .saveSettings h => h.wf
  | .saveComplete => true
  | .warmRestart h => h.wf
  | .coldRestart h => h.wf
  | .resetLine _ => true
  | .powerUp => true

end Sys2Proof
end

