-- ==== Sys2Proof/Laws/PerInstr.lean ====
section
/-! SUPPORT. The family of statements made per command (LAWS.json): about commands as syntax. -/

namespace Sys2Proof

/-- The management header a record write carries, if it arrives by a message. -/
def Via.header? : Via → Option MgmtHeader
  | .message h => some h
  | .part h _ _ => some h
  | .event _ => none

/-- The management header a command carries, if it has one. -/
def Instr.header? : Instr → Option MgmtHeader
  | .openCmd h => some h
  | .closeCmd h => some h
  | .closeNow h => some h
  | .drainTimerExpiry => none
  | .setClock h _ => some h
  | .clockAdvance => none
  | .windowOpen h => some h
  | .windowClose h => some h
  | .release h _ => some h
  | .price via _ => via.header?
  | .description via _ _ => via.header?
  | .withdraw via _ => via.header?
  | .label via _ _ => via.header?
  | .bind via _ _ _ => via.header?
  | .unbind via _ => via.header?
  | .templateRecord via _ _ => via.header?
  | .itemRetarget => none
  | .templateRetarget => none
  | .sweepVisit => none
  | .forceLabel h _ => some h
  | .beacon => none
  | .labelReply _ => none
  | .replyWindowClose => none
  | .checkIn _ => none
  | .hello _ _ => none
  | .priceQuery _ _ _ => none
  | .saleRecord _ _ _ _ _ => none
  | .silenceTimerExpiry _ => none
  | .journalBlock => none
  | .journalAck _ => none
  | .acknowledgementTimerExpiry => none
  | .lanFrame _ _ => none
  | .linkUp _ => none
  | .linkDown _ => none
  | .addressAgingExpiry _ _ => none
  | .timeLimitExpiry _ => none
  | .idleLimitExpiry _ => none
  | .cooldownEnd _ => none
  | .endGuest h _ => some h
  | .governorReading => none
  | .lineFrame _ => none
  | .lossTimerExpiry => none
  | .aliveTimerExpiry => none
  | .transmitStart => none
  | .loopback h _ _ => some h
  | .loopbackTimerExpiry => none
  | .qualifyLine h _ _ => some h
  | .qualifyTimeout => none
  | .exchangeOpen => none
  | .batchStart _ _ => none
  | .exchangeRecords _ => none
  | .batchEnd _ => none
  | .reopenHoldExpiry => none
  | .window h _ _ _ _ => some h
  | .read h _ => some h
  | .status h => some h
  | .portWrite via _ => via.header?
  | .gatewayRecordWrite via _ => via.header?
  | .agingTimeWrite via _ => via.header?
  | .collectorRecordWrite via _ => via.header?
  | .policyCellWrite via _ => via.header?
  | .scheduleEntryWrite via _ => via.header?
  | .modeSettingsWrite via _ => via.header?
  | .priceSettingsWrite via _ => via.header?
  | .templateWrite via _ => via.header?
  | .fontWrite via _ => via.header?
  | .glyphWrite via _ => via.header?
  | .radioSettingsWrite via _ => via.header?
  | .guestProfileWrite via _ => via.header?
  | .readOnlyWrite h _ => some h
  | .clearNotices h => some h
  | .noticeSend => none
  | .saveSettings h => some h
  | .saveComplete => none
  | .warmRestart h => some h
  | .coldRestart h => some h
  | .resetLine _ => none
  | .powerUp => none

/-- The header of a well-formed record write fits its fields. -/
theorem Via.header_wf {v : Via} (hv : v.wf = true) {h : MgmtHeader} (hh : v.header? = some h) : h.wf = true := by
  cases v with
  | message g => simp only [Via.header?, Option.some.injEq] at hh; subst hh; exact hv
  | part g index count =>
    simp only [Via.header?, Option.some.injEq] at hh
    subst hh
    simp only [Via.wf, Bool.and_eq_true] at hv
    exact hv.1.1
  | event n => simp [Via.header?] at hh

/-- The left one of two checks. -/
theorem andLeft {a b : Bool} (h : (a && b) = true) : a = true := (Bool.and_eq_true_iff.mp h).1

/-- The header of a command that carries its own. -/
theorem ownHeader {h g : MgmtHeader} (hw : h.wf = true) (hg : some h = some g) : g.wf = true := by
  cases hg
  exact hw

/-- A command without a header has none to check. -/
theorem noHeader {g : MgmtHeader} (hg : none = some g) : g.wf = true := nomatch hg

/-- R192: the header of a well-formed command fits its fields. -/
def Laws.HeaderFits.Statement (i : Instr) : Prop := i.wf = true → ∀ h, i.header? = some h → h.wf = true

theorem Laws.HeaderFits.openCmd (h : MgmtHeader) : Laws.HeaderFits.Statement (.openCmd h) :=
  fun hw _ hg => ownHeader (h := h) hw hg
theorem Laws.HeaderFits.closeCmd (h : MgmtHeader) : Laws.HeaderFits.Statement (.closeCmd h) :=
  fun hw _ hg => ownHeader (h := h) hw hg
theorem Laws.HeaderFits.closeNow (h : MgmtHeader) : Laws.HeaderFits.Statement (.closeNow h) :=
  fun hw _ hg => ownHeader (h := h) hw hg
theorem Laws.HeaderFits.drainTimerExpiry : Laws.HeaderFits.Statement (.drainTimerExpiry) :=
  fun _ _ hg => noHeader hg
theorem Laws.HeaderFits.setClock (h : MgmtHeader) (value : Nat) : Laws.HeaderFits.Statement (.setClock h value) :=
  fun hw _ hg => ownHeader (h := h) (andLeft hw) hg
theorem Laws.HeaderFits.clockAdvance : Laws.HeaderFits.Statement (.clockAdvance) :=
  fun _ _ hg => noHeader hg
theorem Laws.HeaderFits.windowOpen (h : MgmtHeader) : Laws.HeaderFits.Statement (.windowOpen h) :=
  fun hw _ hg => ownHeader (h := h) hw hg
theorem Laws.HeaderFits.windowClose (h : MgmtHeader) : Laws.HeaderFits.Statement (.windowClose h) :=
  fun hw _ hg => ownHeader (h := h) hw hg
theorem Laws.HeaderFits.release (h : MgmtHeader) (code : Nat) : Laws.HeaderFits.Statement (.release h code) :=
  fun hw _ hg => ownHeader (h := h) (andLeft hw) hg
theorem Laws.HeaderFits.price (via : Via) (r : PriceRecord) : Laws.HeaderFits.Statement (.price via r) :=
  fun hw _ hg => Via.header_wf (v := via) (andLeft hw) hg
theorem Laws.HeaderFits.description (via : Via) (code : Nat) (text : Text) : Laws.HeaderFits.Statement (.description via code text) :=
  fun hw _ hg => Via.header_wf (v := via) (andLeft hw) hg
theorem Laws.HeaderFits.withdraw (via : Via) (code : Nat) : Laws.HeaderFits.Statement (.withdraw via code) :=
  fun hw _ hg => Via.header_wf (v := via) (andLeft hw) hg
theorem Laws.HeaderFits.label (via : Via) (id : Nat) (cls : Coded DisplayClass) : Laws.HeaderFits.Statement (.label via id cls) :=
  fun hw _ hg => Via.header_wf (v := via) (andLeft hw) hg
theorem Laws.HeaderFits.bind (via : Via) (id : Nat) (code : Nat) (template : Nat) : Laws.HeaderFits.Statement (.bind via id code template) :=
  fun hw _ hg => Via.header_wf (v := via) (andLeft (andLeft (andLeft hw))) hg
theorem Laws.HeaderFits.unbind (via : Via) (id : Nat) : Laws.HeaderFits.Statement (.unbind via id) :=
  fun hw _ hg => Via.header_wf (v := via) (andLeft hw) hg
theorem Laws.HeaderFits.templateRecord (via : Via) (id : Nat) (template : Nat) : Laws.HeaderFits.Statement (.templateRecord via id template) :=
  fun hw _ hg => Via.header_wf (v := via) (andLeft (andLeft hw)) hg
theorem Laws.HeaderFits.itemRetarget : Laws.HeaderFits.Statement (.itemRetarget) :=
  fun _ _ hg => noHeader hg
theorem Laws.HeaderFits.templateRetarget : Laws.HeaderFits.Statement (.templateRetarget) :=
  fun _ _ hg => noHeader hg
theorem Laws.HeaderFits.sweepVisit : Laws.HeaderFits.Statement (.sweepVisit) :=
  fun _ _ hg => noHeader hg
theorem Laws.HeaderFits.forceLabel (h : MgmtHeader) (id : Nat) : Laws.HeaderFits.Statement (.forceLabel h id) :=
  fun hw _ hg => ownHeader (h := h) (andLeft hw) hg
theorem Laws.HeaderFits.beacon : Laws.HeaderFits.Statement (.beacon) :=
  fun _ _ hg => noHeader hg
theorem Laws.HeaderFits.labelReply (t : ReplyTransmission) : Laws.HeaderFits.Statement (.labelReply t) :=
  fun _ _ hg => noHeader hg
theorem Laws.HeaderFits.replyWindowClose : Laws.HeaderFits.Statement (.replyWindowClose) :=
  fun _ _ hg => noHeader hg
theorem Laws.HeaderFits.checkIn (c : CheckIn) : Laws.HeaderFits.Statement (.checkIn c) :=
  fun _ _ hg => noHeader hg
theorem Laws.HeaderFits.hello (sender : TillSender) (till : Nat) : Laws.HeaderFits.Statement (.hello sender till) :=
  fun _ _ hg => noHeader hg
theorem Laws.HeaderFits.priceQuery (sender : TillSender) (till : Nat) (code : Nat) : Laws.HeaderFits.Statement (.priceQuery sender till code) :=
  fun _ _ hg => noHeader hg
theorem Laws.HeaderFits.saleRecord (sender : TillSender) (till : Nat) (sequence : Nat) (time : Nat) (lines : List SaleLine) : Laws.HeaderFits.Statement (.saleRecord sender till sequence time lines) :=
  fun _ _ hg => noHeader hg
theorem Laws.HeaderFits.silenceTimerExpiry (till : Nat) : Laws.HeaderFits.Statement (.silenceTimerExpiry till) :=
  fun _ _ hg => noHeader hg
theorem Laws.HeaderFits.journalBlock : Laws.HeaderFits.Statement (.journalBlock) :=
  fun _ _ hg => noHeader hg
theorem Laws.HeaderFits.journalAck (number : Nat) : Laws.HeaderFits.Statement (.journalAck number) :=
  fun _ _ hg => noHeader hg
theorem Laws.HeaderFits.acknowledgementTimerExpiry : Laws.HeaderFits.Statement (.acknowledgementTimerExpiry) :=
  fun _ _ hg => noHeader hg
theorem Laws.HeaderFits.lanFrame (port : Port) (f : LanFrame) : Laws.HeaderFits.Statement (.lanFrame port f) :=
  fun _ _ hg => noHeader hg
theorem Laws.HeaderFits.linkUp (port : Port) : Laws.HeaderFits.Statement (.linkUp port) :=
  fun _ _ hg => noHeader hg
theorem Laws.HeaderFits.linkDown (port : Port) : Laws.HeaderFits.Statement (.linkDown port) :=
  fun _ _ hg => noHeader hg
theorem Laws.HeaderFits.addressAgingExpiry (segment : Segment) (hw : HwAddr) : Laws.HeaderFits.Statement (.addressAgingExpiry segment hw) :=
  fun _ _ hg => noHeader hg
theorem Laws.HeaderFits.timeLimitExpiry (hw : HwAddr) : Laws.HeaderFits.Statement (.timeLimitExpiry hw) :=
  fun _ _ hg => noHeader hg
theorem Laws.HeaderFits.idleLimitExpiry (hw : HwAddr) : Laws.HeaderFits.Statement (.idleLimitExpiry hw) :=
  fun _ _ hg => noHeader hg
theorem Laws.HeaderFits.cooldownEnd (hw : HwAddr) : Laws.HeaderFits.Statement (.cooldownEnd hw) :=
  fun _ _ hg => noHeader hg
theorem Laws.HeaderFits.endGuest (h : MgmtHeader) (hw : HwAddr) : Laws.HeaderFits.Statement (.endGuest h hw) :=
  fun hw _ hg => ownHeader (h := h) hw hg
theorem Laws.HeaderFits.governorReading : Laws.HeaderFits.Statement (.governorReading) :=
  fun _ _ hg => noHeader hg
theorem Laws.HeaderFits.lineFrame (a : LineArrival) : Laws.HeaderFits.Statement (.lineFrame a) :=
  fun _ _ hg => noHeader hg
theorem Laws.HeaderFits.lossTimerExpiry : Laws.HeaderFits.Statement (.lossTimerExpiry) :=
  fun _ _ hg => noHeader hg
theorem Laws.HeaderFits.aliveTimerExpiry : Laws.HeaderFits.Statement (.aliveTimerExpiry) :=
  fun _ _ hg => noHeader hg
theorem Laws.HeaderFits.transmitStart : Laws.HeaderFits.Statement (.transmitStart) :=
  fun _ _ hg => noHeader hg
theorem Laws.HeaderFits.loopback (h : MgmtHeader) (mode : Coded Loopback) (duration : Option Nat) : Laws.HeaderFits.Statement (.loopback h mode duration) :=
  fun hw _ hg => ownHeader (h := h) hw hg
theorem Laws.HeaderFits.loopbackTimerExpiry : Laws.HeaderFits.Statement (.loopbackTimerExpiry) :=
  fun _ _ hg => noHeader hg
theorem Laws.HeaderFits.qualifyLine (h : MgmtHeader) (length : Option Nat) (insertion : Option Insertion) : Laws.HeaderFits.Statement (.qualifyLine h length insertion) :=
  fun hw _ hg => ownHeader (h := h) hw hg
theorem Laws.HeaderFits.qualifyTimeout : Laws.HeaderFits.Statement (.qualifyTimeout) :=
  fun _ _ hg => noHeader hg
theorem Laws.HeaderFits.exchangeOpen : Laws.HeaderFits.Statement (.exchangeOpen) :=
  fun _ _ hg => noHeader hg
theorem Laws.HeaderFits.batchStart (n k : Nat) : Laws.HeaderFits.Statement (.batchStart n k) :=
  fun _ _ hg => noHeader hg
theorem Laws.HeaderFits.exchangeRecords (records : List ExchangeRecord) : Laws.HeaderFits.Statement (.exchangeRecords records) :=
  fun _ _ hg => noHeader hg
theorem Laws.HeaderFits.batchEnd (check : Nat) : Laws.HeaderFits.Statement (.batchEnd check) :=
  fun _ _ hg => noHeader hg
theorem Laws.HeaderFits.reopenHoldExpiry : Laws.HeaderFits.Statement (.reopenHoldExpiry) :=
  fun _ _ hg => noHeader hg
theorem Laws.HeaderFits.window (h : MgmtHeader) (table : Coded TableName) (first last : Nat) (direction : Coded Direction) : Laws.HeaderFits.Statement (.window h table first last direction) :=
  fun hw _ hg => ownHeader (h := h) hw hg
theorem Laws.HeaderFits.read (h : MgmtHeader) (count : Nat) : Laws.HeaderFits.Statement (.read h count) :=
  fun hw _ hg => ownHeader (h := h) hw hg
theorem Laws.HeaderFits.status (h : MgmtHeader) : Laws.HeaderFits.Statement (.status h) :=
  fun hw _ hg => ownHeader (h := h) hw hg
theorem Laws.HeaderFits.portWrite (via : Via) (r : PortWrite) : Laws.HeaderFits.Statement (.portWrite via r) :=
  fun hw _ hg => Via.header_wf (v := via) hw hg
theorem Laws.HeaderFits.gatewayRecordWrite (via : Via) (r : GatewayWrite) : Laws.HeaderFits.Statement (.gatewayRecordWrite via r) :=
  fun hw _ hg => Via.header_wf (v := via) hw hg
theorem Laws.HeaderFits.agingTimeWrite (via : Via) (aging : Nat) : Laws.HeaderFits.Statement (.agingTimeWrite via aging) :=
  fun hw _ hg => Via.header_wf (v := via) hw hg
theorem Laws.HeaderFits.collectorRecordWrite (via : Via) (address : Option NetAddr) : Laws.HeaderFits.Statement (.collectorRecordWrite via address) :=
  fun hw _ hg => Via.header_wf (v := via) hw hg
theorem Laws.HeaderFits.policyCellWrite (via : Via) (allow : Coded Bool) : Laws.HeaderFits.Statement (.policyCellWrite via allow) :=
  fun hw _ hg => Via.header_wf (v := via) hw hg
theorem Laws.HeaderFits.scheduleEntryWrite (via : Via) (r : ScheduleWrite) : Laws.HeaderFits.Statement (.scheduleEntryWrite via r) :=
  fun hw _ hg => Via.header_wf (v := via) hw hg
theorem Laws.HeaderFits.modeSettingsWrite (via : Via) (r : ModeSettingsWrite) : Laws.HeaderFits.Statement (.modeSettingsWrite via r) :=
  fun hw _ hg => Via.header_wf (v := via) hw hg
theorem Laws.HeaderFits.priceSettingsWrite (via : Via) (r : PriceSettingsWrite) : Laws.HeaderFits.Statement (.priceSettingsWrite via r) :=
  fun hw _ hg => Via.header_wf (v := via) hw hg
theorem Laws.HeaderFits.templateWrite (via : Via) (r : TemplateWrite) : Laws.HeaderFits.Statement (.templateWrite via r) :=
  fun hw _ hg => Via.header_wf (v := via) hw hg
theorem Laws.HeaderFits.fontWrite (via : Via) (height : Nat) : Laws.HeaderFits.Statement (.fontWrite via height) :=
  fun hw _ hg => Via.header_wf (v := via) hw hg
theorem Laws.HeaderFits.glyphWrite (via : Via) (r : GlyphWrite) : Laws.HeaderFits.Statement (.glyphWrite via r) :=
  fun hw _ hg => Via.header_wf (v := via) hw hg
theorem Laws.HeaderFits.radioSettingsWrite (via : Via) (r : RadioSettingsWrite) : Laws.HeaderFits.Statement (.radioSettingsWrite via r) :=
  fun hw _ hg => Via.header_wf (v := via) hw hg
theorem Laws.HeaderFits.guestProfileWrite (via : Via) (r : GuestProfileWrite) : Laws.HeaderFits.Statement (.guestProfileWrite via r) :=
  fun hw _ hg => Via.header_wf (v := via) hw hg
theorem Laws.HeaderFits.readOnlyWrite (h : MgmtHeader) (records : List WriteRecord) : Laws.HeaderFits.Statement (.readOnlyWrite h records) :=
  fun hw _ hg => ownHeader (h := h) hw hg
theorem Laws.HeaderFits.clearNotices (h : MgmtHeader) : Laws.HeaderFits.Statement (.clearNotices h) :=
  fun hw _ hg => ownHeader (h := h) hw hg
theorem Laws.HeaderFits.noticeSend : Laws.HeaderFits.Statement (.noticeSend) :=
  fun _ _ hg => noHeader hg
theorem Laws.HeaderFits.saveSettings (h : MgmtHeader) : Laws.HeaderFits.Statement (.saveSettings h) :=
  fun hw _ hg => ownHeader (h := h) hw hg
theorem Laws.HeaderFits.saveComplete : Laws.HeaderFits.Statement (.saveComplete) :=
  fun _ _ hg => noHeader hg
theorem Laws.HeaderFits.warmRestart (h : MgmtHeader) : Laws.HeaderFits.Statement (.warmRestart h) :=
  fun hw _ hg => ownHeader (h := h) hw hg
theorem Laws.HeaderFits.coldRestart (h : MgmtHeader) : Laws.HeaderFits.Statement (.coldRestart h) :=
  fun hw _ hg => ownHeader (h := h) hw hg
theorem Laws.HeaderFits.resetLine (retain : Bool) : Laws.HeaderFits.Statement (.resetLine retain) :=
  fun _ _ hg => noHeader hg
theorem Laws.HeaderFits.powerUp : Laws.HeaderFits.Statement (.powerUp) :=
  fun _ _ hg => noHeader hg

end Sys2Proof
end

