-- ==== Sys2Proof/Laws/Tables.lean ====
section
/-! SUPPORT. The laws of keyed tables: what is found after an insertion or a removal, and that each keeps the keys strictly
rising; and the same laws by the names of the four tables. -/

namespace Sys2Proof.Machine

variable {α : Type}

/-! ## What is found -/

@[simp] theorem tableFind_nil (k : Nat) : tableFind ([] : Table α) k = none := rfl

@[simp] theorem tableFind_insert_self (t : Table α) (k : Nat) (v : α) : tableFind (tableInsert t k v) k = some v := by
  induction t with
  | nil => simp [tableInsert, tableFind]
  | cons p rest ih =>
    obtain ⟨j, w⟩ := p
    simp only [tableInsert]
    split
    · simp [tableFind]
    · split
      · simp [tableFind]
      · next h => simp [tableFind, Ne.symm h, ih]

@[simp] theorem tableFind_insert_other (t : Table α) {j k : Nat} (v : α) (h : j ≠ k) :
    tableFind (tableInsert t k v) j = tableFind t j := by
  induction t with
  | nil => simp [tableInsert, tableFind, h.symm]
  | cons p rest ih =>
    obtain ⟨i, w⟩ := p
    simp only [tableInsert]
    split
    · simp [tableFind, h.symm]
    · split
      · next e => subst e; simp [tableFind, h.symm]
      · by_cases e : i = j <;> simp [tableFind, e, ih]

/-- What is found after an insertion, in one equation. -/
theorem tableFind_insert (t : Table α) (j k : Nat) (v : α) :
    tableFind (tableInsert t k v) j = if j = k then some v else tableFind t j := by
  split
  · next e => subst e; exact tableFind_insert_self t j v
  · next e => exact tableFind_insert_other t v e

@[simp] theorem tableFind_erase_self (t : Table α) (k : Nat) : tableFind (tableErase t k) k = none := by
  induction t with
  | nil => rfl
  | cons p rest ih =>
    obtain ⟨j, w⟩ := p
    by_cases e : j = k
    · simpa [tableErase, e] using ih
    · simpa [tableErase, e, tableFind] using ih

@[simp] theorem tableFind_erase_other (t : Table α) {j k : Nat} (h : j ≠ k) :
    tableFind (tableErase t k) j = tableFind t j := by
  induction t with
  | nil => rfl
  | cons p rest ih =>
    obtain ⟨i, w⟩ := p
    by_cases e : i = k
    · subst e
      simpa [tableErase, tableFind, h.symm] using ih
    · simp only [tableErase, ne_eq, e, not_false_eq_true, decide_true, List.filter_cons_of_pos, tableFind]
      split
      · rfl
      · exact ih

@[simp] theorem tableFind_mapValues (t : Table α) (f : α → α) (k : Nat) :
    tableFind (tableMapValues t f) k = (tableFind t k).map f := by
  induction t with
  | nil => rfl
  | cons p rest ih =>
    obtain ⟨i, w⟩ := p
    simp only [tableMapValues, List.map_cons, tableFind]
    split
    · rfl
    · exact ih

/-- A record found stands in the table under its key. -/
theorem mem_of_tableFind {t : Table α} {k : Nat} {v : α} (h : tableFind t k = some v) : (k, v) ∈ t := by
  induction t with
  | nil => simp at h
  | cons p rest ih =>
    obtain ⟨j, w⟩ := p
    simp only [tableFind] at h
    split at h
    · next e => subst e; simp_all
    · exact List.mem_cons_of_mem _ (ih h)

/-- In a table whose keys rise a record that stands there is found. -/
theorem tableFind_of_mem {t : Table α} {k : Nat} {v : α} (hs : tableSorted t) (h : (k, v) ∈ t) : tableFind t k = some v := by
  induction t with
  | nil => simp at h
  | cons p rest ih =>
    obtain ⟨j, w⟩ := p
    simp only [tableSorted, List.map_cons, List.pairwise_cons] at hs
    rcases List.mem_cons.1 h with e | e
    · cases e; simp [tableFind]
    · have hj : j < k := hs.1 k (List.mem_map_of_mem (f := Prod.fst) e)
      simp [tableFind, Nat.ne_of_lt hj, ih hs.2 e]

/-! ## The canonical form is kept -/

theorem keys_tableInsert (t : Table α) (k : Nat) (v : α) : ∀ x ∈ (tableInsert t k v).map Prod.fst, x = k ∨ x ∈ t.map Prod.fst := by
  induction t with
  | nil => simp [tableInsert]
  | cons p rest ih =>
    obtain ⟨j, w⟩ := p
    intro x hx
    simp only [tableInsert] at hx
    split at hx
    · simpa using hx
    · split at hx
      · next e => subst e; simp at hx ⊢; tauto
      · simp only [List.map_cons, List.mem_cons] at hx ⊢
        rcases hx with hx | hx
        · exact Or.inr (Or.inl hx)
        · rcases ih x hx with h | h
          · exact Or.inl h
          · exact Or.inr (Or.inr h)

theorem tableSorted_insert {t : Table α} (k : Nat) (v : α) (hs : tableSorted t) : tableSorted (tableInsert t k v) := by
  induction t with
  | nil => simp [tableInsert, tableSorted]
  | cons p rest ih =>
    obtain ⟨j, w⟩ := p
    have hs' := hs
    simp only [tableSorted, List.map_cons, List.pairwise_cons] at hs
    simp only [tableInsert]
    split
    · next hlt =>
      simp only [tableSorted, List.map_cons, List.pairwise_cons, List.mem_cons]
      refine ⟨?_, hs⟩
      rintro x (rfl | hx)
      · exact hlt
      · exact Nat.lt_trans hlt (hs.1 x hx)
    · split
      · next e => subst e; simpa [tableSorted] using hs
      · next h1 h2 =>
        simp only [tableSorted, List.map_cons, List.pairwise_cons]
        refine ⟨?_, ih hs.2⟩
        intro x hx
        rcases keys_tableInsert rest k v x hx with h | h
        · omega
        · exact hs.1 x h

theorem tableSorted_filter {t : Table α} (f : Nat × α → Bool) (hs : tableSorted t) : tableSorted (t.filter f) :=
  List.Pairwise.sublist ((List.filter_sublist).map Prod.fst) hs

theorem tableSorted_erase {t : Table α} (k : Nat) (hs : tableSorted t) : tableSorted (tableErase t k) :=
  tableSorted_filter _ hs

@[simp] theorem keys_tableMapValues (t : Table α) (f : α → α) : (tableMapValues t f).map Prod.fst = t.map Prod.fst := by
  simp [tableMapValues, Function.comp_def]

theorem tableSorted_mapValues {t : Table α} (f : α → α) (hs : tableSorted t) : tableSorted (tableMapValues t f) := by
  simpa [tableSorted] using hs

/-- An insertion takes the place of a record, or adds one. -/
theorem length_tableInsert {t : Table α} (k : Nat) (v : α) (hs : tableSorted t) :
    (tableInsert t k v).length = if (tableFind t k).isSome then t.length else t.length + 1 := by
  induction t with
  | nil => simp [tableInsert]
  | cons p rest ih =>
    obtain ⟨j, w⟩ := p
    simp only [tableSorted, List.map_cons, List.pairwise_cons] at hs
    simp only [tableInsert]
    split
    · next hlt =>
      have : tableFind ((j, w) :: rest) k = none := by
        rw [Option.eq_none_iff_forall_ne_some]
        intro x hx
        have := mem_of_tableFind hx
        rcases List.mem_cons.1 this with e | e
        · cases e; omega
        · have := hs.1 k (List.mem_map_of_mem (f := Prod.fst) e); omega
      simp [this]
    · split
      · next e => simp [tableFind, e]
      · next h1 h2 =>
        have h3 : j ≠ k := Ne.symm h2
        simp only [List.length_cons, ih hs.2, tableFind, h3, if_false]
        split <;> rfl

/-! ## By the names of the tables -/

@[simp] theorem getItem_putItem_self (b : Block) (code : Nat) (i : Item) : getItem (putItem code i b) code = some i :=
  tableFind_insert_self _ _ _

@[simp] theorem getItem_putItem_other (b : Block) {c code : Nat} (i : Item) (h : c ≠ code) :
    getItem (putItem code i b) c = getItem b c := tableFind_insert_other _ _ h

@[simp] theorem getLabel_putLabel_self (b : Block) (id : Nat) (l : Label) : getLabel (putLabel id l b) id = some l :=
  tableFind_insert_self _ _ _

@[simp] theorem getLabel_putLabel_other (b : Block) {j id : Nat} (l : Label) (h : j ≠ id) :
    getLabel (putLabel id l b) j = getLabel b j := tableFind_insert_other _ _ h

@[simp] theorem getSession_putSession_self (b : Block) (hw : HwAddr) (x : Session) :
    getSession (putSession hw x b) hw = some x := tableFind_insert_self _ _ _

@[simp] theorem getSession_putSession_other (b : Block) {a hw : HwAddr} (x : Session) (h : a ≠ hw) :
    getSession (putSession hw x b) a = getSession b a :=
  tableFind_insert_other _ _ (fun e => h (BitVec.eq_of_toNat_eq e))

@[simp] theorem getSession_removeSession_self (b : Block) (hw : HwAddr) : getSession (removeSession hw b) hw = none :=
  tableFind_erase_self _ _

@[simp] theorem getSession_removeSession_other (b : Block) {a hw : HwAddr} (h : a ≠ hw) :
    getSession (removeSession hw b) a = getSession b a :=
  tableFind_erase_other _ (fun e => h (BitVec.eq_of_toNat_eq e))

/-- The key of an address entry names its segment and its hardware address. -/
theorem addressKey_injective {s t : Segment} {a c : HwAddr} (h : addressKey s a = addressKey t c) : s = t ∧ a = c := by
  have ha := a.isLt
  have hc := c.isLt
  unfold addressKey at h
  have hs : s = t := by
    cases s <;> cases t <;> simp [segmentIndex] at h ⊢ <;> omega
  subst hs
  exact ⟨rfl, BitVec.eq_of_toNat_eq (by omega)⟩

@[simp] theorem keySegment_addressKey (s : Segment) (a : HwAddr) : keySegment (addressKey s a) = s := by
  have ha := a.isLt
  have : addressKey s a / 281474976710656 = (segmentIndex s).val := by
    unfold addressKey
    omega
  unfold keySegment
  rw [this]
  cases s <;> rfl

end Sys2Proof.Machine
end

