-- ==== Sys2Proof/Machine/Wire.lean ====
section
/-! DEFINITION. The wire formats (R192): what the bytes of an arriving frame say, in the terms the commands carry, and
the bytes of what the part sends, as far as the manual lays them out (log 49). -/

namespace Sys2Proof.Machine

/-! ## Fields -/

/-- R192: an unsigned field of `w` bytes, most significant byte first. -/
def fieldBytes : Nat → Nat → List Byte
  | 0, _ => []
  | w + 1, v => fieldBytes w (v / 256) ++ [BitVec.ofNat 8 v]

/-- R192: the value of an unsigned field, most significant byte first. -/
def fieldValue (l : List Byte) : Nat := l.foldl (fun a x => a * 256 + x.toNat) 0

/-- R192: the value of a signed field of two bytes, in two's complement. -/
def signedValue (l : List Byte) : Int := (BitVec.ofNat 16 (fieldValue l)).toInt

/-- R192: a text field: its character codes. -/
def textBytes (t : Text) : List Byte := t.map (fun c => BitVec.ofNat 8 c)

/-- The field of `w` bytes that begins `from` bytes into a frame. -/
def fieldAt (start w : Nat) (l : List Byte) : Nat := fieldValue ((l.drop start).take w)

/-! ## Management messages -/

/-- R192: the kind byte of a message the 4860 sends. -/
def replyKind : ReplyBody → Nat
  | .refusal _ _ => 9
  | .notice _ => 10
  | .done => 8
  | .mode _ => 8
  | .clock _ => 8
  | .windowState _ => 8
  | .loopback _ => 8
  | .released _ _ => 8
  | .cursor _ => 8
  | .written _ _ => 8
  | .records _ _ => 8
  | .status _ => 8

/-- R192: the 6-byte header of a message the 4860 sends. -/
def replyHeader (station : Fin 16) (m : MgmtReply) : List Byte :=
  fieldBytes 1 station.val ++ fieldBytes 1 (replyKind m.body) ++ fieldBytes 2 m.tag
    ++ fieldBytes 2 (Config.bodyBytes ReplyBody m.body)

/-- R192: whether a kind byte is one of the five a management message to the 4860 has. -/
def messageKindKnown (kind : Nat) : Bool := within 1 5 kind

/-- R192: the body of a message to the 4860; a length field that disagrees with the frame is out of range, and so is a
body that does not read as its kind's. An unknown kind is read first, whatever the length field says (log 48). -/
def bodyOf (kind : Byte) (len : Nat) (body : List Byte) : MgmtBody :=
  if messageKindKnown kind.toNat then
    (if decide (len = body.length) && decide (len ≤ 4096) then (Config.readAs MgmtBody (kind :: body)).getD .malformed
     else .malformed)
  else .unknownKind

/-- R184, R192: the body of a message of a kind byte and what follows the tag; one that ends before the body is
shorter than its format, and one with no kind byte has no kind to be unknown. -/
def messageBodyOf (kind : Option Byte) (rest : List Byte) : MgmtBody :=
  match kind with
  | none => .malformed
  | some k =>
    if rest.length < 2 then (if messageKindKnown k.toNat then .malformed else .unknownKind)
    else bodyOf k (fieldAt 0 2 rest) (rest.drop 2)

/-- R192: the management message that bytes stand for; where bytes of the header are missing, the station and tag are
read as if they were 0 (log 49). -/
def mgmtMessageOf (l : List Byte) : MgmtMessage :=
  MgmtMessage.mk (l.getD 0 0#8).toNat (fieldValue [l.getD 2 0#8, l.getD 3 0#8]) (messageBodyOf l[1]? (l.drop 4))

/-! ## Till service frames -/

/-- R192: a line of a SALE_RECORD: 17 bytes. -/
def saleLineOf (l : List Byte) : SaleLine where
  kind := Config.readAs SaleKind (l.take 1)
  code := fieldAt 1 8 l
  quantity := signedValue ((l.drop 9).take 2)
  price := fieldAt 11 4 l
  version := fieldAt 15 2 l

/-- R192: the lines of a SALE_RECORD. -/
def saleLinesOf : Nat → List Byte → List SaleLine
  | 0, _ => []
  | n + 1, l => saleLineOf (l.take 17) :: saleLinesOf n (l.drop 17)

/-- R192: a till frame by its kind, its length field in agreement; a body longer than its kind's layout is malformed,
as a shorter one is (log 64). -/
def tillBodyOf (kind till : Nat) (body : List Byte) : TillFrame :=
  match kind with
  | 1 => if body.isEmpty then .hello till else .malformed kind till
  | 2 => if body.length = 8 then .priceQuery till (fieldValue body) else .malformed kind till
  | 3 =>
    if decide (9 ≤ body.length) && decide (body.length = 9 + 17 * fieldAt 8 1 body) then
      .saleRecord till (fieldAt 0 4 body) (fieldAt 4 4 body) (saleLinesOf (fieldAt 8 1 body) (body.drop 9))
    else .malformed kind till
  | _ => .unknownKind kind till

/-- R192: the till service frame that bytes stand for; a till number that is missing is read as 0 (log 49). -/
def tillFrameOf (l : List Byte) : TillFrame :=
  match l with
  | [] => .empty
  | [kind] => .malformed kind.toNat 0
  | kind :: till :: rest =>
    if decide (2 ≤ rest.length) && decide (fieldAt 0 2 rest = (rest.drop 2).length) then
      tillBodyOf kind.toNat till.toNat (rest.drop 2)
    else .malformed kind.toNat till.toNat

/-- The names of the results of a till answer (R110, R111, R114, R116). -/
inductive TillResultName where
  | accepted | inUse | notFound | notActive | held | priced | staleSequence | journalFull | notRegistered | fieldRange
  | unknownKind
  deriving DecidableEq, Repr

/-- The name of a result. -/
def tillResultName : TillResult → TillResultName
  | .accepted => .accepted
  | .acceptedSequence _ => .accepted
  | .inUse => .inUse
  | .notFound _ => .notFound
  | .notActive _ => .notActive
  | .held _ => .held
  | .priced _ _ _ _ _ _ _ => .priced
  | .staleSequence => .staleSequence
  | .journalFull => .journalFull
  | .notRegistered => .notRegistered
  | .fieldRange => .fieldRange
  | .unknownKind => .unknownKind

/-- R114, R192: what stands behind the result code of a till answer. -/
def tillResultFields : TillResult → List Byte
  | .acceptedSequence s => fieldBytes 4 s
  | .notFound code => fieldBytes 8 code
  | .notActive code => fieldBytes 8 code
  | .held code => fieldBytes 8 code
  | .priced code price version lowest promotion uncertain text =>
    fieldBytes 8 code ++ fieldBytes 4 price ++ fieldBytes 2 version
      ++ [Config.nameByte (Bool × Bool × Bool) (lowest, promotion, uncertain)]
      ++ fieldBytes 1 text.length ++ textBytes text
  | .accepted => []
  | .inUse => []
  | .staleSequence => []
  | .journalFull => []
  | .notRegistered => []
  | .fieldRange => []
  | .unknownKind => []

/-- R192: the bytes of a till answer. -/
def tillAnswerBytes (a : TillAnswer) : List Byte :=
  fieldBytes 1 a.kind ++ fieldBytes 1 a.till ++ fieldBytes 2 (1 + (tillResultFields a.result).length)
    ++ [Config.nameByte TillResultName (tillResultName a.result)] ++ tillResultFields a.result

/-- R137, R192: the content of a SERVICE frame under its two readings. -/
def serviceContentOf (l : List Byte) : ServiceContent := ServiceContent.mk (tillFrameOf l) (mgmtMessageOf l)

/-! ## Label air formats -/

/-- R192: the kind byte of an ANNOUNCE. -/
def announceKind : EntryKind → Nat
  | .full => 1
  | .partialUpdate => 2
  | .query => 3

/-- R192: the 8 bytes of an ANNOUNCE. -/
def announceBytes (label : Nat) (kind : EntryKind) (newTag baseTag fragments : Nat) : List Byte :=
  fieldBytes 4 label ++ fieldBytes 1 (announceKind kind) ++ fieldBytes 1 newTag ++ fieldBytes 1 baseTag
    ++ fieldBytes 1 fragments

/-! ## Exchange frames -/

/-- R179, R192: one record of EXCHANGE_RECORDS from its kind and content bytes. -/
def exchangeRecordOf (kind : Byte) (content : List Byte) : ExchangeRecord where
  bytes := kind :: content
  record := (Config.readAs StagedRecord (kind :: content)).getD .unknown

/-- R192: the records of EXCHANGE_RECORDS: kind, content length, content; none where the bytes do not come out even. -/
def exchangeRecordsOf : Nat → List Byte → Option (List ExchangeRecord)
  | 0, l => if l.isEmpty then some [] else none
  | n + 1, l =>
    match l with
    | kind :: n1 :: n2 :: rest =>
      if fieldValue [n1, n2] ≤ rest.length then
        (exchangeRecordsOf n (rest.drop (fieldValue [n1, n2]))).map
          (exchangeRecordOf kind (rest.take (fieldValue [n1, n2])) :: ·)
      else none
    | _ => none

/-- R192: the exchange frame of a kind byte and its fields; bytes after the last field of its format make it malformed,
as missing ones do (log 64). -/
def exchangeFieldsOf (kind : Byte) (fields : List Byte) : ExchangeFrame :=
  match kind.toNat with
  | 1 => if fields.isEmpty then .exchangeOpen else .malformed kind
  | 2 => if fields.length = 6 then .batchStart (fieldAt 0 4 fields) (fieldAt 4 2 fields) else .malformed kind
  | 3 =>
    match fields with
    | count :: rest =>
      match exchangeRecordsOf count.toNat rest with
      | some rs => .exchangeRecords rs
      | none => .malformed kind
    | [] => .malformed kind
  | 4 => if fields.length = 2 then .batchEnd (fieldValue fields) else .malformed kind
  | _ => .unknown kind

/-- R174, R192: the exchange frame that bytes stand for; one with no kind byte is shorter than every format (log 48). -/
def exchangeFrameOf (l : List Byte) : ExchangeFrame :=
  match l with
  | [] => .empty
  | kind :: fields => exchangeFieldsOf kind fields

/-- R192: the reason byte of BATCH_REJECTED. -/
def rejectReason (byCount : Bool) : Nat := if byCount then 1 else 2

/-- R192: the bytes of an exchange reply. -/
def exchangeReplyWire : ExchangeReply → List Byte
  | .opened last journal result size mode =>
    fieldBytes 1 9 ++ fieldBytes 4 last ++ fieldBytes 4 journal ++ [Config.nameByte QualClass result]
      ++ fieldBytes 2 size ++ [Config.nameByte Mode mode]
  | .batchResult r =>
    fieldBytes 1 10 ++ fieldBytes 4 r.n ++ fieldBytes 2 r.applied ++ fieldBytes 2 r.refusals.length
      ++ r.refusals.flatMap (fun p => fieldBytes 2 p.1 ++ [Config.nameByte Code p.2])
  | .batchRejected n byCount => fieldBytes 1 11 ++ fieldBytes 4 n ++ fieldBytes 1 (rejectReason byCount)
  | .refused kind code => fieldBytes 1 12 ++ [kind, Config.nameByte Code code]

/-! ## Line frames -/

/-- R192: the bits of pattern bytes, the most significant of each first (log 68). -/
def bitsOf (l : List Byte) : List Bool := l.flatMap (fun x => (List.range 8).map (fun i => x.getLsbD (7 - i)))

/-- R192: eight bits as a byte, the first the most significant (log 68). -/
def byteOfBits (l : List Bool) : Byte := BitVec.ofNat 8 (l.foldl (fun a x => a * 2 + (if x then 1 else 0)) 0)

/-- Bits as `n` bytes. -/
def bytesOfBits : Nat → List Bool → List Byte
  | 0, _ => []
  | n + 1, l => byteOfBits (l.take 8) :: bytesOfBits n (l.drop 8)

/-- R192: a TEST content: a frame number and 32 pattern bytes, or the TEST_LOOP marker (log 49). -/
def testContentOf (l : List Byte) : LineContent :=
  if l.length = 36 then .testPattern (fieldAt 0 4 l) (bitsOf (l.drop 4))
  else if l.length = (Config.testLoopBytes : Nat) then .testLoop
  else .malformed

/-- R192: a DATA content: the network addresses of 4 bytes (log 27), the source before the destination (log 67), and the
rest. -/
def dataContentOf (l : List Byte) : LineContent :=
  if 8 ≤ l.length then
    .data (BitVec.ofNat 32 (fieldAt 0 4 l)) (BitVec.ofNat 32 (fieldAt 4 4 l)) (l.drop 8)
  else .malformed

/-- R192: the content of a line frame by its kind byte. -/
def lineContentOf (kind : Nat) (l : List Byte) : LineContent :=
  match kind with
  | 0 => if l.isEmpty then .alive else .malformed
  | 1 => dataContentOf l
  | 2 => .management (mgmtMessageOf l)
  | 3 => .exchange (exchangeFrameOf l)
  | 4 => .journalBlock
  | 5 => if l.length = 4 then .journalAck (fieldValue l) else .malformed
  | 6 => testContentOf l
  | _ => .unknownKind

/-- R159, R192: a line frame from the bytes between its flags: kind, content, CRC. -/
def lineInputOf (l : List Byte) : LineInput where
  length := l.length - 3
  complete := decide (3 ≤ l.length)
  crcOk := decide (Config.crc (l.take (l.length - 2)) = BitVec.ofNat 16 (fieldValue (l.drop (l.length - 2))))
  content := lineContentOf (fieldAt 0 1 l) ((l.take (l.length - 2)).drop 1)

/-- R192: the kind byte of a frame the transmitter sends. -/
def sentKind : SentFrame → Nat
  | .alive => 0
  | .queued (.data _ _ _) => 1
  | .queued (.management _) => 2
  | .queued (.exchange _) => 3
  | .queued (.journalBlock _ _) => 4
  | .queued .testLoop => 6
  | .queued (.testPattern _ _ _) => 6

/-- R192: the content of a sent frame, where the manual lays it out whole: not the body of a management message, the
entries of a journal block or the TEST_LOOP marker (log 49). -/
def sentContent : SentFrame → Option (List Byte)
  | .alive => some []
  | .queued (.data src dst content) => some (fieldBytes 4 src.toNat ++ fieldBytes 4 dst.toNat ++ content)
  | .queued (.exchange r) => some (exchangeReplyWire r)
  | .queued (.testPattern _ number insertion) =>
    some (fieldBytes 4 number ++ bytesOfBits 32 (patternBits number insertion))
  | .queued (.management _) => none
  | .queued (.journalBlock _ _) => none
  | .queued .testLoop => none

/-- R192: a line frame's bytes between its flags, from its kind and content. -/
def lineFrameBytes (kind : Nat) (content : List Byte) : List Byte :=
  fieldBytes 1 kind ++ content ++ fieldBytes 2 (Config.crc (fieldBytes 1 kind ++ content)).toNat

end Sys2Proof.Machine
end

