-- ==== Sys2Proof/Laws/Wire.lean ====
section
/-! SUPPORT. The laws of the wire formats: a field reads back, and the lengths the queue counts are those of the bytes. -/

namespace Sys2Proof.Machine

theorem fieldValue_append (l : List Byte) (x : Byte) : fieldValue (l ++ [x]) = fieldValue l * 256 + x.toNat := by
  simp [fieldValue]

/-- A field has its width. -/
@[simp] theorem fieldBytes_length (w v : Nat) : (fieldBytes w v).length = w := by
  induction w generalizing v with
  | zero => rfl
  | succ w ih => simp [fieldBytes, ih]

/-- A field of `w` bytes reads back as its value modulo its range. -/
theorem fieldValue_fieldBytes (w v : Nat) : fieldValue (fieldBytes w v) = v % 256 ^ w := by
  induction w generalizing v with
  | zero => simp [fieldBytes, fieldValue, Nat.mod_one]
  | succ w ih =>
    rw [fieldBytes, fieldValue_append, ih, Nat.pow_succ, Nat.mul_comm (256 ^ w) 256, Nat.mod_mul]
    simp only [BitVec.toNat_ofNat]
    omega

/-- R163, R192: the bytes an exchange reply occupies in its class are those of its frame. -/
theorem exchangeReplyWire_length (r : ExchangeReply) : (exchangeReplyWire r).length = exchangeReplyBytes r := by
  cases r with
  | opened last journal result size mode => simp [exchangeReplyWire, exchangeReplyBytes]
  | batchResult r =>
    simp only [exchangeReplyWire, exchangeReplyBytes, List.length_append, fieldBytes_length, List.length_flatMap]
    have h : (r.refusals.map fun p => (fieldBytes 2 p.1 ++ [Config.nameByte Code p.2]).length).sum
        = 3 * r.refusals.length := by
      induction r.refusals with
      | nil => rfl
      | cons a l ih => simp only [List.map_cons, List.sum_cons, ih]; simp; omega
    simp only [List.length_append, fieldBytes_length] at h
    omega
  | batchRejected n byCount => simp [exchangeReplyWire, exchangeReplyBytes]
  | refused kind code => simp [exchangeReplyWire, exchangeReplyBytes]

/-- R192: an ANNOUNCE is 8 bytes. -/
theorem announceBytes_length (label : Nat) (kind : EntryKind) (newTag baseTag fragments : Nat) :
    (announceBytes label kind newTag baseTag fragments).length = 8 := by simp [announceBytes]

/-- Bits packed into `n` bytes. -/
theorem bytesOfBits_length (n : Nat) (l : List Bool) : (bytesOfBits n l).length = n := by
  induction n generalizing l with
  | zero => rfl
  | succ n ih => simp [bytesOfBits, ih]

/-- R163, R192: the content of a sent frame, where it is laid out, has the bytes its class counts. -/
theorem sentContent_length (c : UplinkContent) (l : List Byte) (h : sentContent (.queued c) = some l) :
    l.length = uplinkBytes c := by
  cases c <;> simp only [sentContent, Option.some.injEq, reduceCtorEq] at h
  · subst h; simp [uplinkBytes]; omega
  · subst h; simp [uplinkBytes, exchangeReplyWire_length]
  · subst h; simp [uplinkBytes, bytesOfBits_length]

end Sys2Proof.Machine
end

