-- ==== Sys2Proof/Tests/Slice0.lean ====
section
/-! SUPPORT. Tests: ill-formed commands refused by each check of WellFormed; the worked examples of spec/ and small hand
calculations from its rules; and, for each statement with hypotheses, a concrete state and operands that meet them. -/

namespace Sys2Proof.Tests

open Sys2Proof.Machine

-- The tests are checked one after another: side by side their checks take more memory than time is worth.
set_option Elab.async false

/-! ## States and operands -/

/-- A store server behind port L0. -/
def store : MgmtSource := .storeServer 0x02AA00000001#48 0x0A000205#32 0
/-- A message of the store server to this station. -/
def hdr : MgmtHeader := MgmtHeader.mk store 0 7
/-- A message of head office to this station. -/
def away : MgmtHeader := MgmtHeader.mk .headOffice 0 7
/-- The part after reset. -/
def fresh : Block := State.reset.block
/-- A state without waiting commands. -/
def st (b : Block) : State := State.mk b []
/-- The part in another store mode. -/
def inMode (m : Mode) (b : Block) : Block := { b with mode := { b.mode with mode := m } }
/-- The part in CLOSING with its drain timer running. -/
def draining : Block := { fresh with mode := { fresh.mode with mode := .closing, drain := some 5 } }
/-- The part with the clock set. -/
def clocked (v : Nat) : Block := { fresh with mode := { fresh.mode with clock := some v } }
/-- The part with its exchange window open. -/
def windowed (b : Block) : Block := { b with mode := { b.mode with window := .opened } }
/-- The part with its line UP. -/
def onLine (b : Block) : Block := { b with line := { b.line with up := true, loss := some 3000 } }
/-- The part with its line in a loopback. -/
def looped (l : Loopback) (b : Block) : Block := { b with line := { b.line with loopback := l, loopTimer := some 9 } }
/-- The part with an exchange state. -/
def inExchange (x : ExchangeState) (b : Block) : Block := { b with exch := { b.exch with state := x } }
/-- The part with a port in a role, its link UP. -/
def linked (p : Port) (role : PortRole) (b : Block) : Block :=
  { b with fwd := { b.fwd with ports := b.fwd.ports.set p.val (PortRecord.mk (PortSettings.mk role 10 20) true) p.isLt } }
/-- The part with a window for the store server. -/
def viewing (t : TableName) (first last cursor : Nat) (b : Block) : Block :=
  { b with mgmt := { b.mgmt with storeWindow := some (TableWindow.mk t first last .increment cursor) } }

/-- The inputs of a loaf at 3.49. -/
def loaf : PriceInputs := PriceInputs.mk 349 none none none none none [66]
/-- A version of the loaf. -/
def version (role : Role) (status : VersionStatus) (number refs : Nat) : Version :=
  Version.mk role status number loaf (evaluate loaf) refs
/-- An item with an ACTIVE version 1 in slot 0. -/
def active : Item := Item.mk 1 #v[some (version .active .valid 1 0), none, none, none] []
/-- An item with a PENDING version 1 in slot 0 that nothing references. -/
def pending : Item := Item.mk 1 #v[some (version .pending .valid 1 0), none, none, none] []
/-- The part with the item 5. -/
def stocked (i : Item) (b : Block) : Block := putItem 5 i b
/-- A SMALL template of one plane. -/
def plain : Template := Template.mk .small 1 []
/-- The part with template 3. -/
def drawn (b : Block) : Block :=
  { b with composer := { b.composer with templates := b.composer.templates.set 3 (some plain) } }
/-- A new SMALL label, UNBOUND. -/
def blank : Label :=
  Label.mk .small none none .normal none none none none false .unbound (Marks.mk false false false) false none 0 true
    (some 0) none 0 none 0
/-- A label bound to item 5 with template 3, settled in a state. -/
def bound (x : UpdateState) : Label := { blank with item := some 5, template := some 3, state := x }
/-- A reference to version 1 of item 5, with tag 1. -/
def shown : LabelRef := LabelRef.mk (.version 5 0 1 3) 1 9
/-- A label whose update with tag 1 is in the air. -/
def flying : Label :=
  { bound .inFlight with
    target := some (.version 5 0 1), inFlight := some (InFlight.mk shown .full (Marks.mk false false false)), lastTag := 1 }
/-- The part with the label 9. -/
def labelled (l : Label) (b : Block) : Block := putLabel 9 l b
/-- The part whose plan holds an entry for label 9, its reply window open. -/
def waiting (k : EntryKind) (r : Option RadioReply) (b : Block) : Block :=
  { b with radio := { b.radio with plan := [PlanEntry.mk 9 k 1 0 1 none], cursor := 0, taken := r } }
/-- A till behind port L1. -/
def lane : TillSender := TillSender.mk 0x02BB00000001#48 0x0A000105#32 1
/-- The record of that till when it is registered. -/
def served (x : TillState) (l : Option Nat) : TillRecord := TillRecord.mk x (some lane.hw) (some 1) l 0 (some 50)
/-- The part with that record for till 1. -/
def registered (x : TillState) (l : Option Nat) (b : Block) : Block := setTillRecord 0 (served x l) b
/-- A SALE line of one loaf. -/
def line : SaleLine := SaleLine.mk (some .sale) 5 1 349 1
/-- A journal entry. -/
def entry (n : Nat) : JournalEntry := JournalEntry.mk n 1 1 0 .sale 5 1 349 1 (EntryFlags.mk false false false)
/-- The part with two journal entries, the first of them SENT. -/
def journalled : Block :=
  { fresh with till := { fresh.till with journal := [entry 1, entry 2], sent := 1, nextNumber := 3, ackTimer := some 7 } }
/-- A frame between two stations. -/
def frame (dst : HwAddr) (p : LanPayload) : LanFrame := LanFrame.mk dst 0x02CC00000001#48 none p
/-- An ACTIVE guest session. -/
def session (x : SessionState) : Session := Session.mk x 0 0 0 (if x = .cooldown then some 0 else none) 131072
/-- A guest's hardware address. -/
def phone : HwAddr := 0x02DD00000001#48
/-- The part with that guest's session. -/
def hosting (x : SessionState) (b : Block) : Block := putSession phone (session x) b
/-- A qualification that examined 100 bits of 65,536. -/
def measuring : Qualification :=
  Qualification.mk 0 65536 0 257 0 (.search [] 0) 100 0 (some 4)
/-- The part with that qualification. -/
def qualifying (b : Block) : Block := { b with line := { b.line with qual := some measuring } }
/-- The part with a staging area that announces one record. -/
def staging (received sum : Nat) (b : Block) : Block :=
  { inExchange .receiving b with
    exch := { (inExchange .receiving b).exch with staging := some (Staging.mk [.exchangeClose] 1 1 received sum) } }

/-! ## WellFormed refuses, check by check -/

theorem test_wf_station : (Instr.openCmd (MgmtHeader.mk store 256 0)).wf = false := by decide
theorem test_wf_tag : (Instr.status (MgmtHeader.mk store 0 65536)).wf = false := by decide
theorem test_wf_clock : (Instr.setClock hdr 18446744073709551616).wf = false := by decide
theorem test_wf_code : (Instr.release hdr 18446744073709551616).wf = false := by decide
theorem test_wf_position : (Instr.unbind (.event 4294967296) 9).wf = false := by decide
theorem test_wf_label : (Instr.unbind (.event 0) 4294967296).wf = false := by decide
theorem test_wf_template : (Instr.bind (.event 0) 9 5 256).wf = false := by decide
theorem test_wf_reply_tag : (Instr.labelReply (ReplyTransmission.mk true 9 (.ack 256))).wf = false := by decide
theorem test_wf_report_tag : (Instr.labelReply (ReplyTransmission.mk true 9 (.report 256))).wf = false := by decide
theorem test_wf_battery : (Instr.checkIn (CheckIn.mk true 9 0 16 0)).wf = false := by decide
theorem test_wf_check : (Instr.checkIn (CheckIn.mk true 9 0 0 65536)).wf = false := by decide
theorem test_wf_till : (Instr.hello lane 256).wf = false := by decide
theorem test_wf_sequence : (Instr.saleRecord lane 1 4294967296 0 [line]).wf = false := by decide
theorem test_wf_quantity : (Instr.saleRecord lane 1 0 0 [{ line with quantity := -32769 }]).wf = false := by decide
theorem test_wf_silence : (Instr.silenceTimerExpiry 97).wf = false := by decide
theorem test_wf_ack : (Instr.journalAck 4294967296).wf = false := by decide
theorem test_wf_lan_tag : (Instr.lanFrame 0 { frame 1#48 (.other []) with tag := some 4095 }).wf = false := by decide
theorem test_wf_pattern : (Instr.lineFrame (.fromLine (LineInput.mk 36 true true (.testPattern 0 [])))).wf = false := by
  decide
theorem test_wf_line_ack :
    (Instr.lineFrame (.fromLine (LineInput.mk 4 true true (.journalAck 4294967296)))).wf = false := by decide
theorem test_wf_count : (Instr.batchStart 1 65536).wf = false := by decide
theorem test_wf_batch : (Instr.batchStart 4294967296 1).wf = false := by decide
theorem test_wf_record : (Instr.exchangeRecords [ExchangeRecord.mk [] .exchangeClose]).wf = false := by decide
theorem test_wf_check_sum : (Instr.batchEnd 65536).wf = false := by decide
theorem test_wf_accepts : (Instr.batchEnd 65535).wf = true := by decide

/-- No row of the table has bits (log 2). -/
theorem test_no_word_spells_a_command : decodeTableWord 32 1 = none := by decide

/-! ## Worked examples of spec/ and hand calculations -/

/-- R28: the money texts of the table: 349 with D = 2 and a dot is 3.49. -/
theorem test_money_two_decimals :
    moneyText (PriceSettings.mk defaultMasks 2 .dot none) 349 = [51, 46, 52, 57] := by decide
/-- R28: 5 with D = 3 is 0.005. -/
theorem test_money_three_decimals :
    moneyText (PriceSettings.mk defaultMasks 3 .dot none) 5 = [48, 46, 48, 48, 53] := by decide
/-- R28: 9,999,999 with D = 2 and a comma is 99999,99. -/
theorem test_money_comma :
    moneyText (PriceSettings.mk defaultMasks 2 .comma none) 9999999 = [57, 57, 57, 57, 57, 44, 57, 57] := by decide
/-- R18: 5 less 50 % is 2.5: DOWN drops the half, UP and NEAREST raise it. -/
theorem test_percent_half :
    percentPrice 5 5000 .down = 2 ∧ percentPrice 5 5000 .up = 3 ∧ percentPrice 5 5000 .nearest = 3 := by decide
/-- R18: 1 less 99.99 %, at the ends of the range of p. -/
theorem test_percent_smallest : percentPrice 1 9999 .down = 0 ∧ percentPrice 1 9999 .up = 1 := by decide
/-- R19, R20: an AMOUNT above the base without a floor: E = 0, FLOOR and ZERO_PRICE. -/
theorem test_amount_below_zero :
    evaluate { loaf with promotion := some (.amount 350) } =
      PriceResults.mk 0 .absent (PriceFaults.mk false true true false) := by decide
/-- R19: a FIXED price above the base keeps the base and raises PROMO_ABOVE_BASE. -/
theorem test_fixed_above_base :
    evaluate { loaf with promotion := some (.fixed 350) } =
      PriceResults.mk 349 .absent (PriceFaults.mk true false false false) := by decide
/-- R21: 349 for 400 g is 872.5 per kg, raised to 873. -/
theorem test_unit_price_half :
    (evaluate { loaf with pack := some 400, unit := some .perKg }).u = .amount 873 := by decide
/-- R21: a unit price above 9,999,999 is BLANK. -/
theorem test_unit_overflow :
    (evaluate { loaf with base := 9999999, pack := some 1, unit := some .perKg }).u = .blank := by decide
/-- R85: the example: 3 clear, 2 set, 19 clear codes as 02h 81h 12h. -/
theorem test_runs :
    codeRuns (List.replicate 3 false ++ List.replicate 2 true ++ List.replicate 19 false) = [0x02#8, 0x81#8, 0x12#8] := by
  decide
/-- R9: day 1 after a MONDAY epoch is a TUESDAY, at its last second and no later. -/
theorem test_weekday :
    weekdayOf .monday 172799 = 1 ∧ weekdayOf .monday 172800 = 2 ∧ weekdayOf .sunday 86400 = 0 := by decide
/-- R35: the number after 65,535 is 1. -/
theorem test_version_number_wraps : numberAfter 65535 = 1 := by decide
/-- R169: the register runs through 32,767 states; from all ones the first bit sent is 1 and 0 comes in. -/
theorem test_register : registerStep 32767 = 32766 := by decide
/-- R171: at half the length and no error CLASS_A, below it NONE; one error in 1,000 is CLASS_C, above it POOR. -/
theorem test_qualification_result :
    qualClassOf 65536 32768 0 = .classA ∧ qualClassOf 65536 32767 0 = .noResult ∧ qualClassOf 65536 65000 65 = .classC ∧
      qualClassOf 65536 65000 66 = .poor := by decide
/-- R131: the defaults: 10.0.2.1 lies in OFFICE alone; 10.64.7.255 in GUEST; 10.64.8.0 in none. -/
theorem test_ranges :
    segmentOf fresh (netAddr 10 0 2 1) = some .office ∧ segmentOf fresh (netAddr 10 64 7 255) = some .guest ∧
      segmentOf fresh (netAddr 10 64 8 0) = none := by decide
/-- R181: 3 bytes 1, 2, 255 sum to 258. -/
theorem test_byte_sum : byteSum [1#8, 2#8, 255#8] = 258 := by decide
/-- R189: a notice of priority 1 stands before one of priority 4, and behind an older one of its own. -/
theorem test_notice_order :
    (noticeQueueAfter .uplinkDown .line none none
      (noticeQueueAfter .uplinkUp .line none none (noticeQueueAfter .journalFull .journal none none []))).map entryPriority
      = [1, 1, 4] := by decide
/-- R155: the ceiling at level 4 of 4,096 kbit/s is 2,048. -/
theorem test_ceiling : ceiling fresh = 2048 := by decide

/-! ## Concrete states that meet the hypotheses of the statements -/

theorem test_witness_front : (State.mk fresh [.powerUp, .beacon]).pending = .powerUp :: [.beacon] := rfl

theorem test_witness_empty_queue :
    (st fresh).pending = [] ∧ due fresh = none ∧
      due { fresh with time := { fresh.time with toSecond := 0 } } = some .clockAdvance := by decide

/-- A message of the store server at its own station, and one of head office over a working line. -/
theorem test_witness_taken : Taken hdr fresh ∧ Taken away (onLine fresh) := by unfold Taken; decide

theorem test_witness_store_mode :
    Taken hdr fresh ∧ fresh.mode.mode = .closed ∧ Taken hdr draining ∧ draining.mode.mode = .closing ∧
      Taken hdr (inMode .trading fresh) ∧ (inMode .trading fresh).mode.mode = .trading ∧
      draining.mode.drain = some 5 := by unfold Taken; decide

theorem test_witness_close_now :
    draining.mode.mode = .closing ∧ draining.mode.drain.isSome = true ∧ fresh.mode.mode ≠ .closing := by decide

theorem test_witness_clock_value : 4294967295 ≤ 4294967295 ∧ 4294967295 < 4294967296 := by decide

theorem test_witness_clock_advance :
    (st fresh).block.mode.clock = none ∧ (clocked 4294967295).mode.clock = some 4294967295 ∧
      (clocked 4294967294).mode.clock = some 4294967294 ∧ 4294967294 < 4294967295 := by decide

theorem test_witness_window : fresh.mode.window = .shut ∧ (windowed fresh).mode.window = .opened ∧
    (inExchange .ready (windowed fresh)).exch.state ≠ .idle := by decide

theorem test_witness_percent : 1 ≤ 9999 ∧ 9999 ≤ 9999 ∧ 9999999 ≤ 9999999 := by decide

theorem test_witness_evaluation :
    loaf.base ≤ 9999999 ∧ loaf.floor.getD 0 ≤ 9999999 ∧ loaf.pack = none ∧
      ({ loaf with pack := some 1, unit := some .perKg } : PriceInputs).pack = some 1 ∧
      ({ loaf with pack := some 1, unit := some .perKg } : PriceInputs).unit = some .perKg := by decide

theorem test_witness_money : 9999999 ≤ 9999999 ∧ (fresh.price.decimals = 0 ∨ fresh.price.decimals = 2) := by decide

/-- A PRICE record for item 5 that passes its range check, and one that does not. -/
def priced : PriceRecord := PriceRecord.mk 5 349 .absent none none none none [66] (some .nextOpen)

theorem test_witness_price_record :
    checkPrice priced = some (loaf, .nextOpen) ∧ 9999999 < ({ priced with base := 10000000 } : PriceRecord).base ∧
      getItem fresh 5 = none ∧ fresh.items.table.length < 65536 ∧ getItem (stocked active fresh) 5 = some active ∧
      (placeVersion defaultMasks loaf active .nextOpen).isSome = true := by decide

/-- An item whose four slots are filled. -/
def full : Item :=
  Item.mk 4 #v[some (version .active .valid 1 0), some (version .retired .valid 2 1), some (version .retired .valid 3 1),
    some (version .pending .valid 4 1)] []

theorem test_witness_slots_full :
    placeVersion defaultMasks loaf full .nextOpen = none ∧ placeVersion defaultMasks loaf full .immediate = none := by
  decide

theorem test_witness_one_of_each : OneOfEach active ∧ OneOfEach pending ∧ OneOfEach full := by
  refine ⟨?_, ?_, ?_⟩ <;>
    (intro k l v w hk hl hr hn
     fin_cases k <;> fin_cases l <;> simp_all [slotOf, active, pending, full, version, Vector.get] <;>
       (subst_vars; simp_all))

theorem test_witness_slot_clauses :
    slotOf pending 0 = some (version .pending .valid 1 0) ∧ slotOf full 3 = some (version .pending .valid 4 1) ∧
      slotOf active 1 = none ∧ (∀ k, slotOf full k ≠ none) ∧ namedVersion fresh 5 0 1 = none ∧
      namedVersion (stocked active fresh) 5 0 1 = some (version .active .valid 1 0) := by decide

theorem test_witness_activation :
    (joinPending 5 (stocked pending fresh)).items.pending = [5] ∧
      getItem (joinPending 5 (stocked pending fresh)) 5 = some pending ∧
      pendingHeld (joinPending 5 (stocked pending fresh)) 5 = false := by decide

theorem test_witness_item_records :
    getItem (stocked active fresh) 5 = some active ∧ getItem fresh 5 = none ∧ active.bound = [] ∧
      ({ active with bound := [9] } : Item).bound ≠ [] ∧ 40 < (List.replicate 41 65).length ∧
      (List.replicate 40 65).length ≤ 40 := by decide

theorem test_witness_release :
    9999999999999 < 10000000000000 ∧ getItem (stocked active fresh) 5 = some active ∧
      slotOf active 0 = some (version .active .valid 1 0) ∧
      (version .active .valid 1 0).results = evaluate (version .active .valid 1 0).inputs := by decide

theorem test_witness_target :
    blank.item = none ∧ (bound .current).item = some 5 ∧ getItem (stocked active fresh) 5 = some active ∧
      (version .active .valid 1 0).status = .valid ∧ fresh.mode.mode = .closed ∧ flying.target = some (.version 5 0 1) ∧
      classOf fresh { flying with displayKnown := true } ≠ .urgent := by decide

theorem test_witness_label_record :
    1 ≤ 4294967295 ∧ getLabel fresh 9 = none ∧ fresh.labels.table.length < 65536 ∧
      getLabel (labelled blank fresh) 9 = some blank := by decide

theorem test_witness_template_record :
    getLabel (labelled (bound .current) (drawn fresh)) 9 = some (bound .current) ∧
      (drawn fresh).composer.templates.get 3 = some plain ∧ plain.cls = (bound .current).cls := by decide

theorem test_witness_bind :
    getLabel (labelled blank (stocked active (drawn fresh))) 9 = some blank ∧ blank.state ≠ .inFlight ∧
      blank.item ≠ some 5 ∧ active.bound.length < 8 ∧ (drawn fresh).composer.templates.get 3 = some plain ∧
      getItem (labelled blank (stocked active (drawn fresh))) 5 = some active := by decide

theorem test_witness_bind_limit : 8 ≤ ({ active with bound := [1, 2, 3, 4, 5, 6, 7, 8] } : Item).bound.length := by decide

theorem test_witness_unbind :
    getLabel (labelled (bound .current) fresh) 9 = some (bound .current) ∧ (bound .current).state ≠ .inFlight ∧
      (bound .current).item = some 5 ∧ blank.item = none := by decide

theorem test_witness_binding_waits :
    getLabel (labelled flying (stocked active (drawn fresh))) 9 = some flying ∧ flying.state = .inFlight ∧
      effectiveItem flying = some 5 ∧ flying.next = none ∧ flying.template = some 3 ∧
      effectiveItem { flying with next := some .unbind } ≠ some 5 := by decide

theorem test_witness_retargets :
    (handOn (Handoff.mk 5 [0]) fresh).labels.handoffs = [Handoff.mk 5 [0]] ∧
      (beginSweep [5] fresh).labels.sweep = some (Sweep.mk [5] 0) ∧
      boundLabels (stocked { active with bound := [9] } (labelled (bound .current) fresh)) 5 = [9] ∧
      tableSorted (labelled (bound .current) fresh).labels.table := by decide

theorem test_witness_force_label :
    getLabel (labelled (bound .current) fresh) 9 = some (bound .current) ∧ (bound .current).item ≠ none ∧
      isSettledState (bound .current).state = true ∧ blank.binding = .normal ∧ 4294967295 < 4294967296 := by decide

/-- A field over the corner of the image. -/
def corner : TemplateField := TemplateField.mk .effectivePrice 0 1 0 0 .deg90 0 .left .black

theorem test_witness_field : corner.xStart ≤ 1 ∧ 1 ≤ corner.xEnd ∧ corner.yStart ≤ corner.yEnd ∧ 0 < fastExtent corner ∧
    1 < slowExtent corner := by decide

/-- A label shown with its template, so that a PARTIAL update may follow. -/
def steady : Label :=
  { bound .stale with displayKnown := true, confirmed := some shown, target := some (.version 5 0 1) }

theorem test_witness_partial :
    (compose { drawn fresh with composer := { (drawn fresh).composer with style := [9] } } 9 steady
      (.version 5 0 1)).map Composed.kind = some .partialUpdate := by decide

theorem test_witness_beacon : (st fresh).block.radio.plan.length ≤ (st fresh).block.radio.cursor ∧
    tableSorted (labelled blank fresh).labels.table ∧ getLabel (labelled blank fresh) 9 = some blank := by decide

theorem test_witness_reply_window :
    (waiting .full none fresh).radio.plan[(waiting .full none fresh).radio.cursor]? =
        some (PlanEntry.mk 9 .full 1 0 1 none) ∧
      (waiting .full (some (.ack 1)) (labelled flying fresh)).radio.taken = some (.ack 1) ∧
      getLabel (waiting .full (some (.ack 1)) (labelled flying fresh)) 9 = some flying ∧ flying.next = none ∧
      flying.inFlight = some (InFlight.mk shown .full (Marks.mk false false false)) ∧ shown.tag = 1 ∧
      fresh.radio.plan.length ≤ fresh.radio.cursor := by decide

theorem test_witness_check_in :
    getLabel fresh 9 = none ∧ getLabel (labelled flying fresh) 9 = some flying ∧ shown.tag = 1 ∧ shown.check = 9 ∧
      ({ flying with state := .failed } : Label).oversize = false ∧ confirmedTag (bound .current) = 0 := by decide

theorem test_witness_hello :
    1 = (0 : Fin 96).val + 1 ∧ (fresh.till.records.get 0).state ≠ .active ∧
      ((registered .active none fresh).till.records.get 0).state = .active ∧
      ((registered .active none fresh).till.records.get 0).hw ≠ some 1#48 ∧
      TillOwn lane ((registered .active none fresh).till.records.get 0) ∧ ¬ TillOwn lane (fresh.till.records.get 0) := by
  unfold TillOwn; decide

theorem test_witness_answer :
    getItem fresh 5 = none ∧ slotOf active 0 = some (version .active .valid 1 0) ∧
      (version .active .valid 1 0).role = .active ∧ (version .active .held 1 0).status = .held := by decide

theorem test_witness_sale :
    SaleInRange 1 0 [line] ∧ ¬ SaleInRange 4294967296 0 [line] ∧
      TillOwn lane ((registered .active (some 0) fresh).till.records.get 0) ∧ fresh.till.journal.length + 1 ≤ 262144 ∧
      fresh.till.nextNumber < 4294967296 := by unfold SaleInRange TillOwn; decide

theorem test_witness_till_timers :
    ((registered .active none fresh).till.records.get 0).state = .active ∧
      ((registered .active none fresh).till.records.get 0).timer ≠ none ∧ journalled.till.ackTimer ≠ none ∧
      journalled.till.journal.drop journalled.till.sent = [entry 2] ∧ (onLine journalled).line.up = true ∧
      classBytes (onLine journalled) .journal + (8 + 32 * min 8 1) ≤ 49152 := by decide

/-- The distances 0, 1 and 2^31 from the oldest entry, number 1, of which one is SENT. -/
theorem test_witness_journal_ack :
    (1 + 4294967296 - 1) % 4294967296 < journalled.till.sent ∧
      journalled.till.sent ≤ (2 + 4294967296 - 1) % 4294967296 ∧
      2147483648 ≤ (2147483649 + 4294967296 - 1) % 4294967296 ∧ (onLine journalled).line.loopback = .off := by decide

theorem test_witness_lan_frame :
    ((linked 1 .till fresh).fwd.ports.get 1).up = true ∧
      Classified ((linked 1 .till fresh).fwd.ports.get 1).settings none .till ∧
      Classified ((linked 1 .accessPoint fresh).fwd.ports.get 1).settings (some 10) .staff ∧
      isGroup (frame 1#48 (.other [])).src = false ∧ (frame 1#48 (.other [])).src ≠ fresh.fwd.hwAddress ∧
      policyAllows fresh (some .till) (some .till) = true ∧ policyAllows fresh (some .guest) (some .guest) = false := by
  unfold Classified; decide +kernel

/-- A frame for the 4860 from a till: to the service, to another segment, and beyond every range. -/
theorem test_witness_gateway_frame :
    (frame fresh.fwd.hwAddress (.network (netAddr 10 0 1 5) (netAddr 10 0 2 5) [])).dst = fresh.fwd.hwAddress ∧
      inRange (gatewayOf fresh .till) (netAddr 10 0 1 5) = true ∧ segmentOf fresh (netAddr 10 0 2 5) = some .office ∧
      policyAllows fresh (some .till) (some .office) = true ∧ segmentOf fresh (netAddr 192 0 2 1) = none ∧
      policyAllows fresh (some .till) none = true ∧ policyAllows fresh (some .till) (some .staff) = false ∧
      tillRow lane (.hello 1) = some (.hello lane 1) ∧ messageRow hdr .status = some (.status hdr) := by decide

theorem test_witness_sessions :
    getSession (hosting .active fresh) phone = some (session .active) ∧
      getSession (hosting .cooldown fresh) phone = some (session .cooldown) ∧ getSession fresh phone = none ∧
      getAddress fresh .till phone = none := by decide

theorem test_witness_guest_classified :
    Classified ((linked 1 .accessPoint fresh).fwd.ports.get 1).settings (some 20) .guest ∧
      ((linked 1 .accessPoint fresh).fwd.ports.get 1).up = true ∧
      FixedCells (linked 1 .accessPoint fresh).fwd.policy := by unfold Classified FixedCells; decide +kernel

theorem test_witness_guest_frames :
    getSession (onLine (hosting .active fresh)) phone = some (session .active) ∧ 8 * 16384 ≤ (session .active).tokens ∧
      (session .active).tokens < 8 * 16385 ∧ (session .exhausted).state ≠ .active ∧
      (onLine (inMode .trading fresh)).guest.sessions.length < 1024 ∧ uplinkFill fresh < 65536 := by decide

theorem test_witness_line_frame :
    (LineInput.mk 4609 true true .alive).length > 4608 ∧ (LineInput.mk 4608 true true .alive).length ≤ 4608 ∧
      (receiveValid (onLine fresh)).line.up = true ∧ (receiveValid fresh).line.up = false ∧
      (looped .localLoop fresh).line.loopback = .localLoop ∧ exchangeRow .exchangeOpen = some .exchangeOpen ∧
      { fresh.line with kept := [0, 1] }.kept = 0 :: 1 :: [] ∧ segmentOf fresh (netAddr 192 0 2 1) = none := by decide

theorem test_witness_loss :
    (onLine fresh).line.up = true ∧ (onLine fresh).line.loss ≠ none ∧ fresh.line.up = false ∧
      (inExchange .ready (onLine fresh)).exch.state ≠ .idle := by decide

theorem test_witness_transmitter :
    (admitFrame .guest (.data 1#32 2#32 []) fresh).guest.tokens ≥ 8 * uplinkBytes (.data 1#32 2#32 []) ∧
      classFrames (admitFrame .guest (.data 1#32 2#32 []) fresh) .guest = [.data 1#32 2#32 []] ∧
      classFrames (admitFrame .guest (.data 1#32 2#32 []) fresh) .office = [] ∧ fresh.line.aliveDue = false ∧
      fresh.line.wait = [] ∧ fresh.line.refused = [] := by decide

theorem test_witness_loopback :
    (10 : Nat) ≤ (some 10 : Option Nat).getD 300 ∧ (none : Option Nat).getD 300 ≤ 3600 ∧
      (looped .remoteLoop fresh).line.loopback = .remoteLoop ∧ (looped .remoteLoop fresh).line.loopTimer ≠ none ∧
      (qualifying fresh).line.qual ≠ none ∧ (inExchange .qualifying (qualifying fresh)).exch.state = .qualifying := by
  decide

theorem test_witness_qualification :
    (65536 : Nat) ≤ 65536 ∧ (16777216 : Nat) ≤ 16777216 ∧ (qualifying fresh).line.qual = some measuring ∧
      measuring.timer ≠ none ∧ 2 * measuring.bits < measuring.length ∧ (onLine fresh).line.qual = none := by decide

theorem test_witness_exchange_open :
    (windowed (onLine fresh)).line.up = true ∧ (windowed (onLine fresh)).line.loopback = .off ∧
      (windowed (onLine fresh)).mode.window = .opened ∧ fresh.exch.state = .idle ∧ fresh.exch.hold = none ∧
      fresh.line.result = none ∧ fresh.exch.held = [] ∧
      classBytes fresh .exchange + uplinkBytes (.exchange (.refused 1#8 .busy)) ≤ 32768 := by decide

theorem test_witness_batch :
    (inExchange .ready (onLine fresh)).exch.state = .ready ∧ 1 = (inExchange .ready (onLine fresh)).exch.last + 1 ∧
      (staging 1 0 fresh).exch.state = .receiving ∧
      (staging 1 0 fresh).exch.staging = some (Staging.mk [.exchangeClose] 1 1 1 0) ∧
      (staging 0 0 fresh).exch.staging = some (Staging.mk [.exchangeClose] 1 1 0 0) := by decide

theorem test_witness_messages :
    messageRow hdr (.read 1) = some (.read hdr 1) ∧ (3 : Nat) ≠ fresh.pins.straps.val ∧
      windowOf (viewing .tills 0 95 95 fresh) store = some (TableWindow.mk .tills 0 95 .increment 95) ∧
      (95 < tableSize .tills) ∧ ¬ (96 < tableSize .tills) ∧ windowOf fresh store = none := by decide

theorem test_witness_writes :
    recordRow (.message hdr) (.forwarder 10) = some (.agingTimeWrite (.message hdr) 10) ∧
      windowOf (viewing .ports 12 12 12 fresh) store = some (TableWindow.mk .ports 12 12 .increment 12) ∧
      windowReadOnly (TableWindow.mk .ports 12 12 .increment 12) = false ∧ recordTable (.forwarder 10) = some .ports ∧
      windowReadOnly (TableWindow.mk .policy 15 19 .increment 15) = true ∧ recordTable (.font 8) ≠ some .ports := by
  decide

/-- A WRITE of two records: the first accepted, the second refused. -/
theorem test_witness_all_written :
    AllWritten store [.forwarder 10] (viewing .ports 12 13 12 fresh)
        (setWindow store (TableWindow.mk .ports 12 13 .increment 13) (applyAgingWrite 10 (viewing .ports 12 13 12 fresh)).1) ∧
      (writeAt .ports 13 (.forwarder 10) fresh).2 = some .fieldRange ∧ ReadOnlyAt .policy 15 :=
  ⟨⟨_, _, rfl, rfl, rfl⟩, by decide, by unfold ReadOnlyAt; decide⟩

theorem test_witness_ports_and_schedule :
    (0 : Port).val < 8 ∧ 1 ≤ 4094 ∧ 9 = 8 + (segmentIndex .office).val ∧
      (netAddr 10 9 0 1).toNat % 2 ^ (32 - 24) ≠ 0 ∧ ((netAddr 10 9 0 1).toNat + 1) % 2 ^ (32 - 24) ≠ 0 ∧
      (netAddr 10 9 0 255).toNat + 1 ≡ 0 [MOD 2 ^ (32 - 24)] ∧ fresh.mgmt.collector = none ∧ 86399 ≤ 86399 ∧
      ¬ inRange (gatewayOf fresh .till) (netAddr 192 0 2 1) = true := by decide

theorem test_witness_image_and_guest_records :
    (4 : Nat) = 4 + (0 : Fin 4).val * 96 + (32 - 32) ∧ (387 : Nat) = 4 + (3 : Fin 4).val * 96 + (127 - 32) ∧
      (387 : Nat) = 4 + (383 : Fin 384).val ∧ 8 ≤ 48 ∧ 96 ≤ 96 ∧ tableSorted (hosting .active fresh).guest.sessions ∧
      getSession (hosting .active fresh) phone = some (session .active) ∧
      [RawField.mk (some .effectivePrice) 0 1 0 0 (some .deg90) 0 (some .left) (some .black)] =
        [corner].map (fun f => RawField.mk (some f.source) f.xStart f.xEnd f.yStart f.yEnd (some f.orientation)
          f.font.val (some f.alignment) (some f.plane)) := by decide

theorem test_witness_notices :
    fresh.mgmt.notices = [.keyed .settingsDefaulted .flash 1 none none none] ∧
      ({ fresh.mgmt with collector := some (netAddr 192 0 2 1) } : MgmtBlock).collector = some (netAddr 192 0 2 1) ∧
      segmentOf fresh (netAddr 192 0 2 1) = none ∧ inRange (gatewayOf fresh .office) (netAddr 10 0 2 5) = true ∧
      neighbour fresh .office (netAddr 10 0 2 5) = none ∧
      (fresh.mgmt.notices.filter entryIsKeyed).length < 64 := by decide

/-- Sixty-four keyed entries fill the queue. -/
theorem test_witness_notices_full :
    64 ≤ (((List.range 64).map (fun n => NoticeEntry.keyed .itemHeld (.item n) 1 none none none)).filter
      entryIsKeyed).length := by decide

theorem test_witness_restarts :
    fresh.mgmt.save = none ∧ fresh.mgmt.flash = none ∧ fresh.mgmt.flashSound = true ∧
      ({ fresh.mgmt with save := some (SaveInProgress.mk defaultSettings 2000) } : MgmtBlock).save ≠ none ∧
      tableSorted (labelled flying fresh).labels.table ∧ getLabel (labelled flying fresh) 9 = some flying := by decide

/-! ## Concrete states for the clauses of the widened statements -/

theorem test_witness_event_due :
    due draining = none ∧
      due { fresh with mode := { fresh.mode with drain := some 0 } } = some .drainTimerExpiry ∧
      due (handOn (Handoff.mk 5 []) fresh) = some .itemRetarget := by decide

theorem test_witness_price_in_range : PriceInRange priced loaf .nextOpen := by
  refine ⟨by decide, by decide, ?_, ?_, ⟨by decide, by decide⟩, rfl, .absent, .absent, rfl, rfl, rfl, rfl, rfl⟩ <;>
    intro x h <;> cases h

/-- A BIND of the item a label has: with its own template, and with another. -/
theorem test_witness_bind_same_item :
    (bound .current).item = some 5 ∧ (bound .current).state ≠ .inFlight ∧ (bound .current).template = some 3 ∧
      ({ bound .current with template := some 4 } : Label).template ≠ some 3 ∧
      getItem (labelled (bound .current) (stocked active (drawn fresh))) 5 = some active := by decide

/-- A glyph of 31 columns, every other one ink, in each of its 48 rows. -/
def striped : Glyph :=
  Glyph.mk 31 (List.replicate 48
    [ true, false, true, false, true, false, true, false, true, false, true, false, true, false, true, false,
      true, false, true, false, true, false, true, false, true, false, true, false, true, false, true ])
/-- A price over the whole image. -/
def covering : TemplateField := TemplateField.mk .effectivePrice 0 127 0 63 .deg0 0 .left .black
/-- The part with striped glyphs of the full height, and a template 3 that draws the price over the whole image. -/
def crowded (b : Block) : Block :=
  { b with composer := { b.composer with
    templates := b.composer.templates.set 3 (some (Template.mk .small 1 [covering]))
    fonts := Vector.replicate 4 48
    glyphs := Vector.replicate 384 striped } }

theorem test_witness_layout :
    32 ≤ 51 ∧ 51 ≤ 127 ∧ (crowded fresh).composer.glyphs.toList[96 * covering.font.val + (51 - 32)]? = some striped ∧
      fieldText fresh.price 5 (version .active .valid 1 0) .effectivePrice = [51, 46, 52, 57] ∧
      (layField (crowded fresh).composer covering [51, 46, 52, 57]).truncated = false ∧
      (layField (crowded fresh).composer { covering with xEnd := 126 } [51, 46, 52, 57]).truncated = false ∧
      (layField (crowded fresh).composer { covering with xEnd := 125 } [51, 46, 52, 57]).truncated = true ∧
      (layField (crowded fresh).composer { covering with yEnd := 46 } [51]).truncated = true := by decide +kernel

theorem test_witness_line_pixel :
    [striped, striped][0]? = some striped ∧ 30 < striped.width ∧ 0 + 1 < [striped, striped].length ∧
      linePixel [striped, striped] 0 30 = true ∧ linePixel [striped, striped] 0 31 = false := by decide

theorem test_witness_region : 0 ≤ 127 ∧ 8191 < (127 - 0 + 1) * (63 - 0 + 1) ∧ ¬ 8192 < (127 - 0 + 1) * (63 - 0 + 1) := by
  decide

/-- The part with the item that `steady` shows, its label in the current-style set. -/
def styled (b : Block) : Block := { b with composer := { b.composer with style := [9] } }

/-- A label in its queue. -/
def queued (l : Label) : Label := { l with queued := some (QueuePlace.mk .urgent 0) }
/-- A walk that reaches label 9 with a budget left. -/
def walking (n : Nat) (l : Label) : Walk := Walk.mk (labelled l (drawn (stocked active fresh))) n []

/-- Labels whose window closes: with a next binding, by a report of the in-flight, the confirmed and another tag. -/
theorem test_witness_outcomes :
    flying.state = .inFlight ∧ flying.state ≠ .failed ∧
      ({ flying with next := some .unbind } : Label).next = some .unbind ∧
      ({ flying with next := some (.bind 5 3) } : Label).next = some (.bind 5 3) ∧
      (drawn fresh).composer.templates.get 3 = some plain ∧ plain.cls = flying.cls ∧
      flying.inFlight.map (fun f => f.ref.tag) = some 1 ∧ confirmedTag flying = 0 ∧
      (waiting .query (some (.report 1)) (labelled flying fresh)).radio.taken = some (.report 1) ∧
      ({ flying with state := .failed } : Label).oversize = false ∧
      fresh.radio.settings.retryLimit = 4 ∧ min (({ flying with retry := 3 } : Label).retry + 1) 8 = 4 := by decide

/-- A FAILED label with the oversize flag whose target has come, a label LOST and heard again, and a line that comes UP with
a sender waiting. -/
theorem test_witness_returns :
    (boundLabels (stocked { active with bound := [9] } (labelled (bound .current) fresh)) 5).Nodup ∧
      targetOf (stocked active fresh) { bound .failed with oversize := true } = some (.version 5 0 1) ∧
      ({ bound .failed with oversize := true } : Label).target = none ∧
      noticesHeard 20 9 { blank with present := false, candidate := some 4 } none [] ≠ [] ∧
      noticesHeard 21 9 { blank with present := false, candidate := some 4 } none [] = [] ∧
      confirmedTag blank ≠ 1 ∧ blank.item = none ∧ blank.inFlight = none ∧
      ({ fresh.line with kept := [0, 1], refused := [.engine] } : LineBlock).wait = [] ∧
      uplinkBytes (.exchange (.refused 1#8 .busy)) ≤ 4608 ∧ 4608 < uplinkBytes (.exchange (.batchResult
        (BatchResult.mk 1 0 (List.replicate 1534 (1, .notFound))))) ∧
      (5 * 4 + 3 : Fin 25).val = 5 * policyPlace none + policyPlace (some .guest) ∧
      (gatewayOf fresh .guest).prefixLength ≤ 32 := by decide +kernel

/-- Till frames of the kinds 0 to 4, one of them without a kind byte, and messages for this station and another. -/
theorem test_witness_service_frames :
    Classified ((linked 1 .office fresh).fwd.ports.get 1).settings none .office ∧
      (ServiceContent.mk (.malformed 3 7) (MgmtMessage.mk 0 7 .malformed)).till = .malformed 3 7 ∧
      tillRow lane (.malformed 3 7) = none ∧ tillRow lane (.unknownKind 4 7) = none ∧
      tillFrameOf [4#8, 7#8, 0#8, 0#8] = .unknownKind 4 7 ∧ tillFrameOf [] = .empty ∧
      messageRow hdr .malformed = none ∧ hdr.station = fresh.pins.straps.val ∧
      (MgmtMessage.mk 3 7 .status).station ≠ fresh.pins.straps.val := by unfold Classified; decide +kernel

/-- The part some milliseconds on. -/
def later (n : Nat) (b : Block) : Block := { b with time := { b.time with now := n } }

/-- A session of the default profile and an address entry, at each limit and a millisecond before it. -/
theorem test_witness_limits :
    fresh.guest.profile.timeLimit * 1000 ≤ (later 3600000 fresh).time.now - (session .active).start ∧
      (later 3599999 fresh).time.now - (session .active).start < fresh.guest.profile.timeLimit * 1000 ∧
      fresh.guest.profile.idleLimit * 1000 ≤ (later 600000 fresh).time.now - (session .active).lastTraffic ∧
      (later 599999 fresh).time.now - (session .active).lastTraffic < fresh.guest.profile.idleLimit * 1000 ∧
      fresh.guest.profile.cooldown * 1000 ≤ (later 1800000 fresh).time.now - 0 ∧
      (later 1799999 fresh).time.now - 0 < fresh.guest.profile.cooldown * 1000 ∧
      (session .cooldown).cooldownStart = some 0 ∧
      fresh.fwd.aging * 1000 ≤ (later 300000 fresh).time.now - (AddressEntry.mk 1 none 0).heardAt ∧
      (later 299999 fresh).time.now - (AddressEntry.mk 1 none 0).heardAt < fresh.fwd.aging * 1000 := by decide

/-- Frames of the line that a running qualification, the exchange engine and the policy's UPLINK row see. -/
theorem test_witness_line_routes :
    (receiveValid (onLine (qualifying fresh))).line.qual = some measuring ∧ (List.replicate 256 true).length = 256 ∧
      (1 ≤ (4#8 : Byte).toNat ∧ (4#8 : Byte).toNat ≤ 4) ∧ ¬ (5#8 : Byte).toNat ≤ 4 ∧
      inRange (gatewayOf fresh .office) (netAddr 10 0 2 5) = true ∧ segmentOf fresh (netAddr 198 51 100 7) = none ∧
      policyAllows fresh none (some .guest) = true ∧
      policyAllows { fresh with fwd := { fresh.fwd with policy := fresh.fwd.policy.set 20 false } } none (some .till) = false ∧
      neighbour fresh .guest (netAddr 10 64 0 9) = none := by decide +kernel

/-- Frames on their way back in LOCAL, the line UP. -/
theorem test_witness_returned :
    (receiveValid (onLine (looped .localLoop (qualifying fresh)))).line.up = true ∧
      (receiveValid (looped .localLoop fresh)).line.up = false ∧
      (receiveValid (onLine (looped .localLoop fresh))).line.qual = none ∧ ([] : List Byte).length ≤ 4600 := by decide

/-- The part with a frame at the head of EXCHANGE, one that waits, and the two senders signalled in turn. -/
def refusing (x : List ExchangeSender) (b : Block) : Block :=
  admitFrame .exchange .testLoop
    { b with line := { b.line with wait := [.exchange (.refused 1#8 .busy)], refused := x } }

theorem test_witness_exchange_leaves :
    classFrames (refusing [.pattern, .engine] (onLine (qualifying fresh))) .exchange = [.testLoop] ∧
      (∀ d, classIndex d < classIndex .exchange →
        classFrames (refusing [.pattern, .engine] (onLine (qualifying fresh))) d = []) ∧
      (refusing [.pattern] (onLine (qualifying fresh))).line.up = true ∧
      (refusing [.pattern] (onLine (qualifying fresh))).line.aliveDue = false ∧
      ExchangeSender.engine ∉ (refusing [.pattern] fresh).line.refused ∧
      ExchangeSender.pattern ∉ (refusing [.engine] fresh).line.refused ∧
      (refusing [.pattern] (onLine (qualifying fresh))).line.qual = some measuring ∧
      measuring.nextOffer ≤ (measuring.length + 255) / 256 + 1 := by
  refine ⟨by decide, ?_, by decide, by decide, by decide, by decide, by decide, by decide⟩
  intro d
  cases d <;> decide

/-- The bits that R169's rule gives: 15 ones, and then each the sum of the bits 15 and 14 before it. -/
theorem test_witness_pattern :
    (List.range 40).map (fun k => (patternBits 0 0).getD k false) =
      List.replicate 15 true ++ List.replicate 14 false ++ [true] ++ List.replicate 10 false := by decide +kernel

/-- Echoes older than expected, expected and last; bits in search, at the 32nd correct one, and in sync. -/
theorem test_witness_examiner :
    ¬ (0 : Nat) < measuring.expected ∧ (0 : Nat) < ({ measuring with expected := 1 } : Qualification).expected ∧
      255 + 1 = (measuring.length + 255) / 256 ∧ 254 + 1 ≠ (measuring.length + 255) / 256 ∧
      (List.replicate 14 true).length < 15 ∧ 15 ≤ (List.replicate 15 true).length ∧ (31 : Nat) + 1 = 32 ∧
      (true ≠ (true != true)) ∧ false = (true != true) ∧
      (List.replicate 5 true ++ List.replicate 59 false).count true = 5 := by decide

theorem test_witness_staged :
    (applyStaged (.time (some 4294967295)) fresh).2 = none ∧
      (applyStaged (.time (some 4294967296)) fresh).2 = some .fieldRange ∧
      (applyStaged .unknown fresh).2 = some .unknownKind ∧ (applyStaged (.label 9 (some .small)) fresh).2 = none := by
  decide

/-- The sorted tables that a READ goes through, and positions past their last record. -/
theorem test_witness_reads :
    tableSorted (stocked active fresh).items.table ∧ getItem (stocked active fresh) 5 = some active ∧
      (stocked active fresh).items.table.countP (fun p => decide (p.1 < 5)) = 0 ∧
      (stocked active fresh).items.table.length ≤ 1 ∧ countersFrom0[51]? = some (.discarded .guest) ∧
      countersFrom0[52]? = none ∧ countersFrom55[5]? = some .mgmtIgnored ∧ fresh.line.result = none ∧
      (hosting .cooldown fresh).guest.sessions.countP (fun p => decide (p.1 < phone.toNat)) = 0 := by decide

/-- The part with a WRITE of two records whose first one stands. -/
def halfWritten : Block :=
  { viewing .ports 12 12 12 fresh with
    mgmt := { (viewing .ports 12 12 12 fresh).mgmt with writes := [WriteProgress.mk hdr 2 1] } }

theorem test_witness_parts :
    recordRow (.part hdr 2 2) (.forwarder 10) = some (.agingTimeWrite (.part hdr 2 2) 10) ∧
      WriteProgress.mk hdr 2 (2 - 1) ∈ halfWritten.mgmt.writes ∧ WriteProgress.mk hdr 3 (2 - 1) ∉ halfWritten.mgmt.writes ∧
      windowOf halfWritten store = some (TableWindow.mk .ports 12 12 .increment 12) ∧
      (writeAt .ports 12 (.forwarder 9) fresh).2 = some .fieldRange ∧
      (writeAt .ports 12 (.forwarder 10) fresh).2 = none ∧ ¬ 64 < 64 := by decide

/-! ## Single steps -/

/-- The part after one command. -/
def run (c : Instr) (b : Block) : Block :=
  match exec c (st b) with
  | .next t => t.block
  | _ => b

/-- R2: OPEN in CLOSED makes the mode TRADING. -/
theorem test_open : (run (.openCmd hdr) fresh).mode.mode = .trading := by decide +kernel
/-- R3, R8: CLOSE loads the drain timer with the default 900 s. -/
theorem test_close : (run (.closeCmd hdr) (inMode .trading fresh)).mode.drain = some 900000 := by decide +kernel
/-- R5: the drain timer's expiry makes the mode CLOSED. -/
theorem test_drain : (run .drainTimerExpiry draining).mode.mode = .closed := by decide +kernel
/-- R9: the clock stops at its end. -/
theorem test_clock_stops : (run .clockAdvance (clocked 4294967295)).mode.clock = some 4294967295 := by decide +kernel
/-- R184: a message for another station is counted and not answered. -/
theorem test_other_station :
    counterValue (run (.openCmd (MgmtHeader.mk store 3 0)) fresh) .mgmtIgnored = 1 ∧
      (run (.openCmd (MgmtHeader.mk store 3 0)) fresh).out = [] := by decide +kernel
/-- R35, R40, R44: a first PRICE gives version 1, PENDING in slot 0, and hands the item on. -/
theorem test_price :
    ((getItem (run (.price (.event 0) priced) fresh) 5).bind (fun i => slotOf i 0)).map Version.number = some 1 ∧
      (run (.price (.event 0) priced) fresh).items.pending = [5] ∧
      (run (.price (.event 0) priced) fresh).labels.handoffs = [Handoff.mk 5 []] := by decide +kernel
/-- R48: OPEN makes a VALID pending version ACTIVE. -/
theorem test_activation :
    ((getItem (run (.openCmd hdr) (joinPending 5 (stocked pending fresh))) 5).bind (fun i => slotOf i 0)).map Version.role
      = some .active := by decide +kernel
/-- R47: WITHDRAW removes an item without labels. -/
theorem test_withdraw : getItem (run (.withdraw (.event 0) 5) (stocked active fresh)) 5 = none := by decide +kernel
/-- R54: LABEL enters an UNBOUND label. -/
theorem test_label :
    (getLabel (run (.label (.event 0) 9 (some .small)) fresh) 9).map Label.state = some .unbound := by decide +kernel
/-- R60, R58: BIND to an item with an ACTIVE version makes a label STALE and URGENT. -/
theorem test_bind :
    ((getLabel (run (.bind (.event 0) 9 5 3) (labelled blank (stocked active (drawn fresh)))) 9).bind
      Label.queued).map QueuePlace.cls = some .urgent := by decide +kernel
/-- R90: the first beacon after a restart opens slot 0 of cycle 0. -/
theorem test_beacon : (run .beacon fresh).out = [.beacon 0 0 0] := by decide +kernel
/-- R111: HELLO registers a till. -/
theorem test_hello : ((run (.hello lane 96) fresh).till.records.get 95).state = .active := by decide +kernel
/-- R116, R119: a SALE_RECORD of one line makes journal entry 1; an item not in the table leaves it UNVERIFIED. -/
theorem test_sale :
    (run (.saleRecord lane 1 1 0 [line]) (registered .active none fresh)).till.journal =
      [JournalEntry.mk 1 1 1 0 .sale 5 1 349 1 (EntryFlags.mk false false true)] := by decide +kernel
/-- R122: an acknowledgement of the SENT entry removes it and stops the timer. -/
theorem test_ack :
    (run (.journalAck 1) (onLine journalled)).till.journal = [entry 2] ∧
      (run (.journalAck 1) (onLine journalled)).till.ackTimer = none := by decide +kernel
/-- R130: a tagged frame at a TILL port is discarded and counted. -/
theorem test_tag :
    counterValue (run (.lanFrame 1 { frame 1#48 (.other []) with tag := some 10 }) (linked 1 .till fresh)) .tagMismatch
      = 1 := by decide +kernel
/-- R152: END_GUEST removes the session. -/
theorem test_end_guest : getSession (run (.endGuest hdr phone) (hosting .active fresh)) phone = none := by decide +kernel
/-- R156: the governor rises by one while the queue is nearly empty. -/
theorem test_governor : (run .governorReading fresh).guest.level = 5 := by decide +kernel
/-- R161: a frame is counted while the line is DOWN and does not reach its service. -/
theorem test_line_down :
    counterValue (run (.lineFrame (.fromLine (LineInput.mk 0 true true .alive))) fresh) .receivedWhileDown = 1 := by decide +kernel
/-- R161: the loss timer takes the line DOWN. -/
theorem test_loss : (run .lossTimerExpiry (onLine fresh)).line.up = false := by decide +kernel
/-- R165: TRANSMIT_START sends the head of the first class that holds a frame. -/
theorem test_transmit :
    (run .transmitStart (admitFrame .office (.data 1#32 2#32 []) fresh)).out = [.line (.queued (.data 1#32 2#32 []))] := by decide +kernel
/-- R175: EXCHANGE_OPEN with the window SHUT is refused with WINDOW_CLOSED. -/
theorem test_exchange_shut :
    classFrames (run .exchangeOpen (onLine fresh)) .exchange = [.exchange (.refused 1#8 .windowClosed)] := by decide +kernel
/-- R180: a batch whose count differs is rejected; one that agrees commits, and EXCHANGE_CLOSE returns to IDLE. -/
theorem test_batch_end :
    (run (.batchEnd 0) (staging 0 0 (onLine fresh))).exch.last = 0 ∧
      (run (.batchEnd 0) (staging 1 0 (onLine fresh))).exch.last = 1 ∧
      (run (.batchEnd 0) (staging 1 0 (onLine fresh))).exch.state = .idle := by decide +kernel
/-- R185: a WINDOW that decrements starts at its last position. -/
theorem test_window :
    windowOf (run (.window hdr (some .items) 3 9 (some .decrement)) fresh) store =
      some (TableWindow.mk .items 3 9 .decrement 9) := by decide +kernel
/-- R140, R186: a WRITE of a fixed cell is refused, and the cell stays as it was. -/
theorem test_fixed_cell : (run (.policyCellWrite (.event 15) (some true)) fresh).fwd.policy[15] = false := by decide +kernel
/-- R186: the cursor of a WRITE wraps past its window's last position. -/
theorem test_write_wraps :
    windowOf (run (.agingTimeWrite (.message hdr) 10) (viewing .ports 12 12 12 fresh)) store =
      some (TableWindow.mk .ports 12 12 .increment 12) ∧
      (run (.agingTimeWrite (.message hdr) 10) (viewing .ports 12 12 12 fresh)).fwd.aging = 10 := by decide +kernel
/-- The part after a save of an aging time of 77 s. -/
def saved : Block := run .saveComplete (run (.saveSettings hdr) { fresh with fwd := { fresh.fwd with aging := 77 } })
/-- R190: a cold restart loads the VALID image when it passes its check, and sets the default when it does not. -/
theorem test_save_and_restart :
    (Config.imagePasses saved.mgmt.checks = true → (run .powerUp saved).fwd.aging = 77) ∧
      (Config.imagePasses saved.mgmt.checks = false → (run .powerUp saved).fwd.aging = 300) := by
  constructor <;> intro h <;> show (coldRestart saved).fwd.aging = _ <;>
    simp only [coldRestart, goodImage, imagePasses, h, Bool.and_true, Bool.and_false] <;> decide +kernel
/-- R7: a warm restart in CLOSING leaves the store CLOSED. -/
theorem test_warm : (run (.warmRestart hdr) draining).mode.mode = .closed := by decide +kernel

/-! ## A state that meets every invariant, not the reset state -/

/-- A part in TRADING with an item, a STALE label, a session, two journal entries and a frame in the OFFICE class. -/
def lively : Block :=
  admitFrame .office (.data 1#32 2#32 [])
    (labelled { bound .stale with queued := some (QueuePlace.mk .urgent 0) }
      (stocked active (hosting .active (inMode .trading journalled))))

theorem test_witness_lively_steps : ∃ t, step (State.mk lively [.linkUp 0]) = .next t := ⟨_, rfl⟩

theorem test_witness_uplink_limits : UplinkLimits lively :=
  ⟨by intro c; cases c <;> decide, by decide, by decide⟩

theorem test_witness_guest_rules : GuestRules lively := by unfold GuestRules; decide

theorem test_witness_journal_rules : JournalRules lively := by
  refine ⟨by decide, by decide, by decide, by decide, by decide, ?_⟩
  intro i e h
  have hj : lively.till.journal = [entry 1, entry 2] := rfl
  rw [hj] at h
  rcases i with _ | _ | i
  · cases h; decide
  · cases h; decide
  · simp at h

theorem test_witness_policy_fixed : PolicyFixed lively := by
  refine ⟨by unfold FixedCells; decide, ?_, ?_⟩ <;> intro x h <;> cases h

theorem test_witness_tables_kept : TablesKept lively := by unfold TablesKept; decide

theorem test_witness_label_states : LabelStates lively := by unfold LabelStates; decide

/-- A part whose one label is IN_FLIGHT with the one version of its item, and confirmed on it before. -/
def referenced : Block :=
  labelled { flying with confirmed := some { shown with tag := 2 } }
    (stocked { active with slots := #v[some (version .active .valid 1 2), none, none, none], bound := [9] } fresh)

theorem test_witness_references : LabelStates referenced ∧ References referenced := by
  unfold LabelStates References; decide +kernel

/-- A notice queue with two keyed entries and an OVERFLOW entry. -/
def noticed : Block :=
  { fresh with mgmt := { fresh.mgmt with notices :=
      [.keyed .itemHeld (.item 5) 2 none none none, .overflow 3, .keyed .uplinkUp .line 1 none none none] } }

theorem test_witness_notice_rules : NoticeRules noticed := by
  refine ⟨by decide, by decide, by decide, ?_⟩
  simp only [noticed, List.pairwise_cons, List.mem_cons, List.not_mem_nil, or_false]
  refine ⟨?_, ?_, by simp, List.Pairwise.nil⟩
  · rintro y (rfl | rfl) kind subject hk
    · rfl
    · simp only [entryHasKey, Bool.and_eq_true, decide_eq_true_eq] at hk
      rw [← hk.1]
      rfl
  · rintro y rfl kind subject hk
    cases hk

theorem test_witness_item_rules : ItemRules lively := by
  have hg : ∀ c, getItem lively c = if 5 = c then some active else none := fun c => rfl
  have hs : ∀ (k : Slot) (v : Version), slotOf active k = some v → k = 0 ∧ v = version .active .valid 1 0 := by
    intro k v h
    fin_cases k
    · cases h; exact ⟨rfl, rfl⟩
    · cases h
    · cases h
    · cases h
  refine ⟨?_, by decide, ?_⟩
  · intro c i h
    rw [hg] at h
    split at h
    · cases h
      refine ⟨test_witness_one_of_each.1, ?_, ?_⟩
      · intro k l v w hk hl _
        rw [(hs k v hk).1, (hs l w hl).1]
      · intro k v hk
        rw [(hs k v hk).2]
        exact ⟨rfl, by intro h; cases h⟩
    · cases h
  · intro c
    constructor
    · intro h; exact absurd h (by show c ∉ []; simp)
    · rintro ⟨i, k, v, h1, h2, h3⟩
      rw [hg] at h1
      split at h1
      · cases h1
        rw [(hs k v h2).2] at h3
        cases h3
      · cases h1

/-! ## Wire formats (R192) -/

/-- R192: label id 1036 is 0000040Ch; kind FULL is 1; tags 8 and 0; 3 fragments. -/
theorem test_wire_announce : announceBytes 1036 .full 8 0 3 = [0#8, 0#8, 4#8, 12#8, 1#8, 8#8, 0#8, 3#8] := by decide

/-- R192: PRICE_QUERY of till 5 with an 8-byte item code, most significant byte first. -/
theorem test_wire_price_query :
    tillFrameOf [2#8, 5#8, 0#8, 8#8, 0#8, 0#8, 0#8, 0#8, 0#8, 0#8, 1#8, 2#8] = .priceQuery 5 258 := by decide

/-- R192: a length field that disagrees with the frame is out of range. -/
theorem test_wire_price_query_length :
    tillFrameOf [2#8, 5#8, 0#8, 7#8, 0#8, 0#8, 0#8, 0#8, 0#8, 0#8, 1#8, 2#8] = .malformed 2 5 := by decide

/-- R192: a till frame of no byte, and one that ends before its till number, are shorter than their format. -/
theorem test_wire_till_short : tillFrameOf [] = .empty ∧ tillFrameOf [2#8] = .malformed 2 0 := by decide

/-- R192: a message that ends before its tag is out of range; its station is its first byte. -/
theorem test_wire_message_short :
    mgmtMessageOf [3#8, 5#8, 1#8] = MgmtMessage.mk 3 256 .malformed ∧ mgmtMessageOf [] = MgmtMessage.mk 0 0 .malformed := by
  decide +kernel

/-- R192: a quantity of -1 is FFFFh. -/
theorem test_wire_signed : signedValue [255#8, 255#8] = -1 := by decide

/-- R192: BATCH_START carries n in four bytes and k in two. -/
theorem test_wire_batch_start :
    lineContentOf 3 [2#8, 0#8, 0#8, 1#8, 0#8, 0#8, 5#8] = .exchange (.batchStart 256 5) := by rfl

/-- R192: an EXCHANGE content of no byte is an exchange frame shorter than its format, refused with FIELD_RANGE. -/
theorem test_wire_exchange_empty :
    lineContentOf 3 [] = .exchange .empty ∧
      classFrames (takeExchange .empty (onLine fresh)) .exchange = [.exchange (.refused 0#8 .fieldRange)] := by
  exact ⟨rfl, by decide +kernel⟩

/-- R179, R192: an EXCHANGE_RECORDS frame of one record; its length field is no part of the record's bytes. -/
theorem test_wire_exchange_records :
    (exchangeRecordsOf 1 [7#8, 0#8, 2#8, 10#8, 20#8]).map (List.map ExchangeRecord.bytes) =
      some [[7#8, 10#8, 20#8]] := by decide +kernel

/-- R192: a JOURNAL_ACK carries an entry number of four bytes. -/
theorem test_wire_journal_ack : lineContentOf 5 [0#8, 0#8, 1#8, 1#8] = .journalAck 257 := by rfl

/-- R192: BATCH_REJECTED by CHECK. -/
theorem test_wire_batch_rejected :
    exchangeReplyWire (.batchRejected 3 false) = [11#8, 0#8, 0#8, 0#8, 3#8, 2#8] := by decide

/-! ## Images, whose pixels the kernel counts -/

theorem test_witness_composition : (compose fresh 9 blank .blank).isSome = true := by decide +kernel

theorem test_witness_full_fits :
    fragmentCount (composeFull (boundTemplate fresh blank).cls (boundTemplate fresh blank).planes
      (layTemplate fresh (boundTemplate fresh blank) 5 none)) ≤ 96 := by decide +kernel

/-- A PARTIAL of no window, whose coded update fits, and a FULL that fits. -/
theorem test_witness_update :
    namedVersion (styled (drawn (stocked active fresh))) 5 0 1 = some (version .active .valid 1 0) ∧
      steady.displayKnown = true ∧ steady.inFlight = none ∧ steady.marks = Marks.mk false false false ∧
      9 ∈ (styled (drawn (stocked active fresh))).composer.style ∧ steady.confirmed = some shown ∧
      shown.what = .version 5 0 1 3 ∧
      (compose (styled (drawn (stocked active fresh))) 9 steady (.version 5 0 1)).map Composed.kind = some .partialUpdate ∧
      (compose (drawn (stocked active fresh)) 9 steady (.version 5 0 1)).map Composed.kind = some .full := by decide +kernel

/-- The labels that a walk reaches: UNCERTAIN, declined, STALE with an update of two units, which a budget of 1 does not hold,
with a fresh tag and with one that the confirmed reference holds. -/
theorem test_witness_walk :
    tableSorted (walking 1 (queued steady)).block.labels.table ∧
      wakeQueue (walking 1 (queued steady)).block 9 = [9] ∧ (walking 1 (queued steady)).remaining ≠ 0 ∧
      (walking 1 (queued steady)).plan.length < 16 ∧
      getLabel (walking 1 (queued { flying with state := .uncertain })).block 9 =
        some (queued { flying with state := .uncertain }) ∧
      targetOf (walking 1 (queued steady)).block (queued steady) = (queued steady).target ∧
      targetOf (walking 1 (queued steady)).block (queued { steady with target := none }) ≠ none ∧
      (if 255 ≤ steady.lastTag then 1 else steady.lastTag + 1) = confirmedTag steady ∧
      (if 255 ≤ 255 then 1 else 255 + 1) = confirmedTag steady ∧
      (compose (walking 1 steady).block 9 steady (.version 5 0 1)).map fragmentCount = some 2 := by decide +kernel

/-- The crowded template's field, laid out, and its runs over the whole image: more than 6,144 bytes. -/
theorem test_witness_oversize :
    layField (crowded fresh).composer covering [51, 46, 52, 57] =
        LaidField.mk covering [striped, striped, striped, striped] 0 127 48 false ∧
      6144 < 8 + (codeRuns (regionPixels [LaidField.mk covering [striped, striped, striped, striped] 0 127 48 false]
        .black 0 127 0 63)).length := by decide +kernel

end Sys2Proof.Tests
end

namespace Sys2Proof.Machine

/-! # The guest rules are kept by every step -/

section GuestRulesKept

variable {b c : Block}

/-! ## What the guest rules rest on -/

/-- Every part but the two the guest rules speak of, the mode controller and the guest service. -/
def quietParts : List Part :=
  [.price, .items, .labels, .composer, .radio, .till, .fwd, .line, .exch, .mgmt, .counts, .time, .pins, .out]

/-- An effect on other parts keeps the guest rules. -/
theorem GuestRules.of_quiet (h : GuestRules b) (t : Touches quietParts b c) : GuestRules c := by
  have hm : b.mode = c.mode := t .mode (by decide)
  have hg : b.guest = c.guest := t .guest (by decide)
  unfold GuestRules at *
  rwa [← hm, ← hg]

/-- A change of the mode controller keeps the guest rules when the drain timer runs exactly in CLOSING and the store was
CLOSED before if it is now. -/
theorem GuestRules.of_mode (h : GuestRules b) (hg : c.guest = b.guest)
    (hd : c.mode.drain.isSome = true ↔ c.mode.mode = .closing) (hc : c.mode.mode = .closed → b.mode.mode = .closed) :
    GuestRules c := by
  obtain ⟨-, hclosed, hrest⟩ := h
  refine ⟨hd, ?_⟩
  rw [hg]
  exact ⟨fun e => hclosed (hc e), hrest⟩

/-- Fewer sessions, and no more tokens in the aggregate bucket. -/
theorem GuestRules.of_fewer (h : GuestRules b) (hm : c.mode = b.mode)
    (hs : c.guest.sessions.Sublist b.guest.sessions) (hl : c.guest.level = b.guest.level)
    (ht : c.guest.tokens ≤ b.guest.tokens) : GuestRules c := by
  obtain ⟨hdrain, hclosed, hsorted, hroom, hlow, hhigh, htok, hbuckets⟩ := h
  refine ⟨hm ▸ hdrain, fun e => ?_, hsorted.sublist (hs.map Prod.fst), hs.length_le.trans hroom, hl ▸ hlow, hl ▸ hhigh,
    ht.trans htok, fun p hp => hbuckets p (hs.subset hp)⟩
  have := hclosed (hm ▸ e)
  exact List.sublist_nil.1 (this ▸ hs)

/-! ## Sessions -/

/-- A record of a table with `v` put under `k` is that one, or one of the table. -/
theorem mem_tableInsert {α : Type} {t : Table α} {k : Nat} {v : α} {p : Nat × α} (h : p ∈ tableInsert t k v) :
    p = (k, v) ∨ p ∈ t := by
  induction t with
  | nil => simpa [tableInsert] using h
  | cons q rest ih =>
    obtain ⟨j, w⟩ := q
    simp only [tableInsert] at h
    split at h
    · simpa using h
    · split at h
      · rcases List.mem_cons.1 h with e | e
        · exact Or.inl e
        · exact Or.inr (List.mem_cons_of_mem _ e)
      · rcases List.mem_cons.1 h with e | e
        · exact Or.inr (e ▸ List.mem_cons_self)
        · exact (ih e).imp id (List.mem_cons_of_mem _)

/-- Where a session stands the store is not CLOSED. -/
theorem GuestRules.not_closed_of_session (h : GuestRules b) {hw : HwAddr} {x : Session} (hx : getSession b hw = some x) :
    b.mode.mode ≠ .closed := by
  obtain ⟨-, hclosed, -⟩ := h
  intro e
  simp [getSession, hclosed e] at hx

/-- A session found holds no more than its depth. -/
theorem GuestRules.session_tokens (h : GuestRules b) {hw : HwAddr} {x : Session} (hx : getSession b hw = some x) :
    x.tokens ≤ Config.sessionDepth := by
  obtain ⟨-, -, -, -, -, -, -, hbuckets⟩ := h
  exact hbuckets _ (mem_of_tableFind hx)

/-- A session written in place of one, or into a table with room, while the store is not CLOSED. -/
theorem GuestRules.putSession (h : GuestRules b) {hw : HwAddr} {x : Session} (hx : x.tokens ≤ Config.sessionDepth)
    (ho : b.mode.mode ≠ .closed) (hr : (getSession b hw).isSome = true ∨ b.guest.sessions.length < Config.maxSessions) :
    GuestRules (putSession hw x b) := by
  obtain ⟨hdrain, hclosed, hsorted, hroom, hlow, hhigh, htok, hbuckets⟩ := h
  refine ⟨hdrain, fun e => absurd e ho, tableSorted_insert _ _ hsorted, ?_, hlow, hhigh, htok, fun p hp => ?_⟩
  · rw [putSession_guest, length_tableInsert _ _ hsorted]
    split
    · exact hroom
    · next hn => exact (hr.resolve_left hn)
  · rcases mem_tableInsert hp with e | e
    · rw [e]; exact hx
    · exact hbuckets p e

/-- A session rewritten with no more tokens. -/
theorem GuestRules.rewriteSession (h : GuestRules b) {hw : HwAddr} {x y : Session} (hx : getSession b hw = some x)
    (hy : y.tokens ≤ x.tokens) : GuestRules (Machine.putSession hw y b) :=
  h.putSession (hy.trans (h.session_tokens hx)) (h.not_closed_of_session hx) (Or.inl (by simp [hx]))

theorem GuestRules.removeSession (h : GuestRules b) (hw : HwAddr) : GuestRules (removeSession hw b) :=
  h.of_fewer rfl List.filter_sublist rfl le_rfl

theorem GuestRules.dropSessions (h : GuestRules b) : GuestRules (dropSessions b) :=
  h.of_fewer rfl (List.nil_sublist _) rfl le_rfl

/-! ## Guest frames (R146 to R148) -/

theorem GuestRules.bump (h : GuestRules b) (k : Counter) : GuestRules (bump k b) :=
  h.of_quiet (Touches.bump k (.refl _ _) (by decide))

theorem GuestRules.offer (h : GuestRules b) (k : UplinkClass) (f : UplinkContent) : GuestRules (offer k f b) :=
  h.of_quiet (Touches.offer k f (.refl _ _) (by decide) (by decide))

theorem GuestRules.guestToLine (h : GuestRules b) {hw : HwAddr} {x : Session} (hx : getSession b hw = some x)
    (src dst : NetAddr) (content : List Byte) : GuestRules (guestToLine hw src dst content x b) := by
  unfold Machine.guestToLine
  split
  · exact (h.rewriteSession hx (Nat.sub_le _ _)).offer _ _
  · exact h.bump _
  · exact h.bump _
  · exact h.bump _

theorem GuestRules.noteGuestFull (h : GuestRules b) : GuestRules (noteGuestFull b) := by
  unfold Machine.noteGuestFull
  split
  · exact h
  · have hfull : GuestRules { b with guest := { b.guest with full := true } } :=
      h.of_fewer rfl (List.Sublist.refl _) rfl le_rfl
    exact hfull.of_quiet (Touches.notice _ _ (.refl _ _) (by decide))

theorem GuestRules.requestAdmission (h : GuestRules b) (hw : HwAddr) (src dst : NetAddr) (content : List Byte) :
    GuestRules (requestAdmission hw src dst content b) := by
  unfold Machine.requestAdmission
  split
  · next ht =>
    split
    · next hroom =>
      have hput : GuestRules (Machine.putSession hw (newSession b.time.now) b) :=
        h.putSession le_rfl (by simp [ht.1]) (Or.inr hroom)
      exact (hput.bump .guestAdmitted).guestToLine (getSession_putSession_self b hw _) _ _ _
    · exact (h.bump _).noteGuestFull
  · exact h.bump _

theorem GuestRules.guestUplink (h : GuestRules b) (hw : HwAddr) (src dst : NetAddr) (content : List Byte) :
    GuestRules (guestUplink hw src dst content b) := by
  unfold Machine.guestUplink
  split
  · next x hx => exact h.guestToLine hx _ _ _
  · exact h.requestAdmission _ _ _ _

theorem GuestRules.guestDownlink (h : GuestRules b) (hw : HwAddr) (content : List Byte) :
    GuestRules (guestDownlink hw content b).1 := by
  unfold Machine.guestDownlink
  split
  · exact h.bump _
  · next x hx =>
    split
    · exact h.rewriteSession hx (Nat.sub_le _ _)
    · exact h.bump _
    · exact h.bump _
    · exact h.bump _

/-! ## Limits, the profile, the governor and the buckets (R144, R149, R150, R152, R155, R156) -/

theorem GuestRules.reachTimeLimit (h : GuestRules b) {hw : HwAddr} {x : Session} (hx : getSession b hw = some x) :
    GuestRules (reachTimeLimit hw x b) := by
  unfold Machine.reachTimeLimit
  split
  · exact h.removeSession hw
  · exact h.rewriteSession hx le_rfl

theorem GuestRules.timeLimitExpiry (h : GuestRules b) (hw : HwAddr) : GuestRules (timeLimitExpiry hw b) := by
  unfold Machine.timeLimitExpiry
  split
  · exact h
  · next x hx =>
    split
    · split
      · exact h.reachTimeLimit hx
      · exact h
    · split
      · exact h.reachTimeLimit hx
      · exact h
    · exact h

theorem GuestRules.idleLimitExpiry (h : GuestRules b) (hw : HwAddr) : GuestRules (idleLimitExpiry hw b) := by
  unfold Machine.idleLimitExpiry
  split
  · exact h
  · split
    · split
      · exact h.removeSession hw
      · exact h
    · exact h
    · exact h

theorem GuestRules.cooldownEnd (h : GuestRules b) (hw : HwAddr) : GuestRules (cooldownEnd hw b) := by
  unfold Machine.cooldownEnd
  split
  · exact h
  · split
    · exact h
    · exact h
    · split
      · exact h.removeSession hw
      · exact h

theorem GuestRules.applyEndGuest (h : GuestRules b) (hw : HwAddr) : GuestRules (applyEndGuest hw b).1 := by
  unfold Machine.applyEndGuest
  split
  · exact h
  · exact h.removeSession hw

/-- A profile leaves a session's bucket as it is. -/
theorem sessionUnder_tokens {now : Nat} {g : GuestProfile} {x y : Session} (h : sessionUnder now g x = some y) :
    y.tokens = x.tokens := by
  unfold sessionUnder at h
  split at h <;> (repeat' split at h) <;> cases h <;> rfl

/-- A profile adds no key to the session table. -/
theorem sessionsUnder_keys (now : Nat) (g : GuestProfile) (t : Table Session) :
    ((sessionsUnder now g t).map Prod.fst).Sublist (t.map Prod.fst) := by
  induction t with
  | nil => simp [sessionsUnder]
  | cons p rest ih =>
    unfold sessionsUnder at ih ⊢
    cases hp : sessionUnder now g p.2 with
    | none => simpa [hp] using ih.cons p.1
    | some y => simpa [hp] using ih.cons_cons p.1

theorem GuestRules.setProfile (h : GuestRules b) (g : GuestProfile) : GuestRules (setProfile g b) := by
  obtain ⟨hdrain, hclosed, hsorted, hroom, hlow, hhigh, htok, hbuckets⟩ := h
  refine ⟨hdrain, fun e => ?_, hsorted.sublist (sessionsUnder_keys _ _ _), ?_, hlow, hhigh, htok, fun p hp => ?_⟩
  · simp [Machine.setProfile, hclosed e, sessionsUnder]
  · exact (List.length_filterMap_le _ _).trans hroom
  · obtain ⟨q, hq, e⟩ := List.mem_filterMap.1 hp
    obtain ⟨y, hy, rfl⟩ := Option.map_eq_some_iff.1 e
    exact (sessionUnder_tokens hy).trans_le (hbuckets q hq)

theorem GuestRules.applyGuestProfile (h : GuestRules b) (w : GuestProfileWrite) :
    GuestRules (applyGuestProfile w b).1 := by
  unfold Machine.applyGuestProfile
  split
  · exact h
  · exact h.setProfile _

/-- The governor's step stays from 1 to 8. -/
theorem levelAfter_range {level : Nat} (fill : Nat) (h1 : 1 ≤ level) (h8 : level ≤ 8) :
    1 ≤ levelAfter fill level ∧ levelAfter fill level ≤ 8 := by
  unfold levelAfter
  split
  · omega
  · split <;> omega

theorem GuestRules.governorReading (h : GuestRules b) : GuestRules (governorReading b) := by
  obtain ⟨hdrain, hclosed, hsorted, hroom, hlow, hhigh, htok, hbuckets⟩ := h
  obtain ⟨hlow', hhigh'⟩ := levelAfter_range (uplinkFill b) hlow hhigh
  exact ⟨hdrain, hclosed, hsorted, hroom, hlow', hhigh', htok, hbuckets⟩

theorem GuestRules.fillBuckets (h : GuestRules b) : GuestRules (fillBuckets b) := by
  obtain ⟨hdrain, hclosed, hsorted, hroom, hlow, hhigh, -, -⟩ := h
  refine ⟨hdrain, fun e => ?_, tableSorted_mapValues _ hsorted, ?_, hlow, hhigh, Nat.min_le_right _ _, fun p hp => ?_⟩
  · simp [Machine.fillBuckets, tableMapValues, hclosed e]
  · simpa [Machine.fillBuckets, tableMapValues] using hroom
  · obtain ⟨q, -, rfl⟩ := List.mem_map.1 hp
    exact Nat.min_le_right _ _

theorem GuestRules.warmGuest (h : GuestRules b) : GuestRules (warmGuest b) := by
  obtain ⟨hdrain, -⟩ := h
  exact ⟨hdrain, fun _ => rfl, List.Pairwise.nil, Nat.zero_le _, (show 1 ≤ 4 by decide),
    (show 4 ≤ 8 by decide), le_rfl, by simp [Machine.warmGuest]⟩

theorem GuestRules.payFor (h : GuestRules b) (k : UplinkClass) (f : UplinkContent) : GuestRules (payFor k f b) := by
  unfold Machine.payFor
  split
  · exact h.of_fewer rfl (List.Sublist.refl _) rfl (Nat.sub_le _ _)
  · exact h

/-! ## The mode controller (R1 to R14) -/

theorem GuestRules.becomeClosed (h : GuestRules b) : GuestRules (becomeClosed b) := by
  obtain ⟨-, -, -, -, hlow, hhigh, htok, -⟩ := h
  exact ⟨by simp [Machine.becomeClosed, beginSweep], fun _ => rfl, List.Pairwise.nil, Nat.zero_le _, hlow, hhigh, htok,
    by simp [Machine.becomeClosed, beginSweep]⟩

theorem GuestRules.openRequest (h : GuestRules b) (e : openRequest b = some c) : GuestRules c := by
  have hdrain := h.1
  unfold Machine.openRequest at e
  split at e
  · next hm =>
    cases e
    have htrading : GuestRules (setMode .trading b) := h.of_mode rfl (by simp_all) (by simp)
    exact htrading.of_quiet (by apply Touches.activate (.refl _ _) <;> decide)
  · cases e
    exact h.of_mode rfl (by simp) (by simp)
  · cases e

theorem GuestRules.closeRequest (h : GuestRules b) (e : closeRequest b = some c) : GuestRules c := by
  unfold Machine.closeRequest at e
  split at e <;> cases e
  exact h.of_mode rfl (by simp) (by simp)

theorem GuestRules.closeNowRequest (h : GuestRules b) (e : closeNowRequest b = some c) : GuestRules c := by
  unfold Machine.closeNowRequest at e
  split at e <;> cases e
  exact h.becomeClosed

/-- A change of the mode controller that leaves the store mode and the drain timer. -/
theorem GuestRules.of_settings (h : GuestRules b) (hg : c.guest = b.guest) (hm : c.mode.mode = b.mode.mode)
    (hd : c.mode.drain = b.mode.drain) : GuestRules c :=
  h.of_mode hg (by rw [hm, hd]; exact h.1) (by rw [hm]; exact id)

theorem GuestRules.setWindowState (h : GuestRules b) (w : WindowState) : GuestRules (setWindowState w b) :=
  h.of_settings rfl rfl rfl

theorem GuestRules.setClockTo (h : GuestRules b) (v : Nat) : GuestRules (setClockTo v b) := h.of_settings rfl rfl rfl

theorem GuestRules.windowOpenRequest (h : GuestRules b) (e : windowOpenRequest b = some c) : GuestRules c := by
  unfold Machine.windowOpenRequest at e
  split at e <;> cases e
  exact (h.setWindowState _).of_quiet (by apply Touches.discardResult (.refl _ _); decide)

theorem GuestRules.windowCloseRequest (h : GuestRules b) (e : windowCloseRequest b = some c) : GuestRules c := by
  unfold Machine.windowCloseRequest at e
  split at e <;> cases e
  refine (h.setWindowState .shut).of_quiet ?_
  refine Touches.stopHold (Touches.abortExchange (Touches.discardResult (Touches.abortQual (.refl _ _) ?_) ?_) ?_ ?_ ?_ ?_)
    ?_ <;> decide

/-- What holds of a block and of what a request makes of it holds whether the request is refused or not. -/
theorem keeps_getD {P : Block → Prop} {o : Option Block} (h : P b) (ho : ∀ c, o = some c → P c) : P (o.getD b) := by
  cases o with
  | none => exact h
  | some c => exact ho c rfl

theorem GuestRules.fireAction (h : GuestRules b) (a : ScheduleAction) : GuestRules (fireAction a b) := by
  cases a with
  | openStore => exact keeps_getD h fun _ => h.openRequest
  | closeBegin => exact keeps_getD h fun _ => h.closeRequest
  | windowOpen => exact keeps_getD h fun _ => h.windowOpenRequest
  | windowClose => exact keeps_getD h fun _ => h.windowCloseRequest

theorem GuestRules.fireEntries (h : GuestRules b) (n : Nat) : GuestRules (fireEntries n b) := by
  unfold Machine.fireEntries
  generalize b.mode.schedule.toList.filter _ = l
  induction l generalizing b with
  | nil => exact h
  | cons e rest ih => exact ih (h.fireAction e.action)

theorem GuestRules.newSecond (h : GuestRules b) : GuestRules (newSecond b) :=
  h.of_quiet (by apply Touches.newSecond (.refl _ _); decide)

theorem GuestRules.clockAdvance (h : GuestRules b) : GuestRules (clockAdvance b) := by
  unfold Machine.clockAdvance
  split
  · exact h.newSecond
  · split
    · exact (h.newSecond.setClockTo _).fireEntries _
    · exact h.newSecond

theorem GuestRules.drainExpiry (h : GuestRules b) : GuestRules (drainExpiry b) := by
  unfold Machine.drainExpiry
  split
  · exact h.becomeClosed
  · exact h

theorem GuestRules.warmMode (h : GuestRules b) : GuestRules (warmMode b) := by
  unfold Machine.warmMode
  split
  · exact h.becomeClosed
  · exact h
  · exact h

/-! ## Restarts (R158, R191) -/

theorem GuestRules.warmRestart (h : GuestRules b) : GuestRules (warmRestart b) := by
  have hmode : GuestRules (Machine.warmMode (warmMgmt b)) :=
    (h.of_quiet (by apply Touches.warmMgmt (.refl _ _); decide)).warmMode
  have hfwd : GuestRules (warmForwarder (warmTill (warmLabels (Machine.warmMode (warmMgmt b))))) :=
    hmode.of_quiet (by
      refine Touches.warmForwarder (Touches.warmTill (Touches.warmLabels (.refl _ _) ?_ ?_ ?_ ?_ ?_) ?_) ?_ <;> decide)
  exact hfwd.warmGuest.of_quiet (by
    refine Touches.warmTime (Touches.warmExchange (Touches.warmLine (.refl _ _) ?_) ?_ ?_ ?_ ?_) ?_ <;> decide)

/-- The guest rules hold after every cold restart. -/
theorem guestRules_coldRestart (b : Block) : GuestRules (coldRestart b) :=
  ⟨by simp [coldRestart, coldBlock, coldMode], fun _ => rfl, List.Pairwise.nil, Nat.zero_le _, (show 1 ≤ 4 by decide),
    (show 4 ≤ 8 by decide), le_rfl, by simp [coldRestart, coldBlock, coldGuest]⟩

theorem GuestRules.resetBy (h : GuestRules b) (retain : Bool) : GuestRules (resetBy retain b) := by
  unfold Machine.resetBy
  split
  · have hpins : GuestRules { b with pins := { b.pins with retain := retain } } := h
    exact hpins.warmRestart
  · exact guestRules_coldRestart _

/-! ## Record writes (R186) -/

theorem GuestRules.writeSchedule (h : GuestRules b) (n : Nat) (r : WriteRecord) : GuestRules (writeSchedule n r b).1 := by
  unfold Machine.writeSchedule applyScheduleWrite applyModeSettings
  (repeat' split) <;> exact h

theorem GuestRules.writeGuest (h : GuestRules b) (n : Nat) (r : WriteRecord) : GuestRules (writeGuest n r b).1 := by
  unfold Machine.writeGuest
  split
  · split
    · exact h.applyGuestProfile _
    · exact h
  · exact h

theorem GuestRules.writeAt (h : GuestRules b) (t : TableName) (n : Nat) (r : WriteRecord) :
    GuestRules (writeAt t n r b).1 := by
  cases t with
  | schedule => exact h.writeSchedule n r
  | guestProfile => exact h.writeGuest n r
  | ports => exact h.of_quiet (by apply Touches.writePorts n r (.refl _ _) <;> decide)
  | policy => exact h.of_quiet (by apply Touches.writePolicy n r (.refl _ _); decide)
  | priceSettings => exact h.of_quiet (by apply Touches.writePriceSettings n r (.refl _ _) <;> decide)
  | templates => exact h.of_quiet (by apply Touches.writeTemplates n r (.refl _ _) <;> decide)
  | glyphs => exact h.of_quiet (by apply Touches.writeGlyphs n r (.refl _ _); decide)
  | radioSettings => exact h.of_quiet (by apply Touches.writeRadio n r (.refl _ _); decide)
  | items => exact h.of_quiet (by apply Touches.writeItems r (.refl _ _) <;> decide)
  | labels => exact h.of_quiet (by apply Touches.writeLabels r (.refl _ _) <;> decide)
  | _ => exact h

theorem GuestRules.setWindow (h : GuestRules b) (src : MgmtSource) (w : TableWindow) : GuestRules (setWindow src w b) :=
  h.of_quiet (by apply Touches.setWindow src w (.refl _ _); decide)

theorem GuestRules.writeFrom (h : GuestRules b) (src : MgmtSource) (index : Nat) (rs : List WriteRecord) :
    GuestRules (writeFrom src index rs b).1 := by
  induction rs generalizing index b with
  | nil =>
    unfold Machine.writeFrom
    split <;> exact h
  | cons r rest ih =>
    unfold Machine.writeFrom
    split
    · exact h
    · split
      · exact h.writeAt _ _ _
      · exact ih ((h.writeAt _ _ _).setWindow _ _) _

theorem GuestRules.applyWrite (h : GuestRules b) (src : MgmtSource) (rs : List WriteRecord) :
    GuestRules (applyWrite src rs b).1 := by
  unfold Machine.applyWrite
  (repeat' split) <;> first | exact h | exact h.writeFrom _ _ _

theorem GuestRules.setWrites (h : GuestRules b) (l : List WriteProgress) : GuestRules (setWrites l b) :=
  h.of_quiet (by apply Touches.setWrites l (.refl _ _); decide)

theorem GuestRules.writePart (h : GuestRules b) (g : MgmtHeader) (index count : Nat) (r : WriteRecord)
    (others : List WriteProgress) (w : TableWindow) : GuestRules (writePart g index count r others w b).1 := by
  have hrecord := h.writeAt w.table w.cursor r
  rcases writePart_cases g index count r others w b with ⟨_, _, e⟩ | ⟨_, _, e⟩ | ⟨_, _, e⟩ <;> rw [e]
  · exact hrecord.setWrites _
  · exact (hrecord.setWindow _ _).setWrites _
  · exact (hrecord.setWindow _ _).setWrites _

theorem GuestRules.writeFirst (h : GuestRules b) (g : MgmtHeader) (count : Nat) (r : WriteRecord) :
    GuestRules (writeFirst g count r b).1 := by
  unfold Machine.writeFirst
  (repeat' split) <;> first | exact h | exact h.writePart _ _ _ _ _ _

theorem GuestRules.writeLater (h : GuestRules b) (g : MgmtHeader) (index count : Nat) (r : WriteRecord) :
    GuestRules (writeLater g index count r b).1 := by
  unfold Machine.writeLater
  (repeat' split) <;> first | exact h | exact h.writePart _ _ _ _ _ _

/-! ## Messages (R184, R188) -/

theorem GuestRules.answerMgmt (h : GuestRules b) (src : MgmtSource) (tag : Nat) (r : ReplyBody) :
    GuestRules (answerMgmt src tag r b) :=
  h.of_quiet (by apply Touches.answerMgmt src tag r (.refl _ _) <;> decide)

theorem GuestRules.answerWrite {x : Block × Option ReplyBody} (h : GuestRules x.1) (g : MgmtHeader) :
    GuestRules (answerWrite g x) := by
  unfold Machine.answerWrite
  split
  · exact h.answerMgmt _ _ _
  · exact h

/-- A message whose effect keeps the guest rules keeps them. -/
theorem GuestRules.message (h : GuestRules b) (g : MgmtHeader) {f : Block → Block × ReplyBody}
    (hf : GuestRules (f b).1) : GuestRules (message g f b) := by
  rcases message_cases g f b with e | e | e <;> rw [e]
  · exact h
  · exact h.bump _
  · exact hf.answerMgmt _ _ _

theorem GuestRules.silentMessage (h : GuestRules b) (g : MgmtHeader) {f : Block → Block} (hf : GuestRules (f b)) :
    GuestRules (silentMessage g f b) := by
  rcases silentMessage_cases g f b with e | e | e <;> rw [e]
  · exact h
  · exact h.bump _
  · exact hf

theorem GuestRules.partOfWrite (h : GuestRules b) (g : MgmtHeader) (index count : Nat) (r : WriteRecord) :
    GuestRules (partOfWrite g index count r b) := by
  rcases partOfWrite_cases g index count r b with e | e | ⟨-, e⟩ | ⟨-, e⟩ <;> rw [e]
  · exact h
  · exact h.bump _
  · exact (h.writeFirst g count r).answerWrite g
  · exact (h.writeLater g index count r).answerWrite g

theorem GuestRules.writeBy (h : GuestRules b) (via : Via) (t : TableName) (r : WriteRecord) :
    GuestRules (writeBy via t r b) := by
  cases via with
  | message g => exact h.message g (h.applyWrite _ _)
  | part g index count => exact h.partOfWrite _ _ _ _
  | event n => exact (h.writeAt t n r).of_quiet (by apply Touches.emit _ (.refl _ _); decide)

theorem GuestRules.applyCommand (h : GuestRules b) (m : MgmtCommand) : GuestRules (applyCommand m b).1 := by
  cases m with
  | openStore =>
    simp only [Machine.applyCommand, applyOpen]
    split
    · next e => exact h.openRequest e
    · exact h
  | closeStore =>
    simp only [Machine.applyCommand, applyClose]
    split
    · next e => exact h.closeRequest e
    · exact h
  | closeNow =>
    simp only [Machine.applyCommand, applyCloseNow]
    split
    · next e => exact h.closeNowRequest e
    · exact h
  | windowOpen =>
    simp only [Machine.applyCommand, applyWindowOpen]
    split
    · next e => exact h.windowOpenRequest e
    · exact h
  | windowClose =>
    simp only [Machine.applyCommand, applyWindowClose]
    split
    · next e => exact h.windowCloseRequest e
    · exact h
  | setClock v =>
    simp only [Machine.applyCommand, applySetClock]
    split
    · exact h.setClockTo v
    · exact h
  | endGuest hw => exact h.applyEndGuest hw
  | release code => exact h.of_quiet (by apply Touches.applyRelease code (.refl _ _) <;> decide)
  | forceLabel id => exact h.of_quiet (by apply Touches.applyForce id (.refl _ _); decide)
  | qualifyLine n i => exact h.of_quiet (by apply Touches.applyQualify n i (.refl _ _) <;> decide)
  | loopback l d => exact h.of_quiet (by apply Touches.applyLoopback l d (.refl _ _) <;> decide)
  | clearNotices => exact h.of_quiet (by apply Touches.applyClearNotices (.refl _ _); decide)
  | saveSettings => exact h.of_quiet (by apply Touches.applySave (.refl _ _); decide)
  | _ => exact h

theorem GuestRules.takeBody (h : GuestRules b) (g : MgmtHeader) (m : MgmtBody) : GuestRules (takeBody g m b) := by
  cases m with
  | window t first last d =>
    exact GuestRules.answerMgmt (h.of_quiet (by apply Touches.applyWindow _ t first last d (.refl _ _); decide)) _ _ _
  | write rs => exact (h.applyWrite _ rs).answerMgmt _ _ _
  | read n => exact GuestRules.answerMgmt (h.of_quiet (by apply Touches.applyRead _ n (.refl _ _); decide)) _ _ _
  | command k =>
    cases k with
    | warmRestart => exact h.warmRestart
    | coldRestart => exact guestRules_coldRestart b
    | _ => exact (h.applyCommand _).answerMgmt _ _ _
  | _ => exact h.answerMgmt _ _ _

theorem GuestRules.takeMessage (h : GuestRules b) (src : MgmtSource) (m : MgmtMessage) :
    GuestRules (takeMessage src m b) := by
  unfold Machine.takeMessage forStation
  split
  · exact h.takeBody _ _
  · exact h.bump _

/-! ## The exchange engine (R181) -/

theorem GuestRules.applyStaged (h : GuestRules b) (r : StagedRecord) : GuestRules (applyStaged r b).1 := by
  cases r with
  | time v =>
    simp only [Machine.applyStaged, applyTime]
    (repeat' split) <;> exact h
  | price r => exact h.of_quiet (by apply Touches.applyPrice r (.refl _ _) <;> decide)
  | description k t => exact h.of_quiet (by apply Touches.applyDescription k t (.refl _ _) <;> decide)
  | withdraw k => exact h.of_quiet (by apply Touches.applyWithdraw k (.refl _ _); decide)
  | label id k => exact h.of_quiet (by apply Touches.applyLabel id k (.refl _ _); decide)
  | bind id k t => exact h.of_quiet (by apply Touches.applyBind id k t (.refl _ _) <;> decide)
  | unbind id => exact h.of_quiet (by apply Touches.applyUnbindRecord id (.refl _ _) <;> decide)
  | templateChange id t => exact h.of_quiet (by apply Touches.applyTemplateRecord id t (.refl _ _) <;> decide)
  | _ => exact h

theorem commitOne_block (k : Commit) (r : StagedRecord) : (commitOne k r).block = (applyStaged r k.block).1 := by
  unfold commitOne
  split <;> rfl

theorem GuestRules.commitRecords (h : GuestRules b) (rs : List StagedRecord) :
    GuestRules (commitRecords rs b).block := by
  unfold Machine.commitRecords
  generalize hk : Commit.mk b 1 0 [] = k
  have hb : GuestRules k.block := hk ▸ h
  clear hk
  induction rs generalizing k with
  | nil => exact hb
  | cons r rest ih => exact ih _ (commitOne_block k r ▸ hb.applyStaged r)

theorem GuestRules.commitBatch (h : GuestRules b) (g : Staging) : GuestRules (commitBatch g b) := by
  refine (h.commitRecords g.records).of_quiet ?_
  unfold Machine.commitBatch finishCommit
  refine Touches.setExchange _ (Touches.bump _ (Touches.notice _ _ (Touches.formReply _ (Touches.exch (.refl _ _) ?_)
    ?_ ?_ ?_) ?_) ?_) ?_ <;> decide

theorem GuestRules.endBatch (h : GuestRules b) (check : Nat) (g : Staging) : GuestRules (endBatch check g b) := by
  have hrejected (y : Bool) : GuestRules (rejectBatch g y b) :=
    h.of_quiet (by apply Touches.rejectBatch g y (.refl _ _) <;> decide)
  unfold Machine.endBatch
  split
  · exact hrejected true
  · split
    · exact hrejected false
    · exact h.commitBatch g

theorem GuestRules.takeEnd (h : GuestRules b) (check : Nat) : GuestRules (takeEnd check b) := by
  have hrefused (k : Code) : GuestRules (refuseExchange endKind k b) :=
    h.of_quiet (by apply Touches.refuseExchange _ _ (.refl _ _) <;> decide)
  unfold Machine.takeEnd
  split
  · split
    · exact h.endBatch _ _
    · exact hrefused _
  · exact hrefused _

theorem GuestRules.takeExchange (h : GuestRules b) (f : ExchangeFrame) : GuestRules (takeExchange f b) := by
  cases f with
  | batchEnd check => exact h.takeEnd check
  | exchangeOpen => exact h.of_quiet (by apply Touches.takeOpen (.refl _ _) <;> decide)
  | batchStart n k => exact h.of_quiet (by apply Touches.takeStart n k (.refl _ _) <;> decide)
  | exchangeRecords rs => exact h.of_quiet (by apply Touches.takeRecords rs (.refl _ _) <;> decide)
  | _ => exact h.of_quiet (by apply Touches.refuseExchange _ _ (.refl _ _) <;> decide)

theorem GuestRules.fromLine (h : GuestRules b) {f : Block → Block} (hf : GuestRules (f b)) : GuestRules (fromLine f b) := by
  unfold Machine.fromLine
  split
  · exact hf
  · exact h

/-! ## LAN frames (R129 to R139) -/

theorem GuestRules.sendToGuest (h : GuestRules b) (src dst : NetAddr) (content : List Byte) (e : Nat × AddressEntry) :
    GuestRules (sendToGuest src dst content e b) := by
  have hdown := h.guestDownlink (BitVec.ofNat 48 (keyHw e.1)) content
  unfold Machine.sendToGuest
  split
  · exact hdown.of_quiet (by apply Touches.sendRouted _ _ _ _ _ (.refl _ _); decide)
  · exact hdown

theorem GuestRules.route (h : GuestRules b) (s : Option Segment) (d : Segment) (src dst : NetAddr)
    (content : List Byte) : GuestRules (route s d src dst content b) := by
  have hrouted (d : Segment) (e : Nat × AddressEntry) : GuestRules (sendRouted d src dst content e b) :=
    h.of_quiet (by apply Touches.sendRouted _ _ _ _ _ (.refl _ _); decide)
  unfold Machine.route
  split
  · split
    · exact h.bump _
    · cases d with
      | guest => exact h.sendToGuest _ _ _ _
      | _ => exact hrouted _ _
  · exact h.bump _

theorem GuestRules.handToLine (h : GuestRules b) (s : Segment) (hw : HwAddr) (src dst : NetAddr) (content : List Byte) :
    GuestRules (handToLine s hw src dst content b) := by
  cases s with
  | guest => exact h.guestUplink _ _ _ _
  | _ => exact h.offer _ _

theorem GuestRules.gatewayNetwork (h : GuestRules b) (s : Segment) (hw : HwAddr) (src dst : NetAddr)
    (content : List Byte) : GuestRules (gatewayNetwork s hw src dst content b) := by
  unfold Machine.gatewayNetwork towardUplink
  (repeat' split) <;> first | exact h.bump _ | exact h.route _ _ _ _ _ | exact h.handToLine _ _ _ _ _

theorem GuestRules.fromUplink (h : GuestRules b) (src dst : NetAddr) (content : List Byte) :
    GuestRules (fromUplink src dst content b) := by
  unfold Machine.fromUplink
  (repeat' split) <;> first | exact h.bump _ | exact h.route _ _ _ _ _

theorem GuestRules.gatewayFrame (h : GuestRules b) (s : Segment) (p : Port) (f : LanFrame) :
    GuestRules (gatewayFrame s p f b).1 := by
  unfold Machine.gatewayFrame
  split
  · exact h.bump _
  · exact h.of_quiet (by apply Touches.serviceFrame _ _ _ _ _ _ (.refl _ _); decide)
  · exact h.gatewayNetwork _ _ _ _ _

theorem GuestRules.deliver (h : GuestRules b) (s : Segment) (p : Port) (f : LanFrame) : GuestRules (deliver s p f b).1 := by
  have hlearn : GuestRules (learn s p f b) := h.of_quiet (by apply Touches.learn s p f (.refl _ _) <;> decide)
  unfold Machine.deliver
  split
  · exact h.bump _
  · split
    · exact hlearn.gatewayFrame _ _ _
    · exact hlearn.of_quiet (by apply Touches.switchFrame s p f (.refl _ _) <;> decide)

theorem GuestRules.forwardFrame (h : GuestRules b) (p : Port) (f : LanFrame) : GuestRules (forwardFrame p f b).1 := by
  unfold Machine.forwardFrame
  split
  · split
    · exact h.deliver _ _ _
    · exact h.bump _
  · exact h

theorem GuestRules.serve (h : GuestRules b) (x : ServiceHandoff) : GuestRules (serve x b) := by
  cases x with
  | nothing => exact h
  | till sender f => exact h.of_quiet (by apply Touches.tillFrame sender f (.refl _ _) <;> decide)
  | mgmt src m => exact h.takeMessage src m

/-! ## Line frames (R159, R167, R168) -/

theorem GuestRules.passOn (h : GuestRules b) (k : LineContent) : GuestRules (passOn k b) := by
  cases k with
  | alive => exact h
  | data src dst content => exact h.fromUplink _ _ _
  | management m => exact h.takeMessage _ _
  | exchange f => exact h.takeExchange f
  | journalAck n => exact h.of_quiet (by apply Touches.takeAck n (.refl _ _) <;> decide)
  | testLoop => exact h.of_quiet (by apply Touches.takeTestLoop (.refl _ _); decide)
  | testPattern number bits =>
    simp only [Machine.passOn]
    split
    · exact h.of_quiet (by apply Touches.takePattern number bits (.refl _ _) <;> decide)
    · exact h.bump _
  | _ => exact h.bump _

theorem GuestRules.receiveValid (h : GuestRules b) : GuestRules (receiveValid b) :=
  (h.bump .framesReceived).of_quiet (by apply Touches.countForState (.refl _ _) <;> decide)

theorem GuestRules.damagedFrame (h : GuestRules b) (k : LineContent) : GuestRules (damagedFrame k b) := by
  unfold Machine.damagedFrame
  (repeat' split)
  · exact (h.bump _).of_quiet (by apply Touches.examine _ _ _ (.refl _ _) <;> decide)
  · exact h.bump _
  · exact h.bump _

theorem GuestRules.receiveFrame (h : GuestRules b) (f : LineInput) : GuestRules (receiveFrame f b) := by
  unfold Machine.receiveFrame validFrame
  (repeat' split)
  · exact h.bump _
  · exact h.damagedFrame _
  · exact h.receiveValid.passOn _
  · exact h.receiveValid.bump _

theorem GuestRules.echoFrame (h : GuestRules b) (f : LineInput) : GuestRules (echoFrame f b) := by
  have hecho : GuestRules (Machine.bump .remoteEchoed (emit (.lineEcho f) b)) :=
    (h.of_quiet (by apply Touches.emit _ (.refl _ _); decide)).bump _
  unfold Machine.echoFrame checkRemote
  (repeat' split)
  · exact hecho.bump _
  · exact hecho.bump _
  · exact hecho.receiveValid
  · exact hecho.receiveValid.bump _

theorem GuestRules.sortReturned (h : GuestRules b) (f : SentFrame) : GuestRules (sortReturned f b) := by
  have hloop : GuestRules (takeTestLoop b) := h.of_quiet (by apply Touches.takeTestLoop (.refl _ _); decide)
  have hpattern (n : Nat) (l : List Bool) : GuestRules (takePattern n l b) :=
    h.of_quiet (by apply Touches.takePattern n l (.refl _ _) <;> decide)
  unfold Machine.sortReturned
  (repeat' split) <;> first | exact hloop | exact hpattern _ _ | exact h.bump _ | exact (h.bump _).bump _

theorem GuestRules.arriveReturned (h : GuestRules b) : GuestRules (arriveReturned b) := by
  unfold Machine.arriveReturned
  split
  · have htaken : ∀ l, GuestRules { b with line := { b.line with returning := l } } := fun _ => h
    unfold takeReturned
    split
    · exact (htaken _).bump _
    · exact (htaken _).receiveValid.sortReturned _
  · exact h

theorem GuestRules.lineFrame (h : GuestRules b) (a : LineArrival) : GuestRules (lineFrame a b) := by
  cases a with
  | returned => exact h.arriveReturned
  | fromLine f =>
    simp only [Machine.lineFrame, arriveFromLine]
    split
    · exact h.receiveFrame f
    · exact h
    · exact h.echoFrame f

/-! ## The transmitter (R155, R165) -/

theorem GuestRules.takeFrame (h : GuestRules b) (k : UplinkClass) (f : UplinkContent) (rest : List UplinkContent) :
    GuestRules (takeFrame k f rest b) := by
  have hpaid : GuestRules (Machine.payFor k f (setClass k rest b)) :=
    (h.of_quiet (by apply Touches.setClass k rest (.refl _ _); decide)).payFor k f
  refine hpaid.of_quiet ?_
  refine Touches.noteRoom k (Touches.noteLastPattern f (Touches.bump _ (Touches.sendFrame _ (.refl _ _) ?_ ?_) ?_) ?_)
    ?_ ?_ ?_ <;> decide

theorem GuestRules.drainOne (h : GuestRules b) : GuestRules (drainOne b) := by
  unfold Machine.drainOne
  (repeat' split) <;> first | exact h | exact h.takeFrame _ _ _

theorem GuestRules.transmitStart (h : GuestRules b) : GuestRules (transmitStart b) := by
  have halive : GuestRules (sendAlive b) := h.of_quiet (by apply Touches.sendAlive (.refl _ _) <;> decide)
  unfold Machine.transmitStart
  (repeat' split) <;> first | exact h | exact halive | exact h.drainOne

/-! ## The step -/

theorem GuestRules.effect (h : GuestRules b) (i : Instr) : GuestRules (effect i b) := by
  cases i with
  | openCmd g => exact h.message g (h.applyCommand .openStore)
  | closeCmd g => exact h.message g (h.applyCommand .closeStore)
  | closeNow g => exact h.message g (h.applyCommand .closeNow)
  | windowOpen g => exact h.message g (h.applyCommand .windowOpen)
  | windowClose g => exact h.message g (h.applyCommand .windowClose)
  | setClock g v => exact h.message g (h.applyCommand (.setClock v))
  | release g code => exact h.message g (h.applyCommand (.release code))
  | forceLabel g id => exact h.message g (h.applyCommand (.forceLabel id))
  | qualifyLine g n k => exact h.message g (h.applyCommand (.qualifyLine n k))
  | loopback g l d => exact h.message g (h.applyCommand (.loopback l d))
  | endGuest g hw => exact h.message g (h.applyCommand (.endGuest hw))
  | clearNotices g => exact h.message g (h.applyCommand .clearNotices)
  | saveSettings g => exact h.message g (h.applyCommand .saveSettings)
  | window g t first last d =>
    exact h.message g (h.of_quiet (by apply Touches.applyWindow _ t first last d (.refl _ _); decide))
  | read g n => exact h.message g (h.of_quiet (by apply Touches.applyRead _ n (.refl _ _); decide))
  | status g => exact h.message g h
  | readOnlyWrite g rs => exact h.message g (h.applyWrite _ _)
  | warmRestart g => exact h.silentMessage g h.warmRestart
  | coldRestart g => exact h.silentMessage g (guestRules_coldRestart b)
  | resetLine retain => exact h.resetBy retain
  | powerUp => exact guestRules_coldRestart b
  | drainTimerExpiry => exact h.drainExpiry
  | clockAdvance => exact h.clockAdvance
  | lanFrame p f => exact (h.forwardFrame p f).serve _
  | lineFrame a => exact h.lineFrame a
  | transmitStart => exact h.transmitStart
  | timeLimitExpiry hw => exact h.timeLimitExpiry hw
  | idleLimitExpiry hw => exact h.idleLimitExpiry hw
  | cooldownEnd hw => exact h.cooldownEnd hw
  | governorReading => exact h.governorReading
  | exchangeOpen => exact h.fromLine (h.takeExchange .exchangeOpen)
  | batchStart n k => exact h.fromLine (h.takeExchange (.batchStart n k))
  | exchangeRecords rs => exact h.fromLine (h.takeExchange (.exchangeRecords rs))
  | batchEnd check => exact h.fromLine (h.takeExchange (.batchEnd check))
  | journalAck n =>
    simp only [Machine.effect]
    split
    · exact h.passOn (.journalAck n)
    · exact h
  | itemRetarget => exact h.of_quiet (by apply Touches.itemRetarget (.refl _ _); decide)
  | templateRetarget => exact h.of_quiet (by apply Touches.templateRetarget (.refl _ _); decide)
  | sweepVisit => exact h.of_quiet (by apply Touches.sweepVisit (.refl _ _); decide)
  | beacon => exact h.of_quiet (by apply Touches.beacon (.refl _ _) <;> decide)
  | labelReply t => exact h.of_quiet (by apply Touches.labelReply t (.refl _ _) <;> decide)
  | replyWindowClose => exact h.of_quiet (by apply Touches.replyWindowClose (.refl _ _) <;> decide)
  | checkIn k => exact h.of_quiet (by apply Touches.radioCheckIn k (.refl _ _) <;> decide)
  | hello s n => exact h.of_quiet (by apply Touches.tillHello s n (.refl _ _) <;> decide)
  | priceQuery s n k => exact h.of_quiet (by apply Touches.tillPriceQuery s n k (.refl _ _) <;> decide)
  | saleRecord s n q t l => exact h.of_quiet (by apply Touches.tillSaleRecord s n q t l (.refl _ _) <;> decide)
  | silenceTimerExpiry n => exact h.of_quiet (by apply Touches.silenceExpiry n (.refl _ _) <;> decide)
  | journalBlock => exact h.of_quiet (by apply Touches.journalBlock (.refl _ _) <;> decide)
  | acknowledgementTimerExpiry => exact h.of_quiet (by apply Touches.ackTimerExpiry (.refl _ _) <;> decide)
  | linkUp p => exact h.of_quiet (by apply Touches.linkUp p (.refl _ _); decide)
  | linkDown p => exact h.of_quiet (by apply Touches.linkDown p (.refl _ _); decide)
  | addressAgingExpiry s hw => exact h.of_quiet (by apply Touches.addressAging s hw (.refl _ _); decide)
  | lossTimerExpiry => exact h.of_quiet (by apply Touches.lossExpiry (.refl _ _) <;> decide)
  | aliveTimerExpiry => exact h.of_quiet (by apply Touches.aliveExpiry (.refl _ _); decide)
  | loopbackTimerExpiry => exact h.of_quiet (by apply Touches.loopbackExpiry (.refl _ _) <;> decide)
  | qualifyTimeout => exact h.of_quiet (by apply Touches.qualifyTimeout (.refl _ _) <;> decide)
  | reopenHoldExpiry => exact h.of_quiet (by apply Touches.stopHold (.refl _ _); decide)
  | noticeSend => exact h.of_quiet (by apply Touches.noticeSend (.refl _ _) <;> decide)
  | saveComplete => exact h.of_quiet (by apply Touches.saveComplete (.refl _ _); decide)
  | _ => exact h.writeBy _ _ _

theorem GuestRules.tick (h : GuestRules b) : GuestRules (tick b) := by
  have hfilled : GuestRules (Machine.fillBuckets b) := h.fillBuckets
  exact hfilled.of_mode rfl (by simpa [Machine.tick, tickTimer] using h.1) id

/-- Settles O6: the guest rules pass through the effect of every command and through a tick. -/
theorem everyStepKeepsTheGuestRules : Obligations.EveryStepKeepsTheGuestRules := by
  unfold Obligations.EveryStepKeepsTheGuestRules
  intro s t hs h
  exact step_keeps (P := GuestRules) (fun i _ hb => hb.effect i) (fun _ hb => hb.tick) hs h

end GuestRulesKept

end Sys2Proof.Machine

namespace Sys2Proof.Machine

/-! # The mode controller: the store mode, the clock, the schedule and the exchange window -/

section ModeController

variable {b : Block} {h : MgmtHeader} {s : State}

/-- A row that is a message taken has the message's effect and its one answer. -/
theorem exec_of_message {i : Instr} {f : Block → Block × ReplyBody} (he : effect i s.block = message h f s.block)
    (ht : Taken h s.block) : exec i s = s.answers h (f s.block).2 (f s.block).1 := by
  rw [exec_eq_effect, he, message_of_taken f ht]
  rfl

/-! ## The store mode (R2 to R6) -/

/-- The activation leaves the mode controller as it is. -/
theorem activate_mode (b : Block) : (activate b).mode = b.mode :=
  (Touches.activate (fs := [.items, .labels, .mgmt]) (.refl _ b) (by decide) (by decide) (by decide) .mode
    (by decide)).symm

theorem applyOpen_closed (hm : b.mode.mode = .closed) :
    applyOpen b = (activate (setMode .trading b), .mode .trading) := by
  simp [applyOpen, openRequest, hm, activate_mode]

theorem applyOpen_closing (hm : b.mode.mode = .closing) :
    applyOpen b = (setMode .trading (stopDrain b), .mode .trading) := by
  simp [applyOpen, openRequest, hm]

theorem applyOpen_trading (hm : b.mode.mode = .trading) : applyOpen b = (b, .refusal .already none) := by
  simp [applyOpen, openRequest, hm]

theorem applyClose_trading (hm : b.mode.mode = .trading) :
    applyClose b = (startDrain (setMode .closing b), .mode .closing) := by
  simp [applyClose, closeRequest, hm]

theorem applyClose_refused (hm : b.mode.mode ≠ .trading) : applyClose b = (b, .refusal .already none) := by
  cases hc : b.mode.mode with
  | trading => exact absurd hc hm
  | closing => simp [applyClose, closeRequest, hc]
  | closed => simp [applyClose, closeRequest, hc]

/-- R4, R5: what the change from CLOSING to CLOSED leaves, in one update. -/
theorem becomeClosed_eq (b : Block) : becomeClosed b = notice .modeChanged (.mode .closed)
    { b with
      mode := { b.mode with mode := .closed, drain := none }
      guest := { b.guest with sessions := [], full := false }
      labels := { b.labels with
        sweep := if b.items.pending.isEmpty then none else some (Sweep.mk b.items.pending 0) } } := rfl

theorem exec_drainTimerExpiry_running {n : Nat} (hd : s.block.mode.drain = some n) :
    exec .drainTimerExpiry s = s.becomes (becomeClosed s.block) := by
  simp [exec_eq_effect, effect, drainExpiry, hd]

/-- Settles O11, by the mode that OPEN and CLOSE find. -/
theorem storeModeMovesAsTheTableSays : Obligations.StoreModeMovesAsTheTableSays := by
  unfold Obligations.StoreModeMovesAsTheTableSays
  refine fun h s => ⟨fun ht => ?_, fun n hd => exec_drainTimerExpiry_running hd⟩
  rw [exec_of_message (i := .openCmd h) rfl ht, exec_of_message (i := .closeCmd h) rfl ht]
  refine ⟨fun hm => ?closed, fun hm => ?closing, fun hm => ?trading⟩
  case closed => rw [applyOpen_closed hm, applyClose_refused (by simp [hm])]; exact ⟨rfl, rfl⟩
  case closing => rw [applyOpen_closing hm, applyClose_refused (by simp [hm])]; exact ⟨rfl, rfl⟩
  case trading => rw [applyOpen_trading hm, applyClose_trading hm]; exact ⟨rfl, rfl⟩

theorem applyCloseNow_closing (hm : b.mode.mode = .closing) : applyCloseNow b = (becomeClosed b, .mode .closed) := by
  simp [applyCloseNow, closeNowRequest, hm, becomeClosed_eq]

theorem applyCloseNow_refused (hm : b.mode.mode ≠ .closing) : applyCloseNow b = (b, .refusal .notInMode none) := by
  cases hc : b.mode.mode with
  | closing => exact absurd hc hm
  | trading => simp [applyCloseNow, closeNowRequest, hc]
  | closed => simp [applyCloseNow, closeNowRequest, hc]

/-- The window's requests leave the store mode as it is. -/
theorem windowOpenRequest_mode {c : Block} (e : windowOpenRequest b = some c) : c.mode.mode = b.mode.mode := by
  unfold windowOpenRequest at e
  split at e <;> cases e
  rfl

theorem windowCloseRequest_mode {c : Block} (e : windowCloseRequest b = some c) : c.mode.mode = b.mode.mode := by
  unfold windowCloseRequest at e
  split at e <;> cases e
  have hkept : Touches [.line, .exch, .counts, .mgmt] (setWindowState .shut b)
      (stopHold (abortExchange (discardResult (abortQual (setWindowState .shut b))))) := by
    refine Touches.stopHold (Touches.abortExchange (Touches.discardResult (Touches.abortQual (.refl _ _) ?_) ?_)
      ?_ ?_ ?_ ?_) ?_ <;> decide
  rw [← show (setWindowState .shut b).mode = _ from hkept .mode (by decide)]
  rfl

/-- Of the schedule's actions OPEN alone leaves CLOSING, for TRADING. -/
theorem fireAction_closing (a : ScheduleAction) (hm : b.mode.mode = .closing) :
    (fireAction a b).mode.mode = .closing ∨ (fireAction a b).mode.mode = .trading := by
  have hkept {o : Option Block} (ho : ∀ c, o = some c → c.mode.mode = b.mode.mode) :
      (o.getD b).mode.mode = .closing :=
    keeps_getD (P := fun c => c.mode.mode = .closing) hm fun c e => (ho c e).trans hm
  cases a with
  | openStore => exact Or.inr (by simp [fireAction, openRequest, hm])
  | closeBegin => exact Or.inl (by simp [fireAction, closeRequest, hm])
  | windowOpen => exact Or.inl (hkept fun _ => windowOpenRequest_mode)
  | windowClose => exact Or.inl (hkept fun _ => windowCloseRequest_mode)

/-- Settles O12: CLOSE_NOW and the drain timer's expiry run the same change to CLOSED. -/
theorem closeNowClosesAsTheDrainTimerWould : Obligations.CloseNowClosesAsTheDrainTimerWould := by
  unfold Obligations.CloseNowClosesAsTheDrainTimerWould
  refine ⟨fun h s ht => ?_, fun a b hm => ?_⟩
  · rw [exec_of_message (i := .closeNow h) rfl ht]
    refine ⟨fun hm hd => ?_, fun hm => by rw [applyCloseNow_refused hm]⟩
    obtain ⟨n, hn⟩ := Option.isSome_iff_exists.1 hd
    exact ⟨becomeClosed s.block, exec_drainTimerExpiry_running hn, rfl, rfl, by rw [applyCloseNow_closing hm]⟩
  · rcases fireAction_closing a hm with e | e <;> simp [e]

/-! ## The clock and the schedule (R9 to R13) -/

/-- Settles O13: SET_CLOCK and the TIME record make the same update. -/
theorem setClockSetsAndFiresNothing : Obligations.SetClockSetsAndFiresNothing := by
  unfold Obligations.SetClockSetsAndFiresNothing
  refine fun h v s => ⟨fun ht hv => ?_, fun hv => ?_, fun ht hv => ?_⟩
  · rw [exec_of_message (i := .setClock h v) rfl ht]
    simp [applySetClock, Config.max32, hv, setClockTo]
  · simp [applyStaged, applyTime, Config.max32, hv, setClockTo]
  · rw [exec_of_message (i := .setClock h v) rfl ht]
    simp [applySetClock, Config.max32, Nat.not_le.2 hv]

/-- A clock that is UNSET or at its maximum stays. -/
theorem clockAdvance_stays (hc : b.mode.clock = none ∨ b.mode.clock = some Config.max32) :
    clockAdvance b = newSecond b := by
  rcases hc with e | e <;> simp [clockAdvance, e]

theorem clockAdvance_advances {c : Nat} (hc : b.mode.clock = some c) (hlt : c < Config.max32) :
    clockAdvance b = fireEntries (c + 1) (setClockTo (c + 1) (newSecond b)) := by
  simp [clockAdvance, hc, hlt]

/-- R9, R12: an entry fires when it is enabled and holds the time of day and the weekday of the new second. -/
theorem entryFires_eq (epoch : Weekday) (c : Nat) :
    entryFires epoch c = fun e => decide (e.enabled = true ∧ e.time = c % 86400 ∧
      ∃ d ∈ e.weekdays, weekdayIndex d = (weekdayIndex epoch + c / 86400) % 7) := by
  funext e
  unfold entryFires timeOfDay weekdayOf daySeconds
  rw [Bool.eq_iff_iff]
  simp [and_assoc]

/-! What a command leaves of the block, its answer apart. -/

theorem applyOpen_fst (b : Block) : (applyOpen b).1 = (openRequest b).getD b := by
  unfold applyOpen
  cases openRequest b <;> rfl

theorem applyClose_fst (b : Block) : (applyClose b).1 = (closeRequest b).getD b := by
  unfold applyClose
  cases closeRequest b <;> rfl

theorem applyWindowOpen_fst (b : Block) : (applyWindowOpen b).1 = (windowOpenRequest b).getD b := by
  unfold applyWindowOpen
  cases windowOpenRequest b <;> rfl

theorem applyWindowClose_fst (b : Block) : (applyWindowClose b).1 = (windowCloseRequest b).getD b := by
  unfold applyWindowClose
  cases windowCloseRequest b <;> rfl

/-- R13: the command of the same effect as a schedule action, as a message. -/
theorem exec_commandOf (a : ScheduleAction) (ht : Taken h s.block) :
    ∃ r, exec (commandOf h a) s = s.answers h r (fireAction a s.block) := by
  cases a with
  | openStore => exact ⟨_, (exec_of_message (i := .openCmd h) rfl ht).trans (congrArg _ (applyOpen_fst _))⟩
  | closeBegin => exact ⟨_, (exec_of_message (i := .closeCmd h) rfl ht).trans (congrArg _ (applyClose_fst _))⟩
  | windowOpen => exact ⟨_, (exec_of_message (i := .windowOpen h) rfl ht).trans (congrArg _ (applyWindowOpen_fst _))⟩
  | windowClose => exact ⟨_, (exec_of_message (i := .windowClose h) rfl ht).trans (congrArg _ (applyWindowClose_fst _))⟩

/-- Settles O14, by the clock that CLOCK_ADVANCE finds. -/
theorem clockAdvanceFiresTheEntriesOfTheNewSecond : Obligations.ClockAdvanceFiresTheEntriesOfTheNewSecond := by
  unfold Obligations.ClockAdvanceFiresTheEntriesOfTheNewSecond
  refine ⟨fun s hc => ?_, fun s c hc hlt => ?_, fun a h s ht => exec_commandOf a ht⟩
  · rw [exec_eq_effect]
    exact congrArg s.becomes (clockAdvance_stays hc)
  · rw [exec_eq_effect]
    refine congrArg s.becomes ((clockAdvance_advances hc hlt).trans ?_)
    rw [fireEntries, entryFires_eq]
    rfl

/-! ## The exchange window (R14, R171, R177, R182) -/

theorem abortExchange_idle (hs : b.exch.state = .idle) : abortExchange b = b := by
  simp [abortExchange, hs]

/-- R182: what the abort of an exchange under way leaves. -/
theorem abortExchange_open (hs : b.exch.state ≠ .idle) : abortExchange b =
    notice .exchangeAborted .exchange (bump .exchangeAborts (senderServed .engine
      { b with exch := { b.exch with state := .idle, staging := none, held := [] } })) := by
  unfold abortExchange
  split
  · next e => exact absurd e hs
  · rfl

/-- R171: the abort of a qualification drops its refused frames with it. -/
theorem abortQual_line (b : Block) : (abortQual b).line = { b.line with
    qual := none
    refused := b.line.refused.filter (fun x => decide ¬ (x = .pattern ∧ b.line.qual ≠ none)) } := by
  unfold abortQual
  split
  · next e => simp [← e]
  · next q e => simp [senderServed, e]

/-- R182: the abort of an exchange drops the engine's refused frames with it. -/
theorem abortExchange_line (b : Block) : (abortExchange b).line = { b.line with
    refused := b.line.refused.filter (fun x => decide ¬ (x = .engine ∧ b.exch.state ≠ .idle)) } := by
  by_cases hs : b.exch.state = .idle
  · simp [abortExchange_idle hs, hs]
  · simp [abortExchange_open hs, hs, senderServed]

/-- R14, R171: WINDOW_CLOSE of an open window, before it reaches the exchange engine. -/
def windowShut (b : Block) : Block := discardResult (abortQual (setWindowState .shut b))

/-- R14: what WINDOW_CLOSE leaves of an open window. -/
def windowClosed (b : Block) : Block := stopHold (abortExchange (windowShut b))

theorem windowShut_touches (b : Block) : Touches [.line] (setWindowState .shut b) (windowShut b) := by
  refine Touches.discardResult (Touches.abortQual (.refl _ _) ?_) ?_ <;> decide

theorem windowShut_exch (b : Block) : (windowShut b).exch = b.exch :=
  ((windowShut_touches b).keeps .exch (by decide)).symm

theorem windowShut_counts (b : Block) : (windowShut b).counts = b.counts :=
  ((windowShut_touches b).keeps .counts (by decide)).symm

theorem windowShut_mode (b : Block) : (windowShut b).mode = { b.mode with window := .shut } :=
  ((windowShut_touches b).keeps .mode (by decide)).symm

theorem windowShut_mgmt (b : Block) : (windowShut b).mgmt = { b.mgmt with
    notices := noticeQueueAfter .windowChanged (.windowState .shut) none b.mode.clock b.mgmt.notices } :=
  ((windowShut_touches b).keeps .mgmt (by decide)).symm

theorem windowShut_line (b : Block) : (windowShut b).line = { b.line with
    qual := none
    result := none
    refused := b.line.refused.filter (fun x => decide ¬ (x = .pattern ∧ b.line.qual ≠ none)) } := by
  rw [windowShut, discardResult_line, abortQual_line]
  rfl

theorem windowClosed_touches (b : Block) : Touches [.mode, .mgmt, .line, .exch, .counts] b (windowClosed b) := by
  refine Touches.stopHold (Touches.abortExchange (Touches.discardResult (Touches.abortQual
    (Touches.setWindowState _ (.refl _ _) ?_ ?_) ?_) ?_) ?_ ?_ ?_ ?_) ?_ <;> decide

theorem windowClosed_mode (b : Block) : (windowClosed b).mode = { b.mode with window := .shut } := by
  have hkept : Touches [.line, .exch, .counts, .mgmt] (windowShut b) (windowClosed b) := by
    refine Touches.stopHold (Touches.abortExchange (.refl _ _) ?_ ?_ ?_ ?_) ?_ <;> decide
  rw [← windowShut_mode]
  exact (hkept.keeps .mode (by decide)).symm

/-- R164, R171, R182: the frames that the qualification and the exchange held as refused go with them. -/
theorem windowClosed_line (b : Block) : (windowClosed b).line = { b.line with
    qual := none
    result := none
    refused := b.line.refused.filter (fun x => decide
      (¬ (x = .pattern ∧ b.line.qual ≠ none) ∧ ¬ (x = .engine ∧ b.exch.state ≠ .idle))) } := by
  rw [windowClosed, stopHold_line, abortExchange_line, windowShut_line, windowShut_exch]
  simp only [List.filter_filter, Bool.decide_and, Bool.and_comm]

/-- R177: with the engine in IDLE the hold alone is stopped. -/
theorem windowClosed_idle (hs : b.exch.state = .idle) : windowClosed b = stopHold (windowShut b) := by
  rw [windowClosed, abortExchange_idle (by rw [windowShut_exch, hs])]

/-- R182: an exchange under way is aborted and the hold stopped. -/
theorem windowClosed_open (hs : b.exch.state ≠ .idle) : windowClosed b =
    stopHold (notice .exchangeAborted .exchange (bump .exchangeAborts (senderServed .engine
      { windowShut b with exch := { (windowShut b).exch with state := .idle, staging := none, held := [] } }))) := by
  rw [windowClosed, abortExchange_open (by rwa [windowShut_exch])]

theorem applyWindowClose_opened (hw : b.mode.window = .opened) :
    applyWindowClose b = (windowClosed b, .windowState .shut) := by
  have hr : windowCloseRequest b = some (windowClosed b) := by rw [windowCloseRequest, hw]; rfl
  simp [applyWindowClose, hr, windowClosed_mode]

theorem applyWindowClose_shut (hw : b.mode.window = .shut) : applyWindowClose b = (b, .refusal .already none) := by
  simp [applyWindowClose, windowCloseRequest, hw]

theorem applyWindowOpen_shut (hw : b.mode.window = .shut) :
    applyWindowOpen b = (discardResult (setWindowState .opened b), .windowState .opened) := by
  simp [applyWindowOpen, windowOpenRequest, hw, discardResult, setWindowState]

theorem applyWindowOpen_opened (hw : b.mode.window = .opened) : applyWindowOpen b = (b, .refusal .already none) := by
  simp [applyWindowOpen, windowOpenRequest, hw]

/-- Settles O15: by the window's state, and for WINDOW_CLOSE by whether an exchange is under way. -/
theorem windowCommandsOpenAndShutTheWindow : Obligations.WindowCommandsOpenAndShutTheWindow := by
  unfold Obligations.WindowCommandsOpenAndShutTheWindow
  intro h s ht
  rw [exec_of_message (i := .windowOpen h) rfl ht, exec_of_message (i := .windowClose h) rfl ht]
  refine ⟨fun hw => ?shut, fun hw => ?opened⟩
  case shut => rw [applyWindowOpen_shut hw, applyWindowClose_shut hw]; exact ⟨rfl, rfl⟩
  case opened =>
    rw [applyWindowOpen_opened hw, applyWindowClose_opened hw]
    refine ⟨rfl, windowClosed s.block, rfl, windowClosed_touches _, windowClosed_mode _, windowClosed_line _,
      fun hs => ?idle, fun hs => ?underWay⟩
    case idle =>
      rw [windowClosed_idle hs, stopHold_exch, stopHold_counts, stopHold_mgmt, windowShut_exch, windowShut_counts,
        windowShut_mgmt]
      exact ⟨rfl, rfl, rfl⟩
    case underWay =>
      rw [windowClosed_open hs]
      simp [bump, windowShut_exch, windowShut_counts, windowShut_mgmt, windowShut_mode]

end ModeController

end Sys2Proof.Machine

namespace Sys2Proof.Machine

/-! # Reset (R1, R9, R14, R52, R74, R108, R127, R143, R158, R172, R183, R184) -/

/-- Every place of a constant vector holds the constant. -/
theorem get_replicate {α : Type} {n : Nat} (x : α) (i : Fin n) : (Vector.replicate n x).get i = x :=
  Vector.getElem_replicate i.isLt

/-- Every place of a mapped vector holds the image of what stood there. -/
theorem get_map {α β : Type} {n : Nat} (f : α → β) (v : Vector α n) (i : Fin n) : (v.map f).get i = f (v.get i) :=
  Vector.getElem_map f i.isLt

/-- R143: after a cold restart every link is DOWN. -/
theorem coldForwarder_up (x : StoredSettings) (hw : HwAddr) (p : Port) : ((coldForwarder x hw).ports.get p).up = false := by
  rw [coldForwarder, get_map]

/-- Settles O3: each block of the reset state is the cold one. -/
theorem resetLeavesEachBlockAsAColdRestart : Obligations.ResetLeavesEachBlockAsAColdRestart := by
  unfold Obligations.ResetLeavesEachBlockAsAColdRestart
  refine ⟨rfl, ?mode, ?items, ?labels, ?composer, ?radio, ?till, ?forwarder, ?guest, ?line, ?exchange, ?management⟩
  case mode => exact ⟨rfl, rfl, rfl, rfl⟩
  case items => exact ⟨rfl, rfl⟩
  case labels => exact ⟨rfl, rfl⟩
  case composer => exact ⟨rfl, rfl⟩
  case radio => exact ⟨rfl, rfl, rfl⟩
  case till => exact ⟨rfl, rfl, rfl, rfl, rfl, rfl⟩
  case forwarder => exact ⟨rfl, rfl, coldForwarder_up defaultSettings resetHwAddress⟩
  case guest => exact ⟨rfl, rfl, rfl⟩
  case line => exact ⟨rfl, rfl, rfl, rfl, fun c => get_replicate [] (classIndex c)⟩
  case exchange => exact ⟨rfl, rfl, rfl, rfl⟩
  case management => exact ⟨rfl, rfl, fun c => get_replicate 0 (counterIndex c)⟩

end Sys2Proof.Machine

namespace Sys2Proof.Machine

/-! # The part's own time: the events that are due, and the millisecond that passes (log 1) -/

section OwnTime

variable {b : Block} {c : Instr}

/-! ## What the sending and the hand-offs wait for (R121, R131, R189) -/

theorem mem_segments (d : Segment) : d ∈ segments := by cases d <;> decide

/-- R131: an address lies in no segment's range. -/
theorem segmentOf_eq_none (b : Block) (a : NetAddr) : segmentOf b a = none ↔ ∀ d, inRange (gatewayOf b d) a = false := by
  simp [segmentOf, List.find?_eq_none, mem_segments]

/-- R163: a class has room for a frame. -/
theorem classFits_iff (b : Block) (k : UplinkClass) (f : UplinkContent) :
    classFits b k f = true ↔ classBytes b k + uplinkBytes f ≤ classLimit k := by simp [classFits]

/-- R189: the head entry can be sent: to a collector in the OFFICE range with a neighbour entry, or to one outside every
range over a line with room. -/
theorem sendHead_isSome (a : NetAddr) (e : NoticeEntry) (b : Block) : (sendHead a e b).isSome = true ↔
    (inRange (gatewayOf b .office) a = true ∧ neighbour b .office a ≠ none) ∨
    ((∀ d, inRange (gatewayOf b d) a = false) ∧ b.line.up = true ∧
      classBytes b .management + uplinkBytes (.management (MgmtReply.mk 0 (.notice e))) ≤ 16384) := by
  unfold sendHead
  split
  · next ho =>
    have hno : ¬ ∀ d, inRange (gatewayOf b d) a = false := fun hall => by simp [hall .office] at ho
    simp [ho, hno, Option.isSome_iff_ne_none]
  · next ho =>
    simp only [ho, Bool.false_eq_true, false_and, false_or, ← segmentOf_eq_none]
    split
    · next hs => simp [Option.isSome_iff_ne_none.1 hs]
    · next hs => simp [Option.not_isSome_iff_eq_none.1 hs, classFits_iff, classLimit, noticeMessage]

theorem noticeSend?_isSome (b : Block) : (noticeSend? b).isSome = true ↔
    ∃ a e, b.mgmt.collector = some a ∧ b.mgmt.notices.head? = some e ∧ (sendHead a e b).isSome = true := by
  unfold noticeSend?
  split
  · next a e rest ha hn => simp [ha, hn]
  · next hno =>
    constructor
    · simp
    · rintro ⟨a, e, ha, he, -⟩
      obtain ⟨rest, hn⟩ := List.head?_eq_some_iff.1 he
      exact absurd hn (hno a e rest ha)

/-- R121: the entries a block may carry, by the qualification result held. -/
theorem blockCapacity_eq (b : Block) : blockCapacity b = (match b.line.result.map QualResult.result with
    | some .classA => 128
    | some .classB => 32
    | _ => 8) := by
  unfold blockCapacity journalBlockSize
  cases b.line.result.map QualResult.result with
  | none => rfl
  | some r => cases r <;> rfl

/-- R121: a block can be handed. -/
theorem blockReady_iff (b : Block) : blockReady b = true ↔ b.till.sent < b.till.journal.length ∧ b.line.up = true ∧
    classBytes b .journal + (8 + 32 * min (blockCapacity b) (b.till.journal.length - b.till.sent)) ≤ 49152 := by
  simp [blockReady, classFits_iff, classLimit, nextBlock, uplinkBytes, journalBlockBytes, unsentEntries, and_assoc,
    and_left_comm]

/-! ## Each group of events, in the order of `due` -/

/-- No branch of a chain of tests is taken. -/
theorem ite_some_eq_none {α : Type} {p : Prop} [Decidable p] {x : α} {r : Option α} :
    (if p then some x else r) = none ↔ ¬ p ∧ r = none := by
  split <;> simp [*]

/-- NOTICE_SEND is due where the head entry can be sent. -/
theorem eventDue_noticeSend_iff : EventDue b .noticeSend ↔ (noticeSend? b).isSome = true := by
  rw [noticeSend?_isSome]
  constructor
  · intro h
    cases h with
    | noticeToOffice a hc hn ha hp =>
      obtain ⟨e, he⟩ := Option.isSome_iff_exists.1 (List.isSome_head?.2 hn)
      exact ⟨a, e, hc, he, (sendHead_isSome a e b).2 (Or.inl ⟨ha, hp⟩)⟩
    | noticeToLine a e hc he ha hu hf => exact ⟨a, e, hc, he, (sendHead_isSome a e b).2 (Or.inr ⟨ha, hu, hf⟩)⟩
  · rintro ⟨a, e, hc, he, hs⟩
    rcases (sendHead_isSome a e b).1 hs with ⟨ha, hp⟩ | ⟨ha, hu, hf⟩
    · exact .noticeToOffice a hc (List.isSome_head?.1 (by simp [he])) ha hp
    · exact .noticeToLine a e hc he ha hu hf

/-- JOURNAL_BLOCK is due where a block can be handed. -/
theorem eventDue_journalBlock_iff : EventDue b .journalBlock ↔ blockReady b = true := by
  rw [blockReady_iff]
  constructor
  · rintro ⟨⟩
    next capacity hs hu hc hf =>
      have hcapacity : capacity = blockCapacity b := hc.trans (blockCapacity_eq b).symm
      exact ⟨hs, hu, hcapacity ▸ hf⟩
  · rintro ⟨hs, hu, hf⟩
    exact .journalBlock _ hs hu (blockCapacity_eq b) hf

theorem dueHandoff_sound (h : dueHandoff b = some c) : EventDue b c := by
  unfold dueHandoff at h
  split at h
  · next hh => cases h; exact .itemRetarget (by simpa using hh)
  · split at h
    · next hh => cases h; exact .templateRetarget (by simpa using hh)
    · split at h
      · next hh => cases h; exact .sweepVisit (Option.isSome_iff_ne_none.1 hh)
      · split at h
        · next hh => cases h; exact eventDue_noticeSend_iff.2 hh
        · split at h
          · next hh => cases h; exact eventDue_journalBlock_iff.2 hh
          · cases h

theorem dueHandoff_none (h : dueHandoff b = none) : b.labels.handoffs = [] ∧ b.labels.templateHandoffs = [] ∧
    b.labels.sweep = none ∧ ¬ EventDue b .noticeSend ∧ ¬ EventDue b .journalBlock := by
  rw [eventDue_noticeSend_iff, eventDue_journalBlock_iff]
  simp only [dueHandoff, ite_some_eq_none] at h
  simpa using h

theorem runOut_iff (t : Option Nat) : runOut t = true ↔ t = some 0 := by simp [runOut]

theorem dueStore_sound (h : dueStore b = some c) : EventDue b c := by
  unfold dueStore at h
  split at h
  · next hh => cases h; exact .drainTimer ((runOut_iff _).1 hh)
  · split at h
    · next hh => cases h; exact .clock hh
    · split at h
      · next hh => cases h; exact .governor hh
      · split at h
        · next hh => cases h; exact .save hh
        · cases h

theorem dueStore_none (h : dueStore b = none) : b.mode.drain ≠ some 0 ∧ b.time.toSecond ≠ 0 ∧ b.time.toGovernor ≠ 0 ∧
    b.mgmt.save.map SaveInProgress.remaining ≠ some 0 := by
  simpa [dueStore, runOut_iff, ite_some_eq_none] using h

theorem dueLine_sound (h : dueLine b = some c) : EventDue b c := by
  unfold dueLine at h
  simp only [Bool.and_eq_true, decide_eq_true_eq, runOut_iff, Option.bind_eq_some_iff] at h
  split at h
  · next hh => cases h; exact .lossTimer hh.1 hh.2
  · split at h
    · next hh => cases h; exact .aliveTimer hh
    · split at h
      · next hh => cases h; exact .loopbackTimer hh.1 hh.2
      · split at h
        · next hh => cases h; obtain ⟨q, hq, ht⟩ := hh; exact .qualifyTimer q hq ht
        · split at h
          · next hh => cases h; exact .hold hh
          · cases h

theorem dueLine_none (h : dueLine b = none) : ¬ (b.line.up = true ∧ b.line.loss = some 0) ∧ b.line.aliveTimer ≠ 0 ∧
    ¬ (b.line.loopback ≠ .off ∧ b.line.loopTimer = some 0) ∧
    ¬ (∃ q, b.line.qual = some q ∧ q.timer = some 0) ∧ b.exch.hold ≠ some 0 := by
  unfold dueLine at h
  simp only [Bool.and_eq_true, decide_eq_true_eq, runOut_iff, Option.bind_eq_some_iff] at h
  simpa [ite_some_eq_none] using h

/-- The record of a till by its place. -/
theorem tillRecord_succ (b : Block) (x : Fin 96) : tillRecord b (x.val + 1) = b.till.records.get x := by
  simp [tillRecord]

theorem silenceDue_iff (b : Block) (n : Nat) :
    silenceDue b n = true ↔ (tillRecord b n).state = .active ∧ (tillRecord b n).timer = some 0 := by
  simp [silenceDue, runOut_iff]

theorem dueTill_sound (h : dueTill b = some c) : EventDue b c := by
  unfold dueTill at h
  split at h
  · next hh => cases h; exact .ackTimer ((runOut_iff _).1 hh)
  · obtain ⟨n, hn, rfl⟩ := Option.map_eq_some_iff.1 h
    obtain ⟨x, hx, rfl⟩ := List.mem_map.1 (List.mem_of_find?_eq_some hn)
    have hdue := (silenceDue_iff b _).1 (List.find?_some hn)
    rw [tillRecord_succ b ⟨x, List.mem_range.1 hx⟩] at hdue
    exact .silenceTimer ⟨x, List.mem_range.1 hx⟩ hdue.1 hdue.2

theorem dueTill_none (h : dueTill b = none) : b.till.ackTimer ≠ some 0 ∧
    ∀ x : Fin 96, ¬ ((b.till.records.get x).state = .active ∧ (b.till.records.get x).timer = some 0) := by
  unfold dueTill at h
  split at h
  · cases h
  · next hh =>
    refine ⟨fun e => hh ((runOut_iff _).2 e), fun x hx => ?_⟩
    have hall := List.find?_eq_none.1 (Option.map_eq_none_iff.1 h) (x.val + 1)
      (List.mem_map_of_mem (List.mem_range.2 x.isLt))
    rw [silenceDue_iff, tillRecord_succ] at hall
    exact hall hx

theorem overAge_iff (b : Block) (e : AddressEntry) :
    overAge b e = true ↔ b.fwd.aging * 1000 ≤ b.time.now - e.heardAt := decide_eq_true_iff

theorem dueAddress_sound (h : dueAddress b = some c) : EventDue b c := by
  obtain ⟨p, hp, rfl⟩ := Option.map_eq_some_iff.1 h
  exact .aging p (List.mem_of_find?_eq_some hp) ((overAge_iff b p.2).1 (List.find?_some (p := fun e : Nat × AddressEntry => overAge b e.2) hp))

theorem dueAddress_none (h : dueAddress b = none) (p : Nat × AddressEntry) (hp : p ∈ b.fwd.addresses) :
    ¬ b.fwd.aging * 1000 ≤ b.time.now - p.2.heardAt := by
  rw [← overAge_iff]
  exact List.find?_eq_none.1 (Option.map_eq_none_iff.1 h) p hp

theorem overTime_iff (now : Nat) (g : GuestProfile) (x : Session) :
    overTime now g x = true ↔ g.timeLimit * 1000 ≤ now - x.start := decide_eq_true_iff

theorem overIdle_iff (now : Nat) (g : GuestProfile) (x : Session) :
    overIdle now g x = true ↔ g.idleLimit * 1000 ≤ now - x.lastTraffic := decide_eq_true_iff

theorem overCooldown_iff (now : Nat) (g : GuestProfile) (x : Session) :
    overCooldown now g x = true ↔ g.cooldown * 1000 ≤ now - x.cooldownStart.getD now := decide_eq_true_iff

theorem dueGuest_sound (h : dueGuest b = some c) : EventDue b c := by
  obtain ⟨p, hp, hd⟩ := List.exists_of_findSome?_eq_some h
  unfold sessionDue at hd
  simp only [overTime_iff, overIdle_iff, overCooldown_iff] at hd
  split at hd
  · next hs =>
    split at hd
    · next ht => cases hd; exact .timeLimit p hp (Or.inl hs) ht
    · split at hd
      · next ht => cases hd; exact .idleLimit p hp hs ht
      · cases hd
  · next hs =>
    split at hd
    · next ht => cases hd; exact .timeLimit p hp (Or.inr hs) ht
    · cases hd
  · next hs =>
    split at hd
    · next ht => cases hd; exact .cooldown p hp hs ht
    · cases hd

theorem dueGuest_none (h : dueGuest b = none) (p : Nat × Session) (hp : p ∈ b.guest.sessions) :
    (p.2.state = .active ∨ p.2.state = .exhausted → ¬ b.guest.profile.timeLimit * 1000 ≤ b.time.now - p.2.start) ∧
    (p.2.state = .active → ¬ b.guest.profile.idleLimit * 1000 ≤ b.time.now - p.2.lastTraffic) ∧
    (p.2.state = .cooldown →
      ¬ b.guest.profile.cooldown * 1000 ≤ b.time.now - p.2.cooldownStart.getD b.time.now) := by
  have hd := List.findSome?_eq_none_iff.1 h p hp
  unfold sessionDue at hd
  cases hs : p.2.state <;>
    simpa [hs, overTime_iff, overIdle_iff, overCooldown_iff, ite_some_eq_none] using hd

theorem dueBeacon_sound (h : dueBeacon b = some c) : EventDue b c := by
  unfold dueBeacon at h
  split at h
  · next hh => cases h; exact .beacon hh
  · cases h

theorem dueBeacon_none (h : dueBeacon b = none) : b.time.toBeacon ≠ 0 := by simpa [dueBeacon] using h

/-- An event found due is due. -/
theorem due_sound (h : due b = some c) : EventDue b c := by
  simp only [due, Option.orElse_eq_or, Option.or_eq_some_iff] at h
  rcases h with h | ⟨-, h | ⟨-, h | ⟨-, h | ⟨-, h | ⟨-, h | ⟨-, h⟩⟩⟩⟩⟩⟩
  · exact dueHandoff_sound h
  · exact dueStore_sound h
  · exact dueLine_sound h
  · exact dueTill_sound h
  · exact dueAddress_sound h
  · exact dueGuest_sound h
  · exact dueBeacon_sound h

/-- Where none is found due, none is. -/
theorem due_complete (h : due b = none) (c : Instr) : ¬ EventDue b c := by
  simp only [due, Option.orElse_eq_or, Option.or_eq_none_iff] at h
  obtain ⟨hhandoff, hstore, hline, htill, haddress, hguest, hbeacon⟩ := h
  obtain ⟨hitems, htemplates, hsweep, hnotice, hblock⟩ := dueHandoff_none hhandoff
  obtain ⟨hdrain, hsecond, hgovernor, hsave⟩ := dueStore_none hstore
  obtain ⟨hloss, halive, hloop, hqual, hhold⟩ := dueLine_none hline
  obtain ⟨hack, hsilence⟩ := dueTill_none htill
  intro e
  cases e with
  | itemRetarget h => exact h hitems
  | templateRetarget h => exact h htemplates
  | sweepVisit h => exact h hsweep
  | noticeToOffice a hc hn ha hp => exact hnotice (.noticeToOffice a hc hn ha hp)
  | noticeToLine a e hc he ha hu hf => exact hnotice (.noticeToLine a e hc he ha hu hf)
  | journalBlock n hs hu hc hf => exact hblock (.journalBlock n hs hu hc hf)
  | drainTimer h => exact hdrain h
  | clock h => exact hsecond h
  | governor h => exact hgovernor h
  | save h => exact hsave h
  | lossTimer hu h => exact hloss ⟨hu, h⟩
  | aliveTimer h => exact halive h
  | loopbackTimer hl h => exact hloop ⟨hl, h⟩
  | qualifyTimer q hq h => exact hqual ⟨q, hq, h⟩
  | hold h => exact hhold h
  | ackTimer h => exact hack h
  | silenceTimer x hs h => exact hsilence x ⟨hs, h⟩
  | aging p hp h => exact dueAddress_none haddress p hp h
  | timeLimit p hp hs h =>
    obtain ⟨htime, -, -⟩ := dueGuest_none hguest p hp
    exact htime hs h
  | idleLimit p hp hs h =>
    obtain ⟨-, hidle, -⟩ := dueGuest_none hguest p hp
    exact hidle hs h
  | cooldown p hp hs h =>
    obtain ⟨-, -, hcooldown⟩ := dueGuest_none hguest p hp
    exact hcooldown hs h
  | beacon h => exact dueBeacon_none hbeacon h

/-! ## The millisecond -/

theorem tick_touches (b : Block) : Touches [.mode, .till, .guest, .line, .exch, .mgmt, .time] b (tick b) := by
  refine Touches.time (Touches.mgmt (Touches.exch (Touches.till (Touches.line (Touches.mode
    (Touches.fillBuckets (.refl _ b) ?_) ?_) ?_) ?_) ?_) ?_) ?_ <;> decide

theorem step_of_empty {s : State} (h : s.pending = []) : step s = idle s := by simp [step, h]

/-- Settles O2: an event found due is due and the other way round, and with none due the step is a tick. -/
theorem emptyQueueRunsThePartsOwnTime : Obligations.EmptyQueueRunsThePartsOwnTime := by
  unfold Obligations.EmptyQueueRunsThePartsOwnTime
  refine ⟨fun b => ⟨fun c => due_sound, due_complete⟩, fun s hs => ⟨fun c hc => ?_, fun hn => ⟨tick s.block, ?_,
    tick_touches _, rfl, rfl, rfl, rfl, rfl, rfl, rfl, fun hw => tableFind_mapValues _ _ _⟩⟩⟩
  · rw [step_of_empty hs, idle, hc]
  · rw [step_of_empty hs, idle, hn]
    rfl

end OwnTime

end Sys2Proof.Machine

namespace Sys2Proof.Machine

/-! # The records of PORTS, POLICY and SCHEDULE, as their owners' own events (R8, R11, R128 to R140, R189) -/

section SettingsRecords

variable {b : Block} {s : State}

/-- A row that is its table's own event reports the result and leaves the block of the record's write. -/
theorem exec_of_event {i : Instr} {n : Nat} {t : TableName} {r : WriteRecord} {c : Block} {v : Verdict}
    (he : effect i s.block = writeBy (.event n) t r s.block) (hw : writeAt t n r s.block = (c, v)) :
    exec i s = s.reports v c := by
  rw [exec_eq_effect, he, writeBy_event, hw]
  rfl

theorem within_iff (lo hi n : Nat) : within lo hi n = true ↔ lo ≤ n ∧ n ≤ hi := by simp [within]

/-! ## Ports (R128, R129) -/

theorem checkPort_none {w : PortWrite} (h : w.role = none ∨ w.staffTag = 0 ∨ 4094 < w.staffTag ∨ w.guestTag = 0 ∨
    4094 < w.guestTag ∨ w.staffTag = w.guestTag) : checkPort w = none := by
  unfold checkPort
  split
  · next role hr =>
    split
    · next hin =>
      simp only [Bool.and_eq_true, within_iff, decide_eq_true_eq] at hin
      simp only [hr, reduceCtorEq, false_or] at h
      omega
    · rfl
  · rfl

theorem checkPort_some {w : PortWrite} {role : PortRole} (hr : w.role = some role) (h1 : 1 ≤ w.staffTag)
    (h2 : w.staffTag ≤ 4094) (h3 : 1 ≤ w.guestTag) (h4 : w.guestTag ≤ 4094) (hne : w.staffTag ≠ w.guestTag) :
    checkPort w = some (PortSettings.mk role w.staffTag w.guestTag) := by
  simp [checkPort, hr, within, h1, h2, h3, h4, hne]

/-- R129, R134: the entries kept by a test; the full flag is cleared where an entry goes. -/
theorem keepAddresses_decide (p : Nat × AddressEntry → Prop) [DecidablePred p] (b : Block) :
    keepAddresses (fun e => decide (p e)) b = { b with fwd := { b.fwd with
      addresses := b.fwd.addresses.filter (fun e => decide (p e))
      full := b.fwd.full && decide (∀ e ∈ b.fwd.addresses, p e) } } := by
  have hall : decide ((b.fwd.addresses.filter (fun e => decide (p e))).length = b.fwd.addresses.length) =
      decide (∀ e ∈ b.fwd.addresses, p e) := by
    rw [decide_eq_decide, List.length_filter_eq_length_iff]
    simp
  rw [keepAddresses, hall]

theorem writePorts_outside {n : Nat} {r : PortWrite} (hn : 8 ≤ n) :
    writeAt .ports n (.port r) b = (b, some .fieldRange) := by
  simp [writeAt, writePorts, Nat.not_lt.2 hn]

theorem writePorts_port (p : Port) (r : PortWrite) :
    writeAt .ports p.val (.port r) b = applyPortWrite p r b := by
  simp [writeAt, writePorts]

/-- R129: a port record that changes loses the port's address entries. -/
theorem applyPortWrite_changed {p : Port} {r : PortWrite} {x : PortSettings} (hx : checkPort r = some x)
    (hne : x ≠ (b.fwd.ports.get p).settings) : applyPortWrite p r b = ({ b with fwd := { b.fwd with
      ports := b.fwd.ports.set p.val { b.fwd.ports.get p with settings := x } p.isLt
      addresses := b.fwd.addresses.filter (fun e => decide (e.2.port ≠ p))
      full := b.fwd.full && decide (∀ e ∈ b.fwd.addresses, e.2.port ≠ p) } }, none) := by
  simp only [applyPortWrite, hx, if_neg hne, dropPortAddresses, keepAddresses_decide]
  rfl

/-! ## Gateway records (R131) -/

/-- Numbers that agree after a shift agree after a longer one. -/
theorem div_pow_eq_of_le {x y i j : Nat} (hij : j ≤ i) (h : x / 2 ^ j = y / 2 ^ j) : x / 2 ^ i = y / 2 ^ i := by
  obtain ⟨k, rfl⟩ := Nat.exists_eq_add_of_le hij
  rw [Nat.pow_add, ← Nat.div_div_eq_div_mul, ← Nat.div_div_eq_div_mul, h]

theorem inRange_iff (g : Gateway) (a : NetAddr) : inRange g a = true ↔
    a.toNat / 2 ^ (32 - g.prefixLength) = g.address.toNat / 2 ^ (32 - g.prefixLength) := decide_eq_true_iff

theorem rangesMeet_iff (g k : Gateway) : rangesMeet g k = true ↔
    g.address.toNat / 2 ^ (32 - min g.prefixLength k.prefixLength)
      = k.address.toNat / 2 ^ (32 - min g.prefixLength k.prefixLength) := decide_eq_true_iff

/-- R131: two ranges meet exactly where they share an address: the gateway address of the narrower one. -/
theorem rangesMeet_iff_shared (g k : Gateway) :
    rangesMeet g k = true ↔ ∃ a, inRange g a = true ∧ inRange k a = true := by
  simp only [rangesMeet_iff, inRange_iff]
  rcases Nat.le_total g.prefixLength k.prefixLength with hle | hle
  · rw [Nat.min_eq_left hle]
    constructor
    · exact fun h => ⟨k.address, h.symm, rfl⟩
    · rintro ⟨a, hg, hk⟩
      exact hg.symm.trans (div_pow_eq_of_le (by omega) hk)
  · rw [Nat.min_eq_right hle]
    constructor
    · exact fun h => ⟨g.address, rfl, h⟩
    · rintro ⟨a, hg, hk⟩
      exact (div_pow_eq_of_le (by omega) hg.symm).trans hk

/-- A number is the last before a multiple exactly where the next is one. -/
theorem mod_eq_pred_iff {x m : Nat} (hm : 0 < m) : x % m = m - 1 ↔ (x + 1) % m = 0 := by
  obtain ⟨k, rfl⟩ := Nat.exists_eq_succ_of_ne_zero hm.ne'
  simp [Nat.succ_mod_succ_eq_zero_iff]

/-- R131: a gateway address stands at an end of its range. -/
theorem atRangeEnd_iff (g : Gateway) : atRangeEnd g = true ↔
    g.address.toNat % 2 ^ (32 - g.prefixLength) = 0 ∨ (g.address.toNat + 1) % 2 ^ (32 - g.prefixLength) = 0 := by
  rw [atRangeEnd, Bool.or_eq_true, decide_eq_true_iff, decide_eq_true_iff,
    mod_eq_pred_iff (Nat.pow_pos (by decide))]

/-- R131, R189: an address serves as a collector. -/
theorem collectorServes_iff (b : Block) (a : NetAddr) : collectorServes b a = true ↔
    (∀ d, d ≠ .office → inRange (gatewayOf b d) a = false) ∧ ∀ d, (gatewayOf b d).address ≠ a := by
  simp [collectorServes, isGateway, List.all_eq_true, mem_segments, or_iff_not_imp_left]

theorem collectorStands_iff (b : Block) : collectorStands b = true ↔
    ∀ x, b.mgmt.collector = some x → collectorServes b x = true := by
  unfold collectorStands
  cases b.mgmt.collector <;> simp

/-- R131: a gateway write is accepted: the length of its range and its place in its range serve, it shares no address with
another segment's range, and the collector still serves. -/
theorem gatewayAccepted_iff (d : Segment) (w : GatewayWrite) (b : Block) : gatewayAccepted d w b = true ↔
    (8 ≤ w.prefixLength ∧ w.prefixLength ≤ 30) ∧ atRangeEnd (Gateway.mk w.address w.prefixLength) = false ∧
    (∀ e, e ≠ d → rangesMeet (Gateway.mk w.address w.prefixLength) (gatewayOf b e) = false) ∧
    collectorStands (setGateway d (Gateway.mk w.address w.prefixLength) b) = true := by
  simp [gatewayAccepted, within_iff, List.all_eq_true, mem_segments, or_iff_not_imp_left, and_assoc]

/-- R131: the same of the addresses themselves. -/
theorem gatewayAccepted_iff_serves (seg : Segment) (w : GatewayWrite) (b : Block) : gatewayAccepted seg w b = true ↔
    8 ≤ w.prefixLength ∧ w.prefixLength ≤ 30 ∧ w.address.toNat % 2 ^ (32 - w.prefixLength) ≠ 0 ∧
    (w.address.toNat + 1) % 2 ^ (32 - w.prefixLength) ≠ 0 ∧
    (∀ d a, d ≠ seg → inRange (Gateway.mk w.address w.prefixLength) a = true → inRange (gatewayOf b d) a = false) ∧
    ∀ x, b.mgmt.collector = some x →
      (∀ d, d ≠ .office →
        inRange (gatewayOf (setGateway seg (Gateway.mk w.address w.prefixLength) b) d) x = false) ∧
      ∀ d, (gatewayOf (setGateway seg (Gateway.mk w.address w.prefixLength) b) d).address ≠ x := by
  have happart : (∀ e, e ≠ seg → rangesMeet (Gateway.mk w.address w.prefixLength) (gatewayOf b e) = false) ↔
      ∀ d a, d ≠ seg → inRange (Gateway.mk w.address w.prefixLength) a = true → inRange (gatewayOf b d) a = false := by
    simp only [← Bool.not_eq_true, rangesMeet_iff_shared, not_exists, not_and]
    exact ⟨fun h d a hd ha => h d hd a ha, fun h d hd a ha => h d a hd ha⟩
  rw [gatewayAccepted_iff, happart, ← Bool.not_eq_true, atRangeEnd_iff, collectorStands_iff, not_or, and_assoc, and_assoc]
  simp only [collectorServes_iff]
  rfl

/-- R131, R189: an address that lies in another segment's range, or is a gateway address, does not serve. -/
theorem collectorServes_false {a : NetAddr}
    (h : (∃ d, d ≠ .office ∧ inRange (gatewayOf b d) a = true) ∨ ∃ d, (gatewayOf b d).address = a) :
    collectorServes b a = false := by
  rw [← Bool.not_eq_true, collectorServes_iff]
  rintro ⟨hapart, hgateway⟩
  rcases h with ⟨d, hd, ha⟩ | ⟨d, hd⟩
  · simp [hapart d hd] at ha
  · exact hgateway d hd

/-- R131: each condition under which a gateway write is refused. -/
theorem gatewayAccepted_false {seg : Segment} {w : GatewayWrite}
    (h : w.prefixLength < 8 ∨ 30 < w.prefixLength ∨ w.address.toNat % 2 ^ (32 - w.prefixLength) = 0 ∨
      (w.address.toNat + 1) % 2 ^ (32 - w.prefixLength) = 0 ∨
      (∃ d a, d ≠ seg ∧ inRange (Gateway.mk w.address w.prefixLength) a = true ∧ inRange (gatewayOf b d) a = true) ∨
      ∃ x, b.mgmt.collector = some x ∧
        ((∃ d, d ≠ .office ∧
          inRange (gatewayOf (setGateway seg (Gateway.mk w.address w.prefixLength) b) d) x = true) ∨
          ∃ d, (gatewayOf (setGateway seg (Gateway.mk w.address w.prefixLength) b) d).address = x)) :
    gatewayAccepted seg w b = false := by
  rw [← Bool.not_eq_true, gatewayAccepted_iff]
  rintro ⟨hlength, hend, hapart, hstands⟩
  rw [← Bool.not_eq_true, atRangeEnd_iff] at hend
  rcases h with h | h | h | h | ⟨d, a, hd, ha, hda⟩ | ⟨x, hx, hserves⟩
  · omega
  · omega
  · exact hend (Or.inl h)
  · exact hend (Or.inr h)
  · have := (rangesMeet_iff_shared _ _).2 ⟨a, ha, hda⟩
    simp [hapart d hd] at this
  · have := (collectorStands_iff _).1 hstands x hx
    simp [collectorServes_false hserves] at this

theorem gatewaySegment_position (d : Segment) : gatewaySegment (8 + (segmentIndex d).val) = d := by cases d <;> rfl

theorem writePorts_gateway (d : Segment) (r : GatewayWrite) :
    writeAt .ports (8 + (segmentIndex d).val) (.gateway r) b = applyGatewayWrite d r b := by
  have hin : within 8 11 (8 + (segmentIndex d).val) = true := by cases d <;> rfl
  simp [writeAt, writePorts, hin, gatewaySegment_position]

theorem writePorts_gateway_outside {n : Nat} {r : GatewayWrite} (hn : n < 8 ∨ 11 < n) :
    writeAt .ports n (.gateway r) b = (b, some .fieldRange) := by
  have hin : within 8 11 n = false := by rw [← Bool.not_eq_true, within_iff]; omega
  simp [writeAt, writePorts, hin]

/-- What is found in a table whose records were rewritten in place. -/
theorem tableFind_map {α : Type} (t : Table α) (f : Nat → α → α) (k : Nat) :
    tableFind (t.map (fun p => (p.1, f p.1 p.2))) k = (tableFind t k).map (f k) := by
  induction t with
  | nil => rfl
  | cons p rest ih =>
    obtain ⟨j, v⟩ := p
    simp only [List.map_cons, tableFind]
    split
    · next e => simp [e]
    · exact ih

/-- R131: the entry of a station after a gateway write. -/
theorem netUnder_addressKey (seg d : Segment) (hw : HwAddr) (g : Gateway) (e : AddressEntry) :
    netUnder seg g (addressKey d hw) e =
      if d = seg ∧ e.net.any (fun a => !inRange g a) = true then { e with net := none } else e := by
  unfold netUnder
  cases hn : e.net with
  | none => simp
  | some a => simp

/-- R131: what an accepted gateway write leaves. -/
def gatewayWritten (seg : Segment) (g : Gateway) (b : Block) : Block :=
  setAddresses (b.fwd.addresses.map (fun p => (p.1, netUnder seg g p.1 p.2))) (setGateway seg g b)

theorem applyGatewayWrite_accepted {seg : Segment} {w : GatewayWrite} (h : gatewayAccepted seg w b = true) :
    applyGatewayWrite seg w b = (gatewayWritten seg (Gateway.mk w.address w.prefixLength) b, none) := by
  simp [applyGatewayWrite, h, gatewayWritten]

theorem applyGatewayWrite_refused {seg : Segment} {w : GatewayWrite} (h : gatewayAccepted seg w b = false) :
    applyGatewayWrite seg w b = (b, some .fieldRange) := by
  simp [applyGatewayWrite, h]

theorem getAddress_gatewayWritten (seg d : Segment) (hw : HwAddr) (g : Gateway) (b : Block) :
    getAddress (gatewayWritten seg g b) d hw = (getAddress b d hw).map (fun e =>
      if d = seg ∧ e.net.any (fun a => !inRange g a) = true then { e with net := none } else e) := by
  refine (tableFind_map b.fwd.addresses (netUnder seg g) (addressKey d hw)).trans ?_
  exact congrArg (fun f => Option.map f _) (funext (netUnder_addressKey seg d hw g))

/-! ## Aging time and collector (R134, R189) -/

theorem writePorts_aging_refused {n aging : Nat} (h : n ≠ 12 ∨ aging < 10 ∨ 3600 < aging) :
    writeAt .ports n (.forwarder aging) b = (b, some .fieldRange) := by
  simp only [writeAt, writePorts]
  split
  · have hin : within 10 3600 aging = false := by rw [← Bool.not_eq_true, within_iff]; omega
    simp [applyAgingWrite, hin]
  · rfl

/-- R134: a shorter aging time removes the entries that have reached it. -/
theorem writePorts_aging {aging : Nat} (h10 : 10 ≤ aging) (h3600 : aging ≤ 3600) :
    writeAt .ports 12 (.forwarder aging) b = ({ b with fwd := { b.fwd with
      aging := aging
      addresses := b.fwd.addresses.filter (fun e => decide (b.time.now - e.2.heardAt < aging * 1000))
      full := b.fwd.full && decide (∀ e ∈ b.fwd.addresses, b.time.now - e.2.heardAt < aging * 1000) } }, none) := by
  have hin : within 10 3600 aging = true := (within_iff _ _ _).2 ⟨h10, h3600⟩
  simp only [writeAt, writePorts, applyAgingWrite, hin, if_true]
  rw [keepAddresses_decide (fun e => addressAge b.time.now e.2 < aging * 1000)]
  rfl

theorem applyCollectorWrite_refused {x : NetAddr} (h : collectorServes b x = false) :
    applyCollectorWrite (some x) b = (b, some .fieldRange) := by simp [applyCollectorWrite, h]

theorem applyCollectorWrite_accepted {a : Option NetAddr} (h : ∀ x, a = some x → collectorServes b x = true) :
    applyCollectorWrite a b = ({ b with mgmt := { b.mgmt with collector := a } }, none) := by
  cases a with
  | none => rfl
  | some x => simp [applyCollectorWrite, h x rfl]

theorem writePorts_collector (a : Option NetAddr) :
    writeAt .ports 13 (.collector a) b = applyCollectorWrite a b := rfl

theorem writePorts_collector_outside {n : Nat} {a : Option NetAddr} (hn : n ≠ 13) :
    writeAt .ports n (.collector a) b = (b, some .fieldRange) := by simp [writeAt, writePorts, hn]

/-! ## The policy matrix (R140) -/

theorem fixedCell_iff (n : Nat) : fixedCell n = true ↔ ReadOnlyAt .policy n := by
  simp [fixedCell, within_iff, ReadOnlyAt, or_assoc]

theorem writePolicy_readOnly {n : Nat} {r : WriteRecord} (h : ReadOnlyAt .policy n) :
    writeAt .policy n r b = (b, some .readOnly) := by
  simp [writeAt, writePolicy, (fixedCell_iff n).2 h]

theorem writePolicy_refused {n : Nat} {allow : Coded Bool} (h : ¬ ReadOnlyAt .policy n) (hr : 25 ≤ n ∨ allow = none) :
    writeAt .policy n (.policyCell allow) b = (b, some .fieldRange) := by
  rw [← fixedCell_iff, Bool.not_eq_true] at h
  simp only [writeAt, writePolicy, h, Bool.false_eq_true, if_false]
  split
  · next hn =>
    rw [hr.resolve_left (Nat.not_le.2 hn)]
    simp [applyPolicyWrite, h]
  · rfl

theorem writePolicy_accepted (x : Fin 25) (v : Bool) (h : ¬ ReadOnlyAt .policy x.val) :
    writeAt .policy x.val (.policyCell (some v)) b =
      ({ b with fwd := { b.fwd with policy := b.fwd.policy.set x.val v x.isLt } }, none) := by
  rw [← fixedCell_iff, Bool.not_eq_true] at h
  simp [writeAt, writePolicy, h, applyPolicyWrite]

/-! ## The schedule and the mode settings (R8, R11) -/

theorem allNamed_map_some {α : Type} (l : List α) : allNamed (l.map some) = some l := by
  induction l with
  | nil => rfl
  | cons x rest ih => simp [allNamed, ih]

theorem allNamed_of_unnamed {α : Type} {l : List (Coded α)} (h : none ∈ l) : allNamed l = none := by
  induction l with
  | nil => simp at h
  | cons x rest ih =>
    cases x with
    | none => rfl
    | some y =>
      have hrest : none ∈ rest := by simpa using h
      simp [allNamed, ih hrest]

theorem checkSchedule_none {w : ScheduleWrite}
    (h : 86399 < w.time ∨ w.action = none ∨ w.enabled = none ∨ none ∈ w.weekdays) : checkSchedule w = none := by
  unfold checkSchedule
  split
  · next days action enabled hd ha he =>
    split
    · next hin =>
      rw [within_iff] at hin
      rcases h with h | h | h | h
      · omega
      · simp [ha] at h
      · simp [he] at h
      · simp [allNamed_of_unnamed h] at hd
    · rfl
  · rfl

theorem checkSchedule_some {w : ScheduleWrite} {days : List Weekday} {action : ScheduleAction} {enabled : Bool}
    (ht : w.time ≤ 86399) (ha : w.action = some action) (he : w.enabled = some enabled) (hd : w.weekdays = days.map some) :
    checkSchedule w = some (ScheduleEntry.mk days w.time action enabled) := by
  simp [checkSchedule, ha, he, hd, allNamed_map_some, within, ht]

theorem writeSchedule_entry (x : Fin 16) (r : ScheduleWrite) :
    writeAt .schedule x.val (.scheduleEntry r) b = applyScheduleWrite x r b := by simp [writeAt, writeSchedule]

theorem writeSchedule_entry_refused {n : Nat} {r : ScheduleWrite} (h : 16 ≤ n ∨ checkSchedule r = none) :
    writeAt .schedule n (.scheduleEntry r) b = (b, some .fieldRange) := by
  simp only [writeAt, writeSchedule]
  split
  · next hn => simp [applyScheduleWrite, h.resolve_left (Nat.not_le.2 hn)]
  · rfl

theorem checkModeSettings_none {w : ModeSettingsWrite}
    (h : w.drainPeriod < 60 ∨ 3600 < w.drainPeriod ∨ w.epochWeekday = none) : checkModeSettings w = none := by
  unfold checkModeSettings
  split
  · next d hd =>
    have hin : within 60 3600 w.drainPeriod = false := by
      rw [← Bool.not_eq_true, within_iff]
      simp only [hd, reduceCtorEq, or_false] at h
      omega
    simp [hin]
  · rfl

theorem writeSchedule_settings_refused {n : Nat} {r : ModeSettingsWrite} (h : n ≠ 16 ∨ checkModeSettings r = none) :
    writeAt .schedule n (.modeSettings r) b = (b, some .fieldRange) := by
  simp only [writeAt, writeSchedule]
  split
  · next hn => simp [applyModeSettings, h.resolve_left (not_not.2 hn)]
  · rfl

/-- Settles O56, record by record. -/
theorem portPolicyAndScheduleRecordsAreWritten : Obligations.PortPolicyAndScheduleRecordsAreWritten := by
  unfold Obligations.PortPolicyAndScheduleRecordsAreWritten
  refine ⟨fun n r s => ⟨fun hn => exec_of_event rfl (writePorts_outside hn), ?port⟩,
    fun n r s => ⟨fun hn => exec_of_event rfl (writePorts_gateway_outside hn), ?gateway⟩,
    fun n aging s => ⟨fun h => exec_of_event rfl (writePorts_aging_refused h), ?aging⟩,
    fun n a s => ⟨?collectorRefused, ?collector⟩,
    fun n allow s => ⟨fun h => exec_of_event rfl (writePolicy_readOnly h), fun h =>
      ⟨fun hr => exec_of_event rfl (writePolicy_refused h hr), ?policy⟩⟩,
    fun n r s => ⟨?entryRefused, ?entry⟩, fun n r s => ⟨?settingsRefused, ?settings⟩⟩
  case port =>
    rintro p rfl
    refine ⟨fun h => exec_of_event rfl ?_, ?_⟩
    · rw [writePorts_port, applyPortWrite, checkPort_none h]
    · rintro role new hr h1 h2 h3 h4 hne rfl
      have hx := checkPort_some hr h1 h2 h3 h4 hne
      refine ⟨fun hsame => exec_of_event rfl ?_, fun hnew => exec_of_event rfl ?_⟩
      · simp [writePorts_port, applyPortWrite, hx, hsame]
      · rw [writePorts_port, applyPortWrite_changed hx hnew]
  case gateway =>
    rintro seg g c rfl rfl rfl
    refine ⟨fun h => exec_of_event rfl ?_, fun h1 h2 h3 h4 h5 h6 => ?_⟩
    · rw [writePorts_gateway, applyGatewayWrite_refused]
      exact gatewayAccepted_false h
    · refine ⟨gatewayWritten seg (Gateway.mk r.address r.prefixLength) s.block, exec_of_event rfl ?_, rfl,
        fun d hw => getAddress_gatewayWritten _ _ _ _ _⟩
      rw [writePorts_gateway, applyGatewayWrite_accepted]
      exact (gatewayAccepted_iff_serves _ _ _).2 ⟨h1, h2, h3, h4, h5, h6⟩
  case aging =>
    rintro rfl h10 h3600
    exact exec_of_event rfl (writePorts_aging h10 h3600)
  case collectorRefused =>
    intro h
    by_cases hn : n = 13
    · subst hn
      obtain ⟨x, rfl, hx⟩ := h.resolve_left (not_not.2 rfl)
      exact exec_of_event rfl (applyCollectorWrite_refused (collectorServes_false hx))
    · exact exec_of_event rfl (writePorts_collector_outside hn)
  case collector =>
    rintro rfl h
    exact exec_of_event rfl (applyCollectorWrite_accepted fun x hx => (collectorServes_iff _ x).2 (h x hx))
  case policy =>
    rintro x v rfl rfl
    exact exec_of_event rfl (writePolicy_accepted x v h)
  case entryRefused =>
    intro h
    exact exec_of_event rfl (writeSchedule_entry_refused (h.imp_right checkSchedule_none))
  case entry =>
    rintro x days action enabled rfl ht ha he hd
    refine exec_of_event rfl ?_
    rw [writeSchedule_entry, applyScheduleWrite, checkSchedule_some ht ha he hd]
  case settingsRefused =>
    intro h
    exact exec_of_event rfl (writeSchedule_settings_refused (h.imp_right checkModeSettings_none))
  case settings =>
    rintro d rfl h60 h3600 hd
    refine exec_of_event rfl ?_
    simp [writeAt, writeSchedule, applyModeSettings, checkModeSettings, hd, within, h60, h3600]

end SettingsRecords

end Sys2Proof.Machine

namespace Sys2Proof.Machine

/-! # Batches of the exchange (R174, R178 to R181) -/

section Batches

variable {b : Block} {s : State}

/-! ## Frames of head office at the engine -/

theorem fromLine_taken (f : Block → Block) (hu : b.line.up = true) (hl : b.line.loopback = .off) :
    fromLine f b = f b := by
  simp [fromLine, (lineTakes_iff b).2 ⟨hu, hl⟩]

theorem fromLine_ignored (f : Block → Block) (h : b.line.up = false ∨ b.line.loopback ≠ .off) : fromLine f b = b := by
  have hno : lineTakes b = false := by
    rw [← Bool.not_eq_true, lineTakes_iff]
    rcases h with h | h <;> simp [h]
  simp [fromLine, hno]

/-! ## BATCH_START (R178) -/

theorem takeStart_outOfRange {n k : Nat} (h : 4294967295 < n ∨ k = 0 ∨ 256 < k) :
    takeStart n k b = refuseExchange startKind .fieldRange b := by
  have hno : (decide (n ≤ Config.max32) && within 1 256 k) = false := by
    rw [← Bool.not_eq_true, Bool.and_eq_true, decide_eq_true_iff, within_iff, Config.max32]
    omega
  simp [takeStart, hno]

section InRange

variable {n k : Nat} (hn : n ≤ 4294967295) (h1 : 1 ≤ k) (h256 : k ≤ 256)
include hn h1 h256

theorem takeStart_notReady (hs : b.exch.state ≠ .ready) : takeStart n k b = refuseExchange startKind .notInMode b := by
  cases he : b.exch.state with
  | ready => exact absurd he hs
  | idle => simp [takeStart, Config.max32, within, hn, h1, h256, he]
  | qualifying => simp [takeStart, Config.max32, within, hn, h1, h256, he]
  | receiving => simp [takeStart, Config.max32, within, hn, h1, h256, he]

theorem takeStart_ready (hs : b.exch.state = .ready) : takeStart n k b = startByNumber n k b := by
  simp [takeStart, Config.max32, within, hn, h1, h256, hs]

end InRange

theorem startByNumber_next (k : Nat) : startByNumber (b.exch.last + 1) k b =
    { b with exch := { b.exch with state := .receiving, staging := some (Staging.mk [] (b.exch.last + 1) k 0 0) } } := by
  simp [startByNumber, setExchange, newStaging]

theorem startByNumber_again {r : BatchResult} (k : Nat) (hr : b.exch.stored = some r) :
    startByNumber b.exch.last k b = formReply (.batchResult r) b := by
  simp [startByNumber, hr]

theorem startByNumber_outOfOrder {n : Nat} (k : Nat) (hn : n ≠ b.exch.last + 1)
    (h : n ≠ b.exch.last ∨ b.exch.stored = none) : startByNumber n k b = refuseExchange startKind .outOfOrder b := by
  unfold startByNumber
  rw [if_neg hn]
  cases hr : b.exch.stored with
  | none => rfl
  | some r => simp [h.resolve_right (by simp [hr])]

/-! ## EXCHANGE_RECORDS (R179) -/

theorem takeRecords_refused (rs : List ExchangeRecord) (h : b.exch.state ≠ .receiving ∨ b.exch.staging = none) :
    takeRecords rs b = refuseExchange recordsKind .notInMode b := by
  unfold takeRecords
  split
  · next hs hg => simp [hs, hg] at h
  · rfl

theorem takeRecords_receiving {g : Staging} (rs : List ExchangeRecord) (hs : b.exch.state = .receiving)
    (hg : b.exch.staging = some g) :
    takeRecords rs b = { b with exch := { b.exch with staging := some (stageAll rs g) } } := by
  simp [takeRecords, hs, hg]

/-! ## The commit (R180, R181) -/

/-- A reply neither reads nor changes the exchange state. -/
theorem formReply_setExchange (r : ExchangeReply) (x : ExchangeState) (b : Block) :
    formReply r (setExchange x b) = setExchange x (formReply r b) := by
  unfold formReply exchangeTake senderRefused
  simp only [apply_ite (setExchange x)]
  rfl

/-- R180: the results of records applied in order, each on what those before it left. -/
def verdictsOf : List StagedRecord → Block → List Verdict
  | [], _ => []
  | r :: rest, b => (applyStaged r b).2 :: verdictsOf rest (applyStaged r b).1

/-- R180: what records applied in order leave. -/
def appliedBlock (rs : List StagedRecord) (b : Block) : Block := rs.foldl (fun d r => (applyStaged r d).1) b

theorem verdictsOf_length (rs : List StagedRecord) (b : Block) : (verdictsOf rs b).length = rs.length := by
  induction rs generalizing b with
  | nil => rfl
  | cons r rest ih => simp [verdictsOf, ih]

theorem verdictsOf_getElem? {rs : List StagedRecord} {i : Nat} {r : StagedRecord} (b : Block) (h : rs[i]? = some r) :
    (verdictsOf rs b)[i]? = some (applyStaged r (appliedBlock (rs.take i) b)).2 := by
  induction rs generalizing i b with
  | nil => simp at h
  | cons x rest ih =>
    cases i with
    | zero =>
      obtain rfl : x = r := by simpa using h
      rfl
    | succ j => exact ih _ (by simpa using h)

/-- R180: the refusals of a result list, each with its position from `i` on. -/
def refusalsFrom (i : Nat) (vs : List Verdict) : List (Nat × Code) :=
  (vs.zipIdx i).filterMap (fun p => p.1.map (fun code => (p.2, code)))

/-- R180: a commit that goes on from `k`: the block, the count applied and the refusals it adds. -/
theorem foldl_commitOne (rs : List StagedRecord) (k : Commit) :
    rs.foldl commitOne k = Commit.mk (appliedBlock rs k.block) (k.index + rs.length)
      (k.applied + (verdictsOf rs k.block).count none)
      (k.refusals ++ refusalsFrom k.index (verdictsOf rs k.block)) := by
  induction rs generalizing k with
  | nil => simp [appliedBlock, verdictsOf, refusalsFrom]
  | cons r rest ih =>
    rw [List.foldl_cons, ih]
    cases hv : (applyStaged r k.block).2 with
    | none => simp [commitOne, hv, verdictsOf, appliedBlock, refusalsFrom, Nat.add_assoc, Nat.add_comm 1]
    | some code => simp [commitOne, hv, verdictsOf, appliedBlock, refusalsFrom, Nat.add_assoc, Nat.add_comm 1]

theorem commitRecords_eq (rs : List StagedRecord) (b : Block) : commitRecords rs b =
    Commit.mk (appliedBlock rs b) (1 + rs.length) ((verdictsOf rs b).count none) (refusalsFrom 1 (verdictsOf rs b)) := by
  simp [commitRecords, foldl_commitOne]

theorem stateAfterCommit_eq (rs : List StagedRecord) :
    stateAfterCommit rs = if .exchangeClose ∈ rs then .idle else .ready := by
  simp [stateAfterCommit]

/-- R180: the block a commit leaves, the exchange state set with its other fields. -/
theorem finishCommit_eq (g : Staging) (k : Commit) : finishCommit g k =
    bump .batchesCommitted (notice .batchCommitted .exchange (formReply (.batchResult (resultOf g.n k))
      { k.block with exch := { k.block.exch with
          state := stateAfterCommit g.records, last := g.n, stored := some (resultOf g.n k), staging := none } })) := by
  have hreply := formReply_setExchange (.batchResult (resultOf g.n k)) (stateAfterCommit g.records)
    { k.block with exch := { k.block.exch with last := g.n, stored := some (resultOf g.n k), staging := none } }
  exact (congrArg (fun d => bump .batchesCommitted (notice .batchCommitted .exchange d)) hreply).symm

/-- R180: the block a rejection leaves. -/
theorem rejectBatch_eq (g : Staging) (byCount : Bool) (b : Block) : rejectBatch g byCount b =
    bump .batchesRejected (formReply (.batchRejected g.n byCount)
      { b with exch := { b.exch with state := .ready, staging := none } }) := by
  have hreply := formReply_setExchange (.batchRejected g.n byCount) .ready
    { b with exch := { b.exch with staging := none } }
  exact (congrArg (bump .batchesRejected) hreply).symm

theorem takeEnd_outOfRange {check : Nat} (h : 65535 < check) :
    takeEnd check b = refuseExchange endKind .fieldRange b := by
  simp [takeEnd, Nat.not_le.2 h]

theorem takeEnd_refused {check : Nat} (hc : check ≤ 65535) (h : b.exch.state ≠ .receiving ∨ b.exch.staging = none) :
    takeEnd check b = refuseExchange endKind .notInMode b := by
  unfold takeEnd
  rw [if_pos hc]
  split
  · next hs hg => simp [hs, hg] at h
  · rfl

theorem takeEnd_receiving {check : Nat} {g : Staging} (hc : check ≤ 65535) (hs : b.exch.state = .receiving)
    (hg : b.exch.staging = some g) : takeEnd check b = endBatch check g b := by
  simp [takeEnd, hc, hs, hg]

theorem endBatch_rejected {check : Nat} {g : Staging} {byCount : Bool} (h : (g.received ≠ g.k ∧ byCount = true) ∨
    (g.received = g.k ∧ g.sum ≠ check ∧ byCount = false)) : endBatch check g b = rejectBatch g byCount b := by
  rcases h with ⟨hk, rfl⟩ | ⟨hk, hsum, rfl⟩
  · simp [endBatch, hk]
  · simp [endBatch, hk, hsum]

theorem endBatch_committed {g : Staging} (hk : g.received = g.k) : endBatch g.sum g b = commitBatch g b := by
  simp [endBatch, hk]

theorem appliedBlock_touches (rs : List StagedRecord) (b : Block) :
    Touches [.mode, .items, .labels, .composer, .mgmt] b (appliedBlock rs b) := by
  have h := Touches.commitRecords (fs := [.mode, .items, .labels, .composer, .mgmt]) rs (.refl _ b) (by decide) (by decide)
    (by decide) (by decide) (by decide)
  rwa [commitRecords_eq] at h

/-- R181: a staged TIME record of one clock value sets the clock. -/
theorem applyStaged_time {v : Nat} (hv : v ≤ 4294967295) : applyStaged (.time (some v)) b = (setClockTo v b, none) := by
  simp [applyStaged, applyTime, Config.max32, hv]

theorem applyStaged_time_refused {x : StagedRecord}
    (h : x = .time none ∨ ∃ v, x = .time (some v) ∧ 4294967295 < v) : applyStaged x b = (b, some .fieldRange) := by
  rcases h with rfl | ⟨v, rfl, hv⟩
  · rfl
  · simp [applyStaged, applyTime, Config.max32, Nat.not_le.2 hv]

/-- A row of head office over a working line has its frame's effect. -/
theorem exec_fromLine {i : Instr} {f : Block → Block} {c : Block} (he : effect i s.block = fromLine f s.block)
    (hu : s.block.line.up = true) (hl : s.block.line.loopback = .off) (hc : f s.block = c) : exec i s = s.becomes c := by
  rw [exec_eq_effect, he, fromLine_taken f hu hl, hc]

theorem exec_fromLine_ignored {i : Instr} {f : Block → Block} (he : effect i s.block = fromLine f s.block)
    (h : s.block.line.up = false ∨ s.block.line.loopback ≠ .off) : exec i s = s.becomes s.block := by
  rw [exec_eq_effect, he, fromLine_ignored f h]

/-- Settles O53, frame by frame; the staged records last. -/
theorem aBatchCommitsWholeOrNotAtAll : Obligations.ABatchCommitsWholeOrNotAtAll := by
  unfold Obligations.ABatchCommitsWholeOrNotAtAll
  refine ⟨fun n k s hu hl => ⟨fun h => exec_fromLine rfl hu hl (takeStart_outOfRange h), fun hn h1 h256 =>
      ⟨fun hs => exec_fromLine rfl hu hl (takeStart_notReady hn h1 h256 hs), fun hs => ⟨?next, ?again, ?outOfOrder⟩⟩⟩,
    fun s hu hl => ⟨fun h rs => exec_fromLine rfl hu hl (takeRecords_refused rs h), fun g hs hg => ⟨?none, ?cons⟩⟩,
    fun n k check rs s h => ⟨exec_fromLine_ignored rfl h, exec_fromLine_ignored rfl h, exec_fromLine_ignored rfl h⟩,
    fun check s hu hl => ⟨fun h => exec_fromLine rfl hu hl (takeEnd_outOfRange h),
      fun hc h => exec_fromLine rfl hu hl (takeEnd_refused hc h), fun g hc hs hg =>
        ⟨?rejected, ?committed, fun n x s v b hx => ?records⟩⟩⟩
  case next =>
    rintro rfl
    exact exec_fromLine rfl hu hl ((takeStart_ready hn h1 h256 hs).trans (startByNumber_next k))
  case again =>
    rintro r rfl hr
    exact exec_fromLine rfl hu hl ((takeStart_ready hn h1 h256 hs).trans (startByNumber_again k hr))
  case outOfOrder =>
    intro hne h
    exact exec_fromLine rfl hu hl ((takeStart_ready hn h1 h256 hs).trans (startByNumber_outOfOrder k hne h))
  case none =>
    refine exec_fromLine rfl hu hl ((takeRecords_receiving [] hs hg).trans ?_)
    rw [stageAll, List.foldl_nil, ← hg]
  case cons =>
    intro r rest
    rw [exec_fromLine rfl hu hl (takeRecords_receiving (r :: rest) hs hg)]
    exact (exec_fromLine (s := { s with block := { s.block with exch := { s.block.exch with
      staging := some (stageOne r g) } } }) rfl hu hl (takeRecords_receiving rest hs rfl)).symm
  case rejected =>
    intro byCount h
    refine ⟨rejectBatch g byCount s.block, exec_fromLine rfl hu hl ?_, ?_, rejectBatch_eq _ _ _⟩
    · rw [takeEnd_receiving hc hs hg, endBatch_rejected h]
    · apply Touches.rejectBatch g byCount (.refl _ _) <;> decide
  case committed =>
    rintro hk rfl
    refine ⟨appliedBlock g.records s.block, verdictsOf g.records s.block,
      resultOf g.n (commitRecords g.records s.block), rfl, appliedBlock_touches _ _, verdictsOf_length _ _,
      fun i r hr => verdictsOf_getElem? s.block hr, by rw [commitRecords_eq]; rfl, exec_fromLine rfl hu hl ?_⟩
    rw [takeEnd_receiving hc hs hg, endBatch_committed hk, commitBatch, finishCommit_eq, commitRecords_eq,
      stateAfterCommit_eq]
  case records =>
    refine ⟨?_, ?_, ?_, ?_, ?_, ?_, ?_, ?_, fun hr => ?_, ?_, ?_⟩
    · rintro r rfl
      exact exec_of_event rfl hx
    · rintro code text rfl
      exact exec_of_event rfl hx
    · rintro code rfl
      exact exec_of_event rfl hx
    · rintro id cls rfl
      exact exec_of_event rfl hx
    · rintro id code t rfl
      exact exec_of_event rfl hx
    · rintro id rfl
      exact exec_of_event rfl hx
    · rintro id t rfl
      exact exec_of_event rfl hx
    · rintro value rfl hv
      rw [applyStaged_time hv] at hx
      cases hx
      exact ⟨rfl, rfl⟩
    · rw [applyStaged_time_refused hr] at hx
      cases hx
      exact ⟨rfl, rfl⟩
    · rintro rfl
      cases hx
      exact ⟨rfl, rfl⟩
    · rintro rfl
      cases hx
      exact ⟨rfl, rfl⟩

end Batches

end Sys2Proof.Machine

namespace Sys2Proof.Machine

/-! # The warm restart (R7, R74, R107, R126, R143, R158, R172, R183, R191)

The directory's fold over the labels is the only part of the restart that is not one record update. What an operation of the
directory on one label may change is the relation `LabelStep`; it is closed under composition, and each operation has it. -/

section WarmRestart

variable {b c : Block} {id : Nat} {l m : Label}

/-! ## What an operation of the directory on one label may change -/

/-- The parts that no operation on a label's binding, target or state changes. -/
structure DirectoryFrame (b c : Block) : Prop where
  pending : c.items.pending = b.items.pending
  handoffs : c.labels.handoffs = b.labels.handoffs
  templateHandoffs : c.labels.templateHandoffs = b.labels.templateHandoffs
  sweep : c.labels.sweep = b.labels.sweep
  composer : c.composer = { b.composer with style := c.composer.style }
  mgmt : c.mgmt = { b.mgmt with notices := c.mgmt.notices }

theorem DirectoryFrame.refl (b : Block) : DirectoryFrame b b := ⟨rfl, rfl, rfl, rfl, rfl, rfl⟩

theorem DirectoryFrame.trans {d : Block} (h : DirectoryFrame b c) (g : DirectoryFrame c d) : DirectoryFrame b d where
  pending := g.pending.trans h.pending
  handoffs := g.handoffs.trans h.handoffs
  templateHandoffs := g.templateHandoffs.trans h.templateHandoffs
  sweep := g.sweep.trans h.sweep
  composer := by rw [g.composer, h.composer]
  mgmt := by rw [g.mgmt, h.mgmt]

/-- The fields of a label that none of these operations changes; and none of them defers a binding. -/
structure LabelKept (l m : Label) : Prop where
  present : m.present = l.present
  lostCount : m.lostCount = l.lostCount
  cls : m.cls = l.cls
  lastTag : m.lastTag = l.lastTag
  battery : m.battery = l.battery
  next : l.next = none → m.next = none

theorem LabelKept.refl (l : Label) : LabelKept l l := ⟨rfl, rfl, rfl, rfl, rfl, fun h => h⟩

theorem LabelKept.trans {n : Label} (h : LabelKept l m) (g : LabelKept m n) : LabelKept l n where
  present := g.present.trans h.present
  lostCount := g.lostCount.trans h.lostCount
  cls := g.cls.trans h.cls
  lastTag := g.lastTag.trans h.lastTag
  battery := g.battery.trans h.battery
  next := fun e => g.next (h.next e)

/-- What an operation on the label `id` may change: nothing outside the frame, no other label, and of its own record nothing
that `LabelKept` names. -/
structure LabelStep (id : Nat) (b c : Block) : Prop where
  frame : DirectoryFrame b c
  others : ∀ j, j ≠ id → getLabel c j = getLabel b j
  absent : getLabel b id = none → getLabel c id = none
  own : ∀ l, getLabel b id = some l → ∃ m, getLabel c id = some m ∧ LabelKept l m

theorem LabelStep.trans {d : Block} (h : LabelStep id b c) (g : LabelStep id c d) : LabelStep id b d where
  frame := h.frame.trans g.frame
  others := fun j hj => (g.others j hj).trans (h.others j hj)
  absent := fun e => g.absent (h.absent e)
  own := fun l e => by
    obtain ⟨m, em, hm⟩ := h.own l e
    obtain ⟨n, en, hn⟩ := g.own m em
    exact ⟨n, en, hm.trans hn⟩

/-- Effects outside the label table. -/
theorem LabelStep.of_getLabel (hf : DirectoryFrame b c) (ht : ∀ j, getLabel c j = getLabel b j) : LabelStep id b c where
  frame := hf
  others := fun j _ => ht j
  absent := fun e => (ht id).trans e
  own := fun l e => ⟨l, (ht id).trans e, .refl l⟩

theorem LabelStep.refl (id : Nat) (b : Block) : LabelStep id b b := .of_getLabel (.refl b) fun _ => rfl

theorem LabelStep.putLabel (hl : getLabel b id = some l) (hk : LabelKept l m) : LabelStep id b (putLabel id m b) where
  frame := ⟨rfl, rfl, rfl, rfl, rfl, rfl⟩
  others := fun _ hj => getLabel_putLabel_other b m hj
  absent := fun e => by simp [e] at hl
  own := fun k e => by
    obtain rfl : l = k := Option.some.inj (hl.symm.trans e)
    exact ⟨m, getLabel_putLabel_self b id m, hk⟩

/-- A record put in place, and what follows it. -/
theorem LabelStep.putLabel_then (hl : getLabel b id = some l) (h : LabelStep id (Machine.putLabel id m b) c)
    (hk : LabelKept l m) : LabelStep id b c := (LabelStep.putLabel hl hk).trans h

theorem withLabel_of_some (hl : getLabel b id = some l) (g : Label → Block → Block) : withLabel id g b = g l b := by
  simp [withLabel, hl]

theorem withLabel_of_none (hl : getLabel b id = none) (g : Label → Block → Block) : withLabel id g b = b := by
  simp [withLabel, hl]

theorem LabelStep.withLabel {g : Label → Block → Block} (hg : ∀ l, getLabel b id = some l → LabelStep id b (g l b)) :
    LabelStep id b (withLabel id g b) := by
  cases hl : getLabel b id with
  | none => rw [withLabel_of_none hl]; exact .refl id b
  | some l => rw [withLabel_of_some hl]; exact hg l hl

/-- R59: joining a queue changes a label's queue place alone. -/
theorem enqueue_getLabel (hl : getLabel b id = some l) :
    ∃ q, getLabel (enqueue id b) id = some { l with queued := some q } := by
  rw [enqueue, withLabel_of_some hl]
  split
  · split
    · exact ⟨_, getLabel_putLabel_self b id _⟩
    · exact ⟨_, getLabel_putLabel_self b id _⟩
  · exact ⟨_, getLabel_putLabel_self b id _⟩

/-- The next joining order is outside the frame. -/
theorem LabelStep.nextJoin (n : Nat) (h : LabelStep id b c) :
    LabelStep id b { c with labels := { c.labels with nextJoin := n } } :=
  h.trans (.of_getLabel ⟨rfl, rfl, rfl, rfl, rfl, rfl⟩ fun _ => rfl)

theorem LabelStep.enqueue (id : Nat) (b : Block) : LabelStep id b (enqueue id b) := by
  refine .withLabel fun l hl => ?_
  have hput (q : Option QueuePlace) : LabelStep id b (Machine.putLabel id { l with queued := q } b) :=
    .putLabel hl ⟨rfl, rfl, rfl, rfl, rfl, fun e => e⟩
  dsimp only
  split
  · split
    · exact (hput _).nextJoin _
    · exact hput _
  · exact (hput _).nextJoin _

theorem LabelStep.settle (id : Nat) (b : Block) : LabelStep id b (settle id b) := by
  refine .withLabel fun l hl => ?_
  dsimp only
  split
  · exact .putLabel_then hl (.enqueue id _) ⟨rfl, rfl, rfl, rfl, rfl, fun e => e⟩
  · exact .putLabel hl ⟨rfl, rfl, rfl, rfl, rfl, fun e => e⟩

theorem LabelStep.settleIfSettled (id : Nat) (b : Block) : LabelStep id b (settleIfSettled id b) := by
  refine .withLabel fun l hl => ?_
  split
  · exact .settle id b
  · exact .refl id b

theorem modifyLabel_of_some (f : Label → Label) (hl : getLabel b id = some l) :
    modifyLabel id f b = putLabel id (f l) b := by
  simp [modifyLabel, hl]

theorem becomeUncertain_of_some (hl : getLabel b id = some l) :
    becomeUncertain id b = enqueue id (putLabel id { l with state := .uncertain } b) := by
  rw [becomeUncertain, modifyLabel_of_some _ hl]

theorem LabelStep.becomeUncertain (hl : getLabel b id = some l) : LabelStep id b (becomeUncertain id b) := by
  rw [becomeUncertain_of_some hl]
  exact .putLabel_then hl (.enqueue id _) ⟨rfl, rfl, rfl, rfl, rfl, fun e => e⟩

theorem LabelStep.returnFailed (id : Nat) (b : Block) : LabelStep id b (returnFailed id b) := by
  refine .withLabel fun l hl => ?_
  have hput : LabelStep id b (Machine.putLabel id { l with retry := 0, oversize := false } b) :=
    .putLabel hl ⟨rfl, rfl, rfl, rfl, rfl, fun e => e⟩
  split
  · exact hput.trans (.becomeUncertain (getLabel_putLabel_self b id _))
  · exact hput.trans (.settle id _)

/-! ## Items and the current-style set -/

theorem LabelStep.putItem (id code : Nat) (i : Item) (b : Block) : LabelStep id b (putItem code i b) :=
  .of_getLabel ⟨rfl, rfl, rfl, rfl, rfl, rfl⟩ fun _ => rfl

theorem LabelStep.bindToItem (code id : Nat) (b : Block) : LabelStep id b (bindToItem code id b) := by
  unfold Machine.bindToItem
  split
  · exact .putItem id code _ b
  · exact .refl id b

theorem LabelStep.unbindFromItem (code id : Nat) (b : Block) : LabelStep id b (unbindFromItem code id b) := by
  unfold Machine.unbindFromItem
  split
  · exact .putItem id code _ b
  · exact .refl id b

theorem LabelStep.releaseWhat (id : Nat) (w : RefWhat) (b : Block) : LabelStep id b (releaseWhat w b) := by
  cases w with
  | blank => exact .refl id b
  | version code k number template =>
    change LabelStep id b (releaseReference code k number b)
    unfold releaseReference
    split
    · exact .putItem id code _ b
    · exact .refl id b

theorem LabelStep.releaseConfirmed (id : Nat) (l : Label) (b : Block) : LabelStep id b (releaseConfirmed l b) := by
  unfold Machine.releaseConfirmed
  split
  · exact .releaseWhat id _ b
  · exact .refl id b

theorem LabelStep.releaseInFlight (id : Nat) (l : Label) (b : Block) : LabelStep id b (releaseInFlight l b) := by
  unfold Machine.releaseInFlight
  split
  · exact .releaseWhat id _ b
  · exact .refl id b

theorem LabelStep.leaveStyle (id : Nat) (b : Block) : LabelStep id b (leaveStyle id b) :=
  .of_getLabel ⟨rfl, rfl, rfl, rfl, rfl, rfl⟩ fun _ => rfl

theorem LabelStep.notice (k : NoticeKind) (x : NoticeSubject) (h : LabelStep id b c) : LabelStep id b (notice k x c) :=
  h.trans (.of_getLabel ⟨rfl, rfl, rfl, rfl, rfl, rfl⟩ fun _ => rfl)

/-! ## Binding (R60, R61) -/

theorem LabelStep.giveUpBinding (id : Nat) (item template : Option Nat) (b : Block) :
    LabelStep id b (giveUpBinding id item template b) := by
  refine .withLabel fun l hl => ?_
  have hreleased : LabelStep id b (Machine.releaseInFlight l (Machine.releaseConfirmed l (Machine.putLabel id { l with
      confirmed := none, inFlight := none, item := item, template := template, binding := .foreign, retry := 0,
      marks := clearMarks, oversize := false } b))) :=
    .putLabel_then hl ((LabelStep.releaseConfirmed id l _).trans (.releaseInFlight id l _))
      ⟨rfl, rfl, rfl, rfl, rfl, fun e => e⟩
  generalize l.item = bound
  cases bound with
  | none => exact hreleased.trans (.leaveStyle id _)
  | some old => exact (hreleased.trans (.unbindFromItem old id _)).trans (.leaveStyle id _)

theorem LabelStep.applyRebind (id code template : Nat) (b : Block) : LabelStep id b (applyRebind id code template b) :=
  ((LabelStep.giveUpBinding id (some code) (some template) b).trans (.bindToItem code id _)).trans (.settle id _)

theorem LabelStep.applyUnbind (id : Nat) (b : Block) : LabelStep id b (applyUnbind id b) := by
  refine .withLabel fun l hl => ?_
  split
  · exact (LabelStep.giveUpBinding id none none b).trans (.settle id _)
  · exact .refl id b

theorem LabelStep.applyTemplate (id template : Nat) (b : Block) : LabelStep id b (applyTemplate id template b) := by
  refine .withLabel fun l hl => ?_
  have hput : LabelStep id b (Machine.putLabel id { l with template := some template } b) :=
    .putLabel hl ⟨rfl, rfl, rfl, rfl, rfl, fun e => e⟩
  split
  · split
    · exact hput.trans (.returnFailed id _)
    · exact hput
  · exact hput
  · exact hput
  · exact hput.trans (.settle id _)
  · exact hput.trans (.settle id _)
  · exact hput.trans (.settle id _)

theorem LabelStep.applySameItem (id template : Nat) (l : Label) (b : Block) :
    LabelStep id b (applySameItem id template l b) := by
  unfold Machine.applySameItem
  split
  · exact .refl id b
  · exact .applyTemplate id template b

theorem LabelStep.applyDeferredBind (id code template : Nat) (l : Label) (b : Block) :
    LabelStep id b (applyDeferredBind id code template l b) := by
  unfold Machine.applyDeferredBind
  split
  · split
    · exact (LabelStep.applySameItem id template l b).trans (.settleIfSettled id _)
    · split
      · exact .applyRebind id code template b
      · exact (LabelStep.applyUnbind id b).notice _ _
  · exact (LabelStep.applyUnbind id b).notice _ _

/-- R61: with no binding deferred nothing is applied. -/
theorem applyNext_of_none (hl : getLabel b id = some l) (hn : l.next = none) : applyNext id b = b := by
  rw [applyNext, withLabel_of_some hl]
  simp [hn]

/-- R61: the next binding is applied to the record that no longer holds it. -/
theorem applyNext_clears (hl : getLabel b id = some l) (hn : l.next ≠ none) :
    LabelStep id (putLabel id { l with next := none } b) (applyNext id b) := by
  rw [applyNext, withLabel_of_some hl]
  cases e : l.next with
  | none => exact absurd e hn
  | some x =>
    cases x with
    | unbind => exact .applyUnbind id _
    | bind code template => exact .applyDeferredBind id code template _ _

/-- R61: what applying the next binding leaves; it stands no longer. -/
theorem applyNext_step (hl : getLabel b id = some l) :
    LabelStep id b (applyNext id b) ∧ ∀ m, getLabel (applyNext id b) id = some m → m.next = none := by
  by_cases hn : l.next = none
  · rw [applyNext_of_none hl hn]
    exact ⟨.refl id b, fun m hm => by rwa [Option.some.inj (hm.symm.trans hl)]⟩
  · have hafter := applyNext_clears hl hn
    refine ⟨.putLabel_then hl hafter ⟨rfl, rfl, rfl, rfl, rfl, fun _ => rfl⟩, fun m hm => ?_⟩
    obtain ⟨n, en, hk⟩ := hafter.own _ (getLabel_putLabel_self b id _)
    rw [Option.some.inj (hm.symm.trans en)]
    exact hk.next rfl

/-! ## The labels IN_FLIGHT (R74) -/

/-- R74: a label before and after the restart of the directory, presence apart. -/
structure LabelRestarted (l m : Label) : Prop where
  kept : LabelKept l m
  unchanged : l.state ≠ .inFlight → m = l
  uncertain : l.state = .inFlight → l.next = none → ∃ q, m = { l with state := .uncertain, queued := some q }
  next : l.state = .inFlight → m.next = none

theorem restartLabel_of_ne (h : ∀ l, getLabel b id = some l → l.state ≠ .inFlight) : restartLabel id b = b := by
  cases hl : getLabel b id with
  | none => exact withLabel_of_none hl _
  | some l => rw [restartLabel, withLabel_of_some hl]; simp [h l hl]

theorem restartLabel_inFlight (hl : getLabel b id = some l) (hs : l.state = .inFlight) :
    restartLabel id b = applyNext id (becomeUncertain id b) := by
  rw [restartLabel, withLabel_of_some hl]
  simp [hs]

theorem becomeUncertain_getLabel (hl : getLabel b id = some l) :
    ∃ q, getLabel (becomeUncertain id b) id = some { l with state := .uncertain, queued := some q } := by
  rw [becomeUncertain_of_some hl]
  exact enqueue_getLabel (getLabel_putLabel_self b id _)

theorem LabelStep.restartLabel (id : Nat) (b : Block) : LabelStep id b (restartLabel id b) := by
  refine .withLabel fun l hl => ?_
  split
  · obtain ⟨q, hq⟩ := becomeUncertain_getLabel hl
    exact (LabelStep.becomeUncertain hl).trans (applyNext_step hq).1
  · exact .refl id b

theorem restartLabel_getLabel (hl : getLabel b id = some l) :
    ∃ m, getLabel (restartLabel id b) id = some m ∧ LabelRestarted l m := by
  obtain ⟨m, hm, hk⟩ := (LabelStep.restartLabel id b).own l hl
  refine ⟨m, hm, hk, fun hs => ?_, fun hs hn => ?_, fun hs => ?_⟩
  · rw [restartLabel_of_ne fun k hk => by rwa [Option.some.inj (hk.symm.trans hl)], hl] at hm
    exact (Option.some.inj hm).symm
  · obtain ⟨q, hq⟩ := becomeUncertain_getLabel hl
    rw [restartLabel_inFlight hl hs, applyNext_of_none hq hn, hq] at hm
    exact ⟨q, (Option.some.inj hm).symm⟩
  · obtain ⟨q, hq⟩ := becomeUncertain_getLabel hl
    rw [restartLabel_inFlight hl hs] at hm
    exact (applyNext_step hq).2 m hm

/-- R74: the labels of a list taken in turn. -/
def restartLabels (ids : List Nat) (b : Block) : Block := ids.foldl (fun acc id => restartLabel id acc) b

theorem restartLabels_cons (id : Nat) (ids : List Nat) (b : Block) :
    restartLabels (id :: ids) b = restartLabels ids (restartLabel id b) := rfl

theorem restartLabels_frame (ids : List Nat) (b : Block) : DirectoryFrame b (restartLabels ids b) := by
  induction ids generalizing b with
  | nil => exact .refl b
  | cons id ids ih => exact (LabelStep.restartLabel id b).frame.trans (ih _)

theorem restartLabels_other (ids : List Nat) {j : Nat} (b : Block) (hj : j ∉ ids) :
    getLabel (restartLabels ids b) j = getLabel b j := by
  induction ids generalizing b with
  | nil => rfl
  | cons id ids ih =>
    rw [List.mem_cons, not_or] at hj
    rw [restartLabels_cons, ih _ hj.2, (LabelStep.restartLabel id b).others j hj.1]

/-- Each label of a list without repeats is restarted once. -/
theorem restartLabels_getLabel {ids : List Nat} {j : Nat} (hids : ids.Nodup) (hj : j ∈ ids) (hl : getLabel b j = some l) :
    ∃ m, getLabel (restartLabels ids b) j = some m ∧ LabelRestarted l m := by
  induction ids generalizing b with
  | nil => simp at hj
  | cons id ids ih =>
    obtain ⟨hid, hrest⟩ := List.nodup_cons.1 hids
    rw [restartLabels_cons]
    by_cases e : j = id
    · subst e
      rw [restartLabels_other ids _ hid]
      exact restartLabel_getLabel hl
    · refine ih hrest ((List.mem_cons.1 hj).resolve_left e) ?_
      rw [(LabelStep.restartLabel id b).others j e, hl]

theorem restartLabels_of_ne (ids : List Nat) (h : ∀ j l, getLabel b j = some l → l.state ≠ .inFlight) :
    restartLabels ids b = b := by
  induction ids with
  | nil => rfl
  | cons id ids ih => rw [restartLabels_cons, restartLabel_of_ne (h id), ih]

/-- R74: every label of the directory, each once, in ascending id. -/
def directoryRestarted (b : Block) : Block := restartLabels (b.labels.table.map Prod.fst) b

theorem directoryRestarted_getLabel (hs : tableSorted b.labels.table) (hl : getLabel b id = some l) :
    ∃ m, getLabel (directoryRestarted b) id = some m ∧ LabelRestarted l m :=
  restartLabels_getLabel (hs.imp Nat.ne_of_lt) (List.mem_map_of_mem (f := Prod.fst) (mem_of_tableFind hl)) hl

theorem directoryRestarted_absent (hs : tableSorted b.labels.table) (hl : getLabel b id = none) :
    getLabel (directoryRestarted b) id = none := by
  refine (restartLabels_other _ b fun hid => ?_).trans hl
  obtain ⟨⟨j, m⟩, hm, rfl⟩ := List.mem_map.1 hid
  exact absurd ((tableFind_of_mem hs hm).symm.trans hl) (by simp)

theorem directoryRestarted_frame (b : Block) : DirectoryFrame b (directoryRestarted b) := restartLabels_frame _ b

/-- The restart of the labels reaches items, labels, composer and notices alone. -/
theorem directoryRestarted_touches (b : Block) :
    Touches [.items, .labels, .composer, .mgmt] b (directoryRestarted b) := by
  refine Touches.foldl (fun id d hd => ?_) _ (.refl _ b)
  apply Touches.restartLabel id hd <;> decide

end WarmRestart

section RestartedBlocks

/-! ## The mode controller and the management interface, which come first -/

/-- R7, R191: the part as the label directory finds it: the notice queue emptied and CLOSING made CLOSED. -/
def modeRestarted (b : Block) : Block := warmMode (warmMgmt b)

/-- R191: the notices that the mode controller leaves. -/
def modeNotices (b : Block) : List NoticeEntry :=
  (if b.mode.mode = .closing then noticeQueueAfter .modeChanged (.mode .closed) none b.mode.clock else id) []

theorem modeRestarted_closing (hm : b.mode.mode = .closing) : modeRestarted b = becomeClosed (warmMgmt b) := by
  simp [modeRestarted, warmMode, warmMgmt, hm]

theorem modeRestarted_other (hm : b.mode.mode ≠ .closing) : modeRestarted b = warmMgmt b := by
  unfold modeRestarted warmMode
  split
  · next e => exact absurd e hm
  · rfl
  · rfl

theorem modeRestarted_touches (b : Block) : Touches [.mode, .mgmt, .guest, .labels] b (modeRestarted b) := by
  apply Touches.warmMode (Touches.warmMgmt (.refl _ b) _) <;> decide

theorem modeRestarted_mode (b : Block) : (modeRestarted b).mode =
    if b.mode.mode = .closing then { b.mode with mode := .closed, drain := none } else b.mode := by
  split
  · next hm => rw [modeRestarted_closing hm]; rfl
  · next hm => rw [modeRestarted_other hm]; rfl

theorem modeRestarted_clock (b : Block) : (modeRestarted b).mode.clock = b.mode.clock := by
  rw [modeRestarted_mode]
  split <;> rfl

theorem modeRestarted_guest (b : Block) :
    (modeRestarted b).guest = { b.guest with
      sessions := (modeRestarted b).guest.sessions, full := (modeRestarted b).guest.full } := by
  by_cases hm : b.mode.mode = .closing
  · rw [modeRestarted_closing hm]; rfl
  · rw [modeRestarted_other hm]; rfl

theorem modeRestarted_labels (b : Block) : (modeRestarted b).labels = { b.labels with
    sweep := if b.mode.mode = .closing then
      (if b.items.pending = [] then none else some (Sweep.mk b.items.pending 0)) else b.labels.sweep } := by
  split
  · next hm => rw [modeRestarted_closing hm, becomeClosed_eq]; simp [warmMgmt, List.isEmpty_iff]
  · next hm => rw [modeRestarted_other hm]; rfl

theorem modeRestarted_getLabel (b : Block) (id : Nat) : getLabel (modeRestarted b) id = getLabel b id := by
  rw [getLabel, modeRestarted_labels]
  rfl

theorem flashAfterRestart_eq (m : MgmtBlock) : flashAfterRestart m = if m.save = none then m.flash else none := by
  cases e : m.save <;> simp [flashAfterRestart, e]

theorem modeRestarted_mgmt (b : Block) : (modeRestarted b).mgmt = { b.mgmt with
    storeWindow := none
    officeWindow := none
    writes := []
    flash := if b.mgmt.save = none then b.mgmt.flash else none
    save := none
    notices := modeNotices b } := by
  rw [modeNotices, ← flashAfterRestart_eq]
  split
  · next hm => rw [modeRestarted_closing hm]; rfl
  · next hm => rw [modeRestarted_other hm]; rfl

/-! ## The label directory, the radio and the composer -/

theorem restartPresence_getLabel (k : Nat) (b : Block) (id : Nat) : getLabel (restartPresence k b) id =
    (getLabel b id).map (fun l => { l with heard := some k, candidate := none }) :=
  tableFind_mapValues b.labels.table (fun l => { l with heard := some k, candidate := none }) id

/-- R74: the record of a label: as the directory's restart leaves it, heard in the cycle after the restart. -/
theorem warmLabels_getLabel (b : Block) (id : Nat) : getLabel (warmLabels b) id =
    (getLabel (directoryRestarted b) id).map (fun l => { l with heard := some (warmCycle b), candidate := none }) :=
  restartPresence_getLabel _ _ _

theorem warmLabels_touches (b : Block) : Touches [.items, .labels, .composer, .mgmt, .radio] b (warmLabels b) := by
  apply Touches.warmLabels (.refl _ b) <;> decide

theorem warmLabels_radio (b : Block) : (warmLabels b).radio = { b.radio with
    slot := 0, cycle := warmCycle b, fresh := true, plan := [], cursor := 0, taken := none } := by
  have hradio : (directoryRestarted b).radio = b.radio := ((directoryRestarted_touches b).keeps .radio (by decide)).symm
  change { (directoryRestarted b).radio with
    slot := 0, cycle := warmCycle (directoryRestarted b), fresh := true, plan := [], cursor := 0, taken := none } = _
  rw [warmCycle, hradio, warmCycle]

/-! ## The blocks after them -/

theorem warmTillRecord_eq (r : TillRecord) :
    warmTillRecord r = if r.state = .active then { r with timer := some 120000 } else r := by
  cases e : r.state <;> simp [warmTillRecord, e, silencePeriod]

theorem warmTill_eq (b : Block) : warmTill b = { b with till := { b.till with
    records := b.till.records.map (fun r => if r.state = .active then { r with timer := some 120000 } else r)
    sent := 0
    ackTimer := none
    fullFlag := false } } := by
  rw [← funext warmTillRecord_eq]
  rfl

/-- R182, R183: an exchange under way is aborted, and with it the frames that the engine held as refused. -/
theorem warmExchange_eq (b : Block) : warmExchange b = { b with
    line := { b.line with
      refused := b.line.refused.filter (fun x => decide ¬ (x = .engine ∧ b.exch.state ≠ .idle)) }
    exch := { b.exch with state := .idle, staging := none, hold := none, held := [] }
    counts := if b.exch.state = .idle then b.counts else (bump .exchangeAborts b).counts
    mgmt := { b.mgmt with
      notices := if b.exch.state = .idle then b.mgmt.notices
        else noticeQueueAfter .exchangeAborted .exchange none b.mode.clock b.mgmt.notices } } := by
  by_cases hs : b.exch.state = .idle
  · rw [warmExchange, abortExchange_idle hs]
    simp [hs, stopHold]
  · rw [warmExchange, abortExchange_open hs]
    simp [hs, stopHold, senderServed, notice, noticeWith, bump, bumpBy]

/-- R107, R126, R143, R158, R172, R183: the restart of the blocks behind the directory, in one update. -/
theorem warmRest_eq (x : Block) : warmTime (warmExchange (warmLine (warmGuest (warmForwarder (warmTill x))))) =
    { x with
      time := { x.time with toBeacon := 250 }
      till := { x.till with
        records := x.till.records.map (fun r => if r.state = .active then { r with timer := some 120000 } else r)
        sent := 0
        ackTimer := none
        fullFlag := false }
      fwd := { x.fwd with addresses := [], full := false }
      guest := { x.guest with sessions := [], full := false, level := 4, tokens := 524288 }
      line := restartedLine x.line.runs
      exch := { x.exch with state := .idle, staging := none, hold := none, held := [] }
      counts := if x.exch.state = .idle then x.counts else (bump .exchangeAborts x).counts
      mgmt := { x.mgmt with
        notices := if x.exch.state = .idle then x.mgmt.notices
          else noticeQueueAfter .exchangeAborted .exchange none x.mode.clock x.mgmt.notices } } := by
  rw [warmTill_eq, warmExchange_eq]
  rfl

/-! ## The part behind the directory -/

/-- R191: the part as the blocks behind the directory, the radio and the composer find it. -/
def labelsRestarted (b : Block) : Block := warmLabels (modeRestarted b)

theorem warmRestart_eq (b : Block) : warmRestart b =
    warmTime (warmExchange (warmLine (warmGuest (warmForwarder (warmTill (labelsRestarted b)))))) := rfl

theorem labelsRestarted_touches (b : Block) :
    Touches [.items, .labels, .composer, .mgmt, .radio, .mode, .guest] b (labelsRestarted b) :=
  ((modeRestarted_touches b).mono (by decide)).trans ((warmLabels_touches _).mono (by decide))

theorem labelsRestarted_mode (b : Block) : (labelsRestarted b).mode = (modeRestarted b).mode :=
  ((warmLabels_touches (modeRestarted b)).keeps .mode (by decide)).symm

theorem labelsRestarted_guest (b : Block) : (labelsRestarted b).guest = (modeRestarted b).guest :=
  ((warmLabels_touches (modeRestarted b)).keeps .guest (by decide)).symm

theorem modeRestarted_radio (b : Block) : (modeRestarted b).radio = b.radio :=
  ((modeRestarted_touches b).keeps .radio (by decide)).symm

theorem modeRestarted_items (b : Block) : (modeRestarted b).items = b.items :=
  ((modeRestarted_touches b).keeps .items (by decide)).symm

theorem modeRestarted_composer (b : Block) : (modeRestarted b).composer = b.composer :=
  ((modeRestarted_touches b).keeps .composer (by decide)).symm

theorem labelsRestarted_radio (b : Block) : (labelsRestarted b).radio = { b.radio with
    slot := 0, cycle := (b.radio.cycle + 1) % 65536, fresh := true, plan := [], cursor := 0, taken := none } := by
  rw [labelsRestarted, warmLabels_radio, warmCycle, modeRestarted_radio]

theorem labelsRestarted_composer (b : Block) :
    (labelsRestarted b).composer = { b.composer with buffer := [], style := (labelsRestarted b).composer.style } := by
  have hframe := (directoryRestarted_frame (modeRestarted b)).composer
  rw [modeRestarted_composer] at hframe
  exact congrArg (fun x : ComposerBlock => { x with buffer := [] }) hframe

theorem labelsRestarted_mgmt (b : Block) : (labelsRestarted b).mgmt = { b.mgmt with
    storeWindow := none
    officeWindow := none
    writes := []
    flash := if b.mgmt.save = none then b.mgmt.flash else none
    save := none
    notices := (labelsRestarted b).mgmt.notices } := by
  have hframe := (directoryRestarted_frame (modeRestarted b)).mgmt
  rw [modeRestarted_mgmt] at hframe
  exact hframe

theorem labelsRestarted_sweep (b : Block) : (labelsRestarted b).labels.sweep = if b.mode.mode = .closing then
    (if b.items.pending = [] then none else some (Sweep.mk b.items.pending 0))
    else b.labels.sweep.map (fun w => { w with cursor := 0 }) := by
  change (directoryRestarted (modeRestarted b)).labels.sweep.map _ = _
  rw [(directoryRestarted_frame (modeRestarted b)).sweep, modeRestarted_labels]
  split
  · split <;> rfl
  · rfl

theorem labelsRestarted_getLabel (b : Block) (i : Nat) : getLabel (labelsRestarted b) i =
    (getLabel (directoryRestarted (modeRestarted b)) i).map
      (fun l => { l with heard := some ((b.radio.cycle + 1) % 65536), candidate := none }) := by
  rw [labelsRestarted, warmLabels_getLabel, warmCycle, modeRestarted_radio]

theorem modeRestarted_table (b : Block) : (modeRestarted b).labels.table = b.labels.table := by
  rw [modeRestarted_labels]

/-- R74: with no label IN_FLIGHT the directory's restart leaves every label as the mode controller gave it. -/
theorem directoryRestarted_of_ne {b : Block} (h : ∀ i l, getLabel b i = some l → l.state ≠ .inFlight) :
    directoryRestarted (modeRestarted b) = modeRestarted b :=
  restartLabels_of_ne _ fun i l e => h i l ((modeRestarted_getLabel b i).symm.trans e)

/-- R74: a label before and after the warm restart. -/
theorem labelsRestarted_record {b : Block} {i : Nat} {l : Label} (hs : tableSorted b.labels.table)
    (hl : getLabel b i = some l) : ∃ m, getLabel (labelsRestarted b) i =
      some { m with heard := some ((b.radio.cycle + 1) % 65536), candidate := none } ∧ LabelRestarted l m := by
  obtain ⟨m, hm, hr⟩ := directoryRestarted_getLabel (b := modeRestarted b) (by rwa [modeRestarted_table])
    ((modeRestarted_getLabel b i).trans hl)
  exact ⟨m, by rw [labelsRestarted_getLabel, hm]; rfl, hr⟩

theorem labelsRestarted_absent {b : Block} {i : Nat} (hs : tableSorted b.labels.table) (hl : getLabel b i = none) :
    getLabel (labelsRestarted b) i = none := by
  rw [labelsRestarted_getLabel, directoryRestarted_absent (by rwa [modeRestarted_table])
    ((modeRestarted_getLabel b i).trans hl)]
  rfl

theorem warmRestart_getLabel (b : Block) (i : Nat) : getLabel (warmRestart b) i = getLabel (labelsRestarted b) i := by
  rw [warmRestart_eq, warmRest_eq]
  rfl

/-- R191: the row of a warm restart by command has no answer. -/
theorem exec_warmRestart {s : State} {h : MgmtHeader} (ht : Taken h s.block) :
    exec (.warmRestart h) s = s.becomes (warmRestart s.block) := by
  rw [exec_eq_effect]
  exact congrArg s.becomes (silentMessage_of_taken warmRestart ht)

/-- Settles O60, block by block. The label directory is the fold of `restartLabel` over its labels, each of which is met
once; every other block is one update. -/
theorem aWarmRestartKeepsWhatEachBlockKeeps : Obligations.AWarmRestartKeepsWhatEachBlockKeeps := by
  unfold Obligations.AWarmRestartKeepsWhatEachBlockKeeps
  refine ⟨fun s => ⟨exec_eq_effect _ s, fun h ht => exec_warmRestart ht⟩, fun b c hc hs => ?_⟩
  subst hc
  have hkept := labelsRestarted_touches b
  have hframe := directoryRestarted_frame (modeRestarted b)
  have hprice : b.price = _ := hkept .price (by decide)
  have hpins : b.pins = _ := hkept .pins (by decide)
  have hout : b.out = _ := hkept .out (by decide)
  have htime : b.time = _ := hkept .time (by decide)
  have htill : b.till = _ := hkept .till (by decide)
  have hfwd : b.fwd = _ := hkept .fwd (by decide)
  have hline : b.line = _ := hkept .line (by decide)
  have hexch : b.exch = _ := hkept .exch (by decide)
  have hcounts : b.counts = _ := hkept .counts (by decide)
  simp only [warmRestart_getLabel]
  rw [warmRestart_eq, warmRest_eq]
  refine ⟨hprice.symm, hpins.symm, hout.symm, ?time, ?mode, ?pending, ?handoffs, ?templateHandoffs,
    labelsRestarted_sweep b, fun i => labelsRestarted_absent hs, ?labels, labelsRestarted_composer b,
    labelsRestarted_radio b, ?till, ?fwd, ?guest, ?line, ?exch, ?counts, ?mgmt, ?noneInFlight⟩
  case time => rw [htime]
  case mode => exact (labelsRestarted_mode b).trans (modeRestarted_mode b)
  case pending => exact hframe.pending.trans (by rw [modeRestarted_items])
  case handoffs => exact hframe.handoffs.trans (by rw [modeRestarted_labels])
  case templateHandoffs => exact hframe.templateHandoffs.trans (by rw [modeRestarted_labels])
  case labels =>
    intro i l hl
    obtain ⟨m, hm, hkeep, hother, huncertain, hnext⟩ := labelsRestarted_record hs hl
    refine ⟨_, hm, rfl, rfl, hkeep.present, hkeep.lostCount, hkeep.cls, hkeep.lastTag, hkeep.battery,
      fun hne => by rw [hother hne], fun hin hn => ?_, hnext⟩
    obtain ⟨q, rfl⟩ := huncertain hin hn
    exact ⟨by simp, rfl⟩
  case till => rw [htill]
  case fwd => rw [hfwd]
  case guest => simp only [labelsRestarted_guest]; rw [modeRestarted_guest]
  case line => rw [hline]; rfl
  case exch => rw [hexch]
  case counts => rw [hexch]; split <;> simp [hcounts]
  case mgmt => rw [labelsRestarted_mgmt]
  case noneInFlight =>
    intro hno
    have hdirectory := directoryRestarted_of_ne hno
    refine ⟨?items, ?style, ?notices⟩
    case items => exact (congrArg Block.items hdirectory).trans (modeRestarted_items b)
    case style => exact (congrArg (·.composer.style) hdirectory).trans (by rw [modeRestarted_composer])
    case notices =>
      have hnotices : (labelsRestarted b).mgmt.notices = modeNotices b :=
        (congrArg (·.mgmt.notices) hdirectory).trans (by rw [modeRestarted_mgmt])
      rw [← hexch, labelsRestarted_mode, modeRestarted_clock, hnotices, modeNotices]
      split <;> rfl

end RestartedBlocks

end Sys2Proof.Machine

namespace Sys2Proof.Machine

/-! # The version slots of an item (R33 to R36, R41 to R48) -/

section VersionSlots

variable {i j : Item} {k l : Slot} {v w x : Version} {r : Role}

/-! ## Slots and roles -/

@[simp] theorem slotOf_setSlot_self (i : Item) (k : Slot) (v : Option Version) : slotOf (setSlot i k v) k = v :=
  get_set_same _ _ _

@[simp] theorem slotOf_setSlot_other (i : Item) {k l : Slot} (v : Option Version) (h : l ≠ k) :
    slotOf (setSlot i k v) l = slotOf i l := get_set_apart _ _ _ _ (Ne.symm h)

theorem slotOf_map (i : Item) (f : Option Version → Option Version) (k : Slot) :
    slotOf { i with slots := i.slots.map f } k = f (slotOf i k) := get_map f i.slots k

theorem mem_slotNumbers (k : Slot) : k ∈ slotNumbers := by revert k; decide

theorem slotWithRole_some (h : slotWithRole i r = some k) : ∃ v, slotOf i k = some v ∧ v.role = r := by
  have hk := List.find?_some h
  cases hv : slotOf i k with
  | none => simp [hv] at hk
  | some v => exact ⟨v, rfl, by simpa [hv] using hk⟩

theorem slotWithRole_none (h : slotWithRole i r = none) (hv : slotOf i k = some v) : v.role ≠ r := by
  have hk := List.find?_eq_none.1 h k (mem_slotNumbers k)
  simpa [hv] using hk

/-- R34: a role other than RETIRED is found where it stands. -/
theorem slotWithRole_eq (hi : OneOfEach i) (hv : slotOf i k = some v) (hr : v.role ≠ .retired) :
    slotWithRole i v.role = some k := by
  cases h : slotWithRole i v.role with
  | none => exact absurd rfl (slotWithRole_none h hv)
  | some l =>
    obtain ⟨w, hw, hrole⟩ := slotWithRole_some h
    rw [hi k l v w hv hw hrole.symm hr]

theorem lowestEmpty_some (h : lowestEmpty i = some k) : slotOf i k = none := by
  simpa using List.find?_some h

theorem pendingVersion_eq (hk : slotWithRole i .pending = some k) : pendingVersion i = slotOf i k := by
  simp [pendingVersion, hk]

/-! ## Version numbers (R35) -/

/-- Where a number is looked for, no more than `fuel` numbers are passed over, every one of them held; the one found is
not held, unless all `fuel` were. -/
theorem passOver_spec (held : List Nat) (fuel n : Nat) : ∃ d, d ≤ fuel ∧ passOver held fuel n = numberAfter^[d] n ∧
    (∀ e, e < d → numberAfter^[e] n ∈ held) ∧ (d < fuel → numberAfter^[d] n ∉ held) := by
  induction fuel generalizing n with
  | zero => exact ⟨0, le_rfl, rfl, by simp, by simp⟩
  | succ fuel ih =>
    by_cases hn : n ∈ held
    · obtain ⟨d, hd, he, hheld, hfree⟩ := ih (numberAfter n)
      refine ⟨d + 1, by omega, by simp [passOver, hn, he], fun e h => ?_, fun h => hfree (by omega)⟩
      cases e with
      | zero => exact hn
      | succ e => exact hheld e (by omega)
    · exact ⟨0, by omega, by simp [passOver, hn], by simp, fun _ => hn⟩

/-- The numbers from `n` on run up to 65,535 and around. -/
theorem numberAfter_iterate {n : Nat} (h1 : 1 ≤ n) (hn : n ≤ 65535) (d : Nat) :
    numberAfter^[d] n = (n - 1 + d) % 65535 + 1 := by
  induction d with
  | zero => simp; omega
  | succ d ih =>
    rw [Function.iterate_succ_apply', ih]
    unfold numberAfter
    split <;> omega

theorem numberAfter_range (n : Nat) : 1 ≤ numberAfter n ∧ numberAfter n ≤ 65535 := by
  unfold numberAfter
  split <;> omega

/-- Four numbers in a row are not all among three. -/
theorem exists_not_held (held : List Nat) (n : Nat) (hlen : held.length ≤ 3) :
    ∃ d, d < 4 ∧ numberAfter^[d] (numberAfter n) ∉ held := by
  by_contra hall
  simp only [not_exists, not_and, not_not] at hall
  obtain ⟨h1, h2⟩ := numberAfter_range n
  have hnodup : ((List.range 4).map (fun d => numberAfter^[d] (numberAfter n))).Nodup := by
    refine List.Nodup.map_on (fun d hd e he heq => ?_) List.nodup_range
    rw [List.mem_range] at hd he
    simp only [numberAfter_iterate h1 h2] at heq
    omega
  have hsub : (List.range 4).map (fun d => numberAfter^[d] (numberAfter n)) ⊆ held := by
    intro x hx
    obtain ⟨d, hd, rfl⟩ := List.mem_map.1 hx
    exact hall d (List.mem_range.1 hd)
  have := (List.subperm_of_subset hnodup hsub).length_le
  simp at this
  omega

theorem mem_heldNumbers (n : Nat) : n ∈ heldNumbers i k ↔ HeldElsewhere i k n := by
  simp only [heldNumbers, List.mem_filterMap, HeldElsewhere]
  constructor
  · rintro ⟨l, -, hl⟩
    split at hl
    · simp at hl
    · next hne =>
      obtain ⟨v, hv, rfl⟩ := Option.map_eq_some_iff.1 hl
      exact ⟨l, v, hne, hv, rfl⟩
  · rintro ⟨l, v, hne, hv, rfl⟩
    exact ⟨l, mem_slotNumbers l, by simp [hne, hv]⟩

theorem heldNumbers_length (i : Item) (k : Slot) : (heldNumbers i k).length ≤ 3 := by
  have hskip : heldNumbers i k =
      (slotNumbers.filter (fun l => decide (l ≠ k))).filterMap (fun l => (slotOf i l).map Version.number) := by
    rw [List.filterMap_filter]
    exact List.filterMap_congr fun l _ => by by_cases h : l = k <;> simp [h]
  rw [hskip]
  have hthree : ∀ k : Slot, (slotNumbers.filter (fun l => decide (l ≠ k))).length ≤ 3 := by decide
  exact (List.length_filterMap_le _ _).trans (hthree k)

/-- R35: the number of a new version is the first from the last one issued on that no other slot holds. -/
theorem nextNumber_fresh (i : Item) (k : Slot) : FreshNumber i k (nextNumber i k) := by
  obtain ⟨d, hd, he, hheld, hfree⟩ := passOver_spec (heldNumbers i k) 4 (numberAfter i.last)
  obtain ⟨e, hlt, hnot⟩ := exists_not_held (heldNumbers i k) i.last (heldNumbers_length i k)
  have hde : d ≤ e := not_lt.1 fun h => hnot (hheld e h)
  refine ⟨d, he, ?_, fun e h => (mem_heldNumbers _).1 (hheld e h)⟩
  rw [nextNumber, he, ← mem_heldNumbers]
  exact hfree (by omega)

theorem nextNumber_ne (hl : l ≠ k) (hv : slotOf i l = some v) : v.number ≠ nextNumber i k := fun h =>
  let ⟨_, _, hfree, _⟩ := nextNumber_fresh i k
  hfree ⟨l, v, hl, hv, h⟩

/-! ## What the item rules ask of one item -/

/-- R15, R36: a version has the results its inputs evaluate to, and references where it is RETIRED. -/
def VersionKept (v : Version) : Prop := v.results = evaluate v.inputs ∧ (v.role = .retired → 0 < v.refs)

/-- R15, R34 to R36: the item rules of one item. -/
structure ItemKept (i : Item) : Prop where
  oneOfEach : OneOfEach i
  numbers : ∀ (k l : Slot) (v w : Version), slotOf i k = some v → slotOf i l = some w → v.number = w.number → k = l
  versions : ∀ k v, slotOf i k = some v → VersionKept v

/-- R37: an item has a PENDING slot. -/
def HasPending (i : Item) : Prop := ∃ k v, slotOf i k = some v ∧ v.role = .pending

/-- Every filled slot of `j` holds a version that stood in the same slot of `i`, with its number, and with its role or
RETIRED. -/
def SlotsFrom (i j : Item) : Prop :=
  ∀ k w, slotOf j k = some w →
    ∃ v, slotOf i k = some v ∧ w.number = v.number ∧ (w.role = v.role ∨ w.role = .retired) ∧ VersionKept w

theorem ItemKept.of_slotsFrom (h : ItemKept i) (hs : SlotsFrom i j) : ItemKept j where
  oneOfEach := by
    intro k l v w hv hw hr hn
    obtain ⟨v', hv', -, hvr, -⟩ := hs k v hv
    obtain ⟨w', hw', -, hwr, -⟩ := hs l w hw
    have hvr := hvr.resolve_right hn
    have hwr := hwr.resolve_right (hr ▸ hn)
    exact h.oneOfEach k l v' w' hv' hw' (by rw [← hvr, ← hwr, hr]) (hvr ▸ hn)
  numbers := by
    intro k l v w hv hw hn
    obtain ⟨v', hv', hvn, -⟩ := hs k v hv
    obtain ⟨w', hw', hwn, -⟩ := hs l w hw
    exact h.numbers k l v' w' hv' hw' (by rw [← hvn, ← hwn, hn])
  versions := fun k v hv => let ⟨_, _, _, _, hk⟩ := hs k v hv; hk

/-- One slot takes a version that stood there, with its number, and with its role or RETIRED, or becomes EMPTY. -/
theorem ItemKept.setSlot_from (h : ItemKept i) {o : Option Version} (hv : slotOf i k = some v)
    (ho : ∀ w, o = some w → w.number = v.number ∧ (w.role = v.role ∨ w.role = .retired) ∧ VersionKept w) :
    ItemKept (setSlot i k o) := by
  refine h.of_slotsFrom fun l w hw => ?_
  by_cases hl : l = k
  · subst hl
    rw [slotOf_setSlot_self] at hw
    obtain ⟨hn, hr, hk⟩ := ho w hw
    exact ⟨v, hv, hn, hr, hk⟩
  · rw [slotOf_setSlot_other _ _ hl] at hw
    exact ⟨w, hw, rfl, Or.inl rfl, h.versions l w hw⟩

/-- One slot takes a version whose role and number no other slot has. -/
theorem ItemKept.setSlot_new (h : ItemKept i) (hx : VersionKept x)
    (hrole : ∀ l v, l ≠ k → slotOf i l = some v → v.role ≠ x.role)
    (hnumber : ∀ l v, l ≠ k → slotOf i l = some v → v.number ≠ x.number) : ItemKept (setSlot i k (some x)) := by
  have hslot (l : Slot) (v : Version) (hv : slotOf (setSlot i k (some x)) l = some v) :
      (l = k ∧ v = x) ∨ (l ≠ k ∧ slotOf i l = some v) := by
    by_cases hl : l = k
    · subst hl
      rw [slotOf_setSlot_self] at hv
      exact Or.inl ⟨rfl, (Option.some.inj hv).symm⟩
    · rw [slotOf_setSlot_other _ _ hl] at hv
      exact Or.inr ⟨hl, hv⟩
  refine ⟨?_, ?_, ?_⟩
  · intro l m v w hv hw hr hn
    rcases hslot l v hv with ⟨rfl, rfl⟩ | ⟨hl, hvi⟩ <;> rcases hslot m w hw with ⟨rfl, rfl⟩ | ⟨hm, hwi⟩
    · rfl
    · exact absurd hr.symm (hrole m w hm hwi)
    · exact absurd hr (hrole l v hl hvi)
    · exact h.oneOfEach l m v w hvi hwi hr hn
  · intro l m v w hv hw hn
    rcases hslot l v hv with ⟨rfl, rfl⟩ | ⟨hl, hvi⟩ <;> rcases hslot m w hw with ⟨rfl, rfl⟩ | ⟨hm, hwi⟩
    · rfl
    · exact absurd hn.symm (hnumber m w hm hwi)
    · exact absurd hn (hnumber l v hl hvi)
    · exact h.numbers l m v w hvi hwi hn
  · intro l v hv
    rcases hslot l v hv with ⟨-, rfl⟩ | ⟨-, hv⟩
    · exact hx
    · exact h.versions l v hv

theorem itemKept_newItem : ItemKept newItem := by
  have hempty (k : Slot) : slotOf newItem k = none := get_replicate none k
  refine ⟨?_, ?_, ?_⟩ <;> simp [OneOfEach, hempty]

/-- R37: writing slot `k` of an item leaves a PENDING slot elsewhere as it is. -/
theorem HasPending.setSlot_other {o : Option Version} (hl : l ≠ k) (hv : slotOf i l = some v) (hr : v.role = .pending) :
    HasPending (setSlot i k o) := ⟨l, v, by rw [slotOf_setSlot_other _ _ hl, hv], hr⟩

/-! ## Roles given up (R41, R42, R48) -/

theorem retireActive_none (h : slotWithRole i .active = none) : retireActive i = i := by simp [retireActive, h]

theorem retireActive_some (hi : OneOfEach i) (hv : slotOf i k = some v) (hr : v.role = .active) :
    retireActive i = setSlot i k (if 0 < v.refs then some { v with role := .retired } else none) := by
  have hk : slotWithRole i .active = some k := hr ▸ slotWithRole_eq hi hv (by simp [hr])
  simp [retireActive, hk, hv]

/-- R42, R48: what each slot holds when the ACTIVE role is given up. -/
theorem slotOf_retireActive (hi : OneOfEach i) (k : Slot) :
    slotOf (retireActive i) k = (slotOf i k).bind retiredFrom := by
  cases h : slotWithRole i .active with
  | none =>
    rw [retireActive_none h]
    cases hk : slotOf i k with
    | none => rfl
    | some v => simp [retiredFrom, slotWithRole_none h hk]
  | some l =>
    obtain ⟨v, hv, hr⟩ := slotWithRole_some h
    rw [retireActive_some hi hv hr]
    by_cases hk : k = l
    · subst hk
      simp [hv, retiredFrom, hr]
    · rw [slotOf_setSlot_other _ _ hk]
      cases hw : slotOf i k with
      | none => rfl
      | some w =>
        have hne : w.role ≠ .active := fun e => hk (hi k l w v hw hv (by rw [e, hr]) (by simp [e]))
        simp [retiredFrom, hne]

/-- A version that the ACTIVE role given up leaves in its slot, and what it was. -/
theorem retiredFrom_some (h : retiredFrom v = some w) :
    (v.role ≠ .active ∧ w = v) ∨ (v.role = .active ∧ 0 < v.refs ∧ w = { v with role := .retired }) := by
  unfold retiredFrom at h
  split at h
  · next hr =>
    split at h
    · next hp => exact Or.inr ⟨hr, hp, (Option.some.inj h).symm⟩
    · cases h
  · next hr => exact Or.inl ⟨hr, (Option.some.inj h).symm⟩

/-- What a slot holds after the ACTIVE role is given up was there before, with its number, and is not ACTIVE. -/
theorem slotOf_retireActive_some (hi : OneOfEach i) (h : slotOf (retireActive i) k = some w) :
    ∃ v, slotOf i k = some v ∧ ((v.role ≠ .active ∧ w = v) ∨
      (v.role = .active ∧ 0 < v.refs ∧ w = { v with role := .retired })) := by
  rw [slotOf_retireActive hi] at h
  obtain ⟨v, hv, hw⟩ := Option.bind_eq_some_iff.1 h
  exact ⟨v, hv, retiredFrom_some hw⟩

theorem ItemKept.retireActive (h : ItemKept i) : ItemKept (retireActive i) := by
  refine h.of_slotsFrom fun k w hw => ?_
  obtain ⟨v, hv, ⟨-, rfl⟩ | ⟨-, hp, rfl⟩⟩ := slotOf_retireActive_some h.oneOfEach hw
  · exact ⟨_, hv, rfl, Or.inl rfl, h.versions k _ hv⟩
  · exact ⟨v, hv, rfl, Or.inr rfl, (h.versions k v hv).1, fun _ => hp⟩

theorem retirePending_some (hi : OneOfEach i) (hv : slotOf i k = some v) (hr : v.role = .pending) :
    retirePending i = setSlot i k (some { v with role := .retired }) := by
  have hk : slotWithRole i .pending = some k := hr ▸ slotWithRole_eq hi hv (by simp [hr])
  simp [retirePending, hk, hv]

/-! ## Placement (R41 to R44) -/

section Placement

variable {m : PriceMasks} {inputs : PriceInputs}

theorem versionKept_newVersion (m : PriceMasks) (n : Nat) (inputs : PriceInputs) (hr : r ≠ .retired) :
    VersionKept (newVersion m r n inputs) := ⟨rfl, fun h => absurd h hr⟩

@[simp] theorem slotOf_fillSlot_self (m : PriceMasks) (r : Role) (inputs : PriceInputs) (k : Slot) (i : Item) :
    slotOf (fillSlot m r inputs k i) k = some (newVersion m r (nextNumber i k) inputs) := slotOf_setSlot_self i k _

/-- The item rules of an item speak of its slots only. -/
theorem ItemKept.of_slots (h : ItemKept i) (hs : ∀ k, slotOf j k = slotOf i k) : ItemKept j :=
  h.of_slotsFrom fun k w hw => ⟨w, hs k ▸ hw, rfl, Or.inl rfl, h.versions k w (hs k ▸ hw)⟩

theorem ItemKept.fillSlot (h : ItemKept i) (hr : r ≠ .retired)
    (hrole : ∀ l v, l ≠ k → slotOf i l = some v → v.role ≠ r) : ItemKept (fillSlot m r inputs k i) := by
  have hset : ItemKept (setSlot i k (some (newVersion m r (nextNumber i k) inputs))) :=
    h.setSlot_new (versionKept_newVersion m _ inputs hr) hrole fun l v hl hv => nextNumber_ne hl hv
  exact hset.of_slots fun _ => rfl

/-- R41: a NEXT_OPEN version takes the slot of the PENDING one that nothing references; the lowest EMPTY slot, the PENDING
one becoming RETIRED; or the lowest EMPTY slot where nothing is PENDING. -/
theorem placeNextOpen_some (hi : OneOfEach i) (h : placeNextOpen m inputs i = some j) :
    (∃ k v, slotOf i k = some v ∧ v.role = .pending ∧ j = fillSlot m .pending inputs k i) ∨
    (∃ k v e, slotOf i k = some v ∧ v.role = .pending ∧ 0 < v.refs ∧ slotOf i e = none ∧
      j = fillSlot m .pending inputs e (setSlot i k (some { v with role := .retired }))) ∨
    ∃ e, (∀ k v, slotOf i k = some v → v.role ≠ .pending) ∧ j = fillSlot m .pending inputs e i := by
  unfold placeNextOpen at h
  cases hk : slotWithRole i .pending with
  | none =>
    simp only [hk] at h
    obtain ⟨e, -, rfl⟩ := Option.map_eq_some_iff.1 h
    exact Or.inr (Or.inr ⟨e, fun k v hv => slotWithRole_none hk hv, rfl⟩)
  | some k =>
    obtain ⟨v, hv, hr⟩ := slotWithRole_some hk
    simp only [hk, pendingVersion_eq hk, hv] at h
    split at h
    · exact Or.inl ⟨k, v, hv, hr, (Option.some.inj h).symm⟩
    · obtain ⟨e, he, rfl⟩ := Option.map_eq_some_iff.1 h
      exact Or.inr (Or.inl ⟨k, v, e, hv, hr, by omega, lowestEmpty_some he, by rw [retirePending_some hi hv hr]⟩)

theorem placeImmediate_some (h : placeImmediate m inputs i = some j) : ∃ e, slotOf i e = none ∧
    j = { setSlot (retireActive i) e (some (newVersion m .active (nextNumber i e) inputs)) with
      last := nextNumber i e } := by
  obtain ⟨e, he, rfl⟩ := Option.map_eq_some_iff.1 h
  exact ⟨e, lowestEmpty_some he, rfl⟩

theorem ItemKept.placeNextOpen (h : ItemKept i) (hj : placeNextOpen m inputs i = some j) : ItemKept j := by
  rcases placeNextOpen_some h.oneOfEach hj with ⟨k, v, hv, hr, rfl⟩ | ⟨k, v, e, hv, hr, hp, he, rfl⟩ | ⟨e, hno, rfl⟩
  · refine h.fillSlot (by simp) fun l w hl hw hwr => hl ?_
    exact h.oneOfEach l k w v hw hv (by rw [hwr, hr]) (by simp [hwr])
  · have hretired : ItemKept (setSlot i k (some { v with role := .retired })) :=
      h.setSlot_from hv fun w hw => by
        cases hw
        exact ⟨rfl, Or.inr rfl, (h.versions k v hv).1, fun _ => hp⟩
    refine hretired.fillSlot (by simp) fun l w hl hw hwr => ?_
    by_cases hlk : l = k
    · subst hlk
      rw [slotOf_setSlot_self] at hw
      cases hw
      cases hwr
    · rw [slotOf_setSlot_other _ _ hlk] at hw
      exact hlk (h.oneOfEach l k w v hw hv (by rw [hwr, hr]) (by simp [hwr]))
  · exact h.fillSlot (by simp) fun l w _ hw => hno l w hw

theorem ItemKept.placeImmediate (h : ItemKept i) (hj : placeImmediate m inputs i = some j) : ItemKept j := by
  obtain ⟨e, he, rfl⟩ := placeImmediate_some hj
  have hset : ItemKept (setSlot (Machine.retireActive i) e (some (newVersion m .active (nextNumber i e) inputs))) := by
    refine h.retireActive.setSlot_new (versionKept_newVersion m _ inputs (by simp)) ?_ ?_ <;> intro l w hl hw
    · obtain ⟨v, -, ⟨hne, rfl⟩ | ⟨-, -, rfl⟩⟩ := slotOf_retireActive_some h.oneOfEach hw
      · exact hne
      · simp [newVersion]
    · obtain ⟨v, hv, hnumber⟩ : ∃ v, slotOf i l = some v ∧ w.number = v.number := by
        obtain ⟨v, hv, ⟨-, rfl⟩ | ⟨-, -, rfl⟩⟩ := slotOf_retireActive_some h.oneOfEach hw <;> exact ⟨_, hv, rfl⟩
      exact hnumber ▸ nextNumber_ne hl hv
  exact hset.of_slots fun _ => rfl

/-- R37, R41: an item that takes a NEXT_OPEN version has a PENDING slot. -/
theorem hasPending_placeNextOpen (hi : OneOfEach i) (hj : placeNextOpen m inputs i = some j) : HasPending j := by
  rcases placeNextOpen_some hi hj with ⟨k, -, -, -, rfl⟩ | ⟨-, -, k, -, -, -, -, rfl⟩ | ⟨k, -, rfl⟩ <;>
    exact ⟨k, _, slotOf_fillSlot_self .., rfl⟩

/-- R42: a PENDING slot that gives its role up is none; the others stay. -/
theorem hasPending_retireActive (hi : OneOfEach i) : HasPending (retireActive i) ↔ HasPending i := by
  constructor
  · rintro ⟨k, w, hw, hr⟩
    obtain ⟨v, hv, ⟨-, rfl⟩ | ⟨-, -, rfl⟩⟩ := slotOf_retireActive_some hi hw
    · exact ⟨k, _, hv, hr⟩
    · cases hr
  · rintro ⟨k, v, hv, hr⟩
    exact ⟨k, v, by rw [slotOf_retireActive hi, hv]; simp [retiredFrom, hr], hr⟩

/-- R42: an IMMEDIATE version leaves the PENDING slot as it is. -/
theorem hasPending_placeImmediate (hi : OneOfEach i) (hj : placeImmediate m inputs i = some j) :
    HasPending j ↔ HasPending i := by
  obtain ⟨e, he, rfl⟩ := placeImmediate_some hj
  rw [← hasPending_retireActive hi]
  constructor
  · rintro ⟨k, w, hw, hr⟩
    change slotOf (setSlot _ _ _) k = some w at hw
    by_cases hk : k = e
    · subst hk
      rw [slotOf_setSlot_self] at hw
      cases hw
      cases hr
    · exact ⟨k, w, by rwa [slotOf_setSlot_other _ _ hk] at hw, hr⟩
  · rintro ⟨k, w, hw, hr⟩
    have hk : k ≠ e := by
      rintro rfl
      rw [slotOf_retireActive hi, he] at hw
      cases hw
    exact HasPending.setSlot_other hk hw hr

end Placement

end VersionSlots

end Sys2Proof.Machine

namespace Sys2Proof.Machine

/-! # The item rules under the operations of the item table -/

section ItemRulesKept

variable {b c : Block} {i j : Item} {code : Nat} {k : Slot} {v : Version}

/-! ## What the item rules rest on -/

/-- The item rules, item by item. -/
theorem itemRules_iff : ItemRules b ↔ (∀ code i, getItem b code = some i → ItemKept i) ∧ b.items.pending.Nodup ∧
    ∀ code, code ∈ b.items.pending ↔ ∃ i, getItem b code = some i ∧ HasPending i := by
  constructor
  · rintro ⟨hitems, hnodup, hpending⟩
    refine ⟨fun code i hi => ?_, hnodup, fun code => (hpending code).trans ?_⟩
    · obtain ⟨hone, hnumbers, hversions⟩ := hitems code i hi
      exact ⟨hone, hnumbers, hversions⟩
    · simp only [HasPending, exists_and_left]
  · rintro ⟨hitems, hnodup, hpending⟩
    refine ⟨fun code i hi => ?_, hnodup, fun code => (hpending code).trans ?_⟩
    · obtain ⟨hone, hnumbers, hversions⟩ := hitems code i hi
      exact ⟨hone, hnumbers, hversions⟩
    · simp only [HasPending, exists_and_left]

theorem ItemRules.kept (h : ItemRules b) (hi : getItem b code = some i) : ItemKept i := (itemRules_iff.1 h).1 code i hi

theorem ItemRules.nodup (h : ItemRules b) : b.items.pending.Nodup := (itemRules_iff.1 h).2.1

/-- R37: the pending list names an item exactly when it has a PENDING slot. -/
theorem ItemRules.mem_pending (h : ItemRules b) (hi : getItem b code = some i) :
    code ∈ b.items.pending ↔ HasPending i := by
  rw [(itemRules_iff.1 h).2.2 code]
  simp [hi]

theorem ItemRules.not_mem_pending (h : ItemRules b) (hi : getItem b code = none) : code ∉ b.items.pending := by
  rw [(itemRules_iff.1 h).2.2 code]
  simp [hi]

/-- Every part but the item table. -/
def itemQuietParts : List Part :=
  [.mode, .price, .labels, .composer, .radio, .till, .fwd, .guest, .line, .exch, .mgmt, .counts, .time, .pins, .out]

theorem ItemRules.of_items (h : ItemRules b) (hc : c.items = b.items) : ItemRules c := by
  unfold ItemRules getItem at *
  rwa [hc]

/-- An effect on other parts keeps the item rules. -/
theorem ItemRules.of_quiet (h : ItemRules b) (t : Touches itemQuietParts b c) : ItemRules c :=
  h.of_items (t .items (by decide)).symm

/-- One item written or withdrawn, and its place in the pending list with it. -/
theorem ItemRules.of_item (h : ItemRules b) (code : Nat) (hother : ∀ k, k ≠ code → getItem c k = getItem b k)
    (hkept : ∀ j, getItem c code = some j → ItemKept j) (hnodup : c.items.pending.Nodup)
    (hpending : ∀ k, k ≠ code → (k ∈ c.items.pending ↔ k ∈ b.items.pending))
    (hcode : code ∈ c.items.pending ↔ ∃ j, getItem c code = some j ∧ HasPending j) : ItemRules c := by
  obtain ⟨hitems, -, hlist⟩ := itemRules_iff.1 h
  refine itemRules_iff.2 ⟨fun k i hi => ?_, hnodup, fun k => ?_⟩
  · by_cases hk : k = code
    · exact hkept i (hk ▸ hi)
    · exact hitems k i (hother k hk ▸ hi)
  · by_cases hk : k = code
    · exact hk ▸ hcode
    · rw [hpending k hk, hlist k, hother k hk]

/-- An item written over itself, with the rules kept and a PENDING slot exactly where it had one. -/
theorem ItemRules.rewriteItem (h : ItemRules b) (hi : getItem b code = some i) (hj : ItemKept j)
    (hp : HasPending j ↔ HasPending i) : ItemRules (putItem code j b) := by
  refine h.of_item code (fun k hk => getItem_putItem_other b j hk) (fun x hx => ?_) h.nodup (fun _ _ => Iff.rfl) ?_
  · rw [getItem_putItem_self] at hx
    cases hx
    exact hj
  · rw [getItem_putItem_self]
    simpa [hp] using h.mem_pending hi

/-! ## References (R36) and bound labels (R38) -/

/-- A version of an item found in a slot by its number. -/
theorem namedVersion_some (hi : getItem b code = some i) {n : Nat} (hv : namedVersion b code k n = some v) :
    slotOf i k = some v ∧ v.number = n := by
  unfold namedVersion at hv
  simp only [hi] at hv
  split at hv
  · cases hv
  · next w hw =>
    split at hv
    · next hn =>
      cases hv
      exact ⟨hw, hn⟩
    · cases hv

/-- A slot rewritten with its version's role and number, or emptied of a RETIRED version, keeps a PENDING slot where there
was one. -/
theorem hasPending_setSlot {o : Option Version} (hv : slotOf i k = some v)
    (ho : v.role = .pending → ∃ w, o = some w ∧ w.role = .pending)
    (hw : ∀ w, o = some w → w.role = .pending → v.role = .pending) : HasPending (setSlot i k o) ↔ HasPending i := by
  constructor
  · rintro ⟨l, w, hl, hr⟩
    by_cases hlk : l = k
    · subst hlk
      rw [slotOf_setSlot_self] at hl
      exact ⟨l, v, hv, hw w hl hr⟩
    · exact ⟨l, w, by rwa [slotOf_setSlot_other _ _ hlk] at hl, hr⟩
  · rintro ⟨l, w, hl, hr⟩
    by_cases hlk : l = k
    · subst hlk
      obtain rfl : v = w := Option.some.inj (hv.symm.trans hl)
      obtain ⟨x, rfl, hx⟩ := ho hr
      exact ⟨l, x, slotOf_setSlot_self .., hx⟩
    · exact HasPending.setSlot_other hlk hl hr

theorem ItemRules.takeReference (h : ItemRules b) (code : Nat) (k : Slot) (n : Nat) :
    ItemRules (takeReference code k n b) := by
  unfold Machine.takeReference
  split
  · next i v hi hn =>
    obtain ⟨hv, -⟩ := namedVersion_some hi hn
    have hkept := (h.kept hi).versions k v hv
    refine h.rewriteItem hi ((h.kept hi).setSlot_from hv fun w hw => ?_)
      (hasPending_setSlot hv (fun hr => ⟨_, rfl, hr⟩) fun w hw hr => ?_)
    · cases hw
      exact ⟨rfl, Or.inl rfl, hkept.1, fun _ => Nat.succ_pos _⟩
    · cases hw
      exact hr
  · exact h

/-- R36: what a release leaves of a version. -/
theorem releasedSlot_some {w : Version} (h : releasedSlot v = some w) :
    w = { v with refs := v.refs - 1 } ∧ (v.role = .retired → 0 < w.refs) := by
  unfold releasedSlot at h
  split at h
  · cases h
  · next hne =>
    cases h
    exact ⟨rfl, fun hr => Nat.pos_of_ne_zero fun hz => hne ⟨hz, hr⟩⟩

theorem ItemRules.releaseReference (h : ItemRules b) (code : Nat) (k : Slot) (n : Nat) :
    ItemRules (releaseReference code k n b) := by
  unfold Machine.releaseReference
  split
  · next i v hi hn =>
    obtain ⟨hv, -⟩ := namedVersion_some hi hn
    have hkept := (h.kept hi).versions k v hv
    refine h.rewriteItem hi ((h.kept hi).setSlot_from hv fun w hw => ?_)
      (hasPending_setSlot hv (fun hr => ?_) fun w hw hr => ?_)
    · obtain ⟨rfl, hrefs⟩ := releasedSlot_some hw
      exact ⟨rfl, Or.inl rfl, hkept.1, hrefs⟩
    · exact ⟨{ v with refs := v.refs - 1 }, by simp [releasedSlot, hr], hr⟩
    · obtain ⟨rfl, -⟩ := releasedSlot_some hw
      exact hr
  · exact h

theorem ItemRules.bindToItem (h : ItemRules b) (code id : Nat) : ItemRules (bindToItem code id b) := by
  unfold Machine.bindToItem
  split
  · next i hi => exact h.rewriteItem hi ((h.kept hi).of_slots fun _ => rfl) Iff.rfl
  · exact h

theorem ItemRules.unbindFromItem (h : ItemRules b) (code id : Nat) : ItemRules (unbindFromItem code id b) := by
  unfold Machine.unbindFromItem
  split
  · next i hi => exact h.rewriteItem hi ((h.kept hi).of_slots fun _ => rfl) Iff.rfl
  · exact h

/-! ## The pending list (R37) -/

@[simp] theorem mem_setAdd {l : List Nat} {x y : Nat} : y ∈ setAdd l x ↔ y ∈ l ∨ y = x := by
  unfold setAdd
  split
  · next hx =>
    have : x ∈ l := by simpa using hx
    constructor
    · exact Or.inl
    · rintro (hy | rfl)
      · exact hy
      · exact this
  · simp

theorem nodup_setAdd {l : List Nat} (x : Nat) (h : l.Nodup) : (setAdd l x).Nodup := by
  unfold setAdd
  split
  · exact h
  · next hx =>
    have : x ∉ l := by simpa using hx
    exact List.nodup_append.2 ⟨h, List.nodup_singleton x, fun y hy z hz e => this (by simp_all)⟩

@[simp] theorem mem_listRemove {l : List Nat} {x y : Nat} : y ∈ listRemove l x ↔ y ∈ l ∧ y ≠ x := by
  simp [listRemove]

theorem nodup_listRemove {l : List Nat} (x : Nat) (h : l.Nodup) : (listRemove l x).Nodup := h.filter _

/-- An item that is not on the pending list leaves it with no change. -/
theorem leavePending_of_not_mem (h : code ∉ b.items.pending) : leavePending code b = b := by
  have hl : listRemove b.items.pending code = b.items.pending :=
    List.filter_eq_self.2 fun k hk => by
      have : k ≠ code := fun e => h (e ▸ hk)
      simpa using this
  unfold leavePending
  rw [hl]

/-! ## PRICE, DESCRIPTION and WITHDRAW (R39 to R47) -/

theorem ItemRules.handOn (h : ItemRules b) (x : Handoff) : ItemRules (handOn x b) := h.of_items rfl

theorem ItemRules.notice (h : ItemRules b) (x : NoticeKind) (y : NoticeSubject) : ItemRules (notice x y b) :=
  h.of_items rfl

theorem ItemRules.noteHeld (h : ItemRules b) (code : Nat) (s : VersionStatus) : ItemRules (noteHeld code s b) := by
  cases s with
  | held => exact h.notice _ _
  | valid => exact h

/-- R40: the record a PRICE proceeds on is the item's, or an empty one. -/
theorem priceItem_some (h : priceItem b code = some i) :
    getItem b code = some i ∨ (getItem b code = none ∧ b.items.table.length < 65536 ∧ i = newItem) := by
  unfold priceItem at h
  split at h
  · next x hx => exact Or.inl (by rw [hx, h])
  · next hn =>
    split at h
    · next hlt => exact Or.inr ⟨hn, hlt, (Option.some.inj h).symm⟩
    · cases h

theorem not_hasPending_newItem : ¬ HasPending newItem := by
  rintro ⟨k, v, hv, -⟩
  rw [show slotOf newItem k = none from get_replicate none k] at hv
  cases hv

theorem ItemRules.priceItem (h : ItemRules b) (hi : priceItem b code = some i) :
    ItemKept i ∧ (code ∈ b.items.pending ↔ HasPending i) := by
  rcases priceItem_some hi with hi | ⟨hn, -, rfl⟩
  · exact ⟨h.kept hi, h.mem_pending hi⟩
  · exact ⟨itemKept_newItem, by simp [h.not_mem_pending hn, not_hasPending_newItem]⟩

/-- R37, R41, R42: the item a version was placed in, put back and noted in the pending list. -/
theorem ItemRules.place (h : ItemRules b) {m : PriceMasks} {inputs : PriceInputs} {e : Effect} (hk : ItemKept i)
    (hp : code ∈ b.items.pending ↔ HasPending i) (hj : placeVersion m inputs i e = some j) :
    ItemRules (notePending code e (putItem code j b)) := by
  cases e with
  | nextOpen =>
    have hpj : HasPending j := hasPending_placeNextOpen hk.oneOfEach hj
    refine h.of_item code (fun k hk => getItem_putItem_other b j hk) (fun x hx => ?_) (nodup_setAdd code h.nodup)
      (fun k hk => ?_) ?_
    · rw [show getItem (notePending code .nextOpen (putItem code j b)) code = some j from
        getItem_putItem_self b code j] at hx
      cases hx
      exact hk.placeNextOpen hj
    · exact mem_setAdd.trans (or_iff_left hk)
    · exact iff_of_true (mem_setAdd.2 (Or.inr rfl)) ⟨j, getItem_putItem_self b code j, hpj⟩
  | immediate =>
    refine h.of_item code (fun k hk => getItem_putItem_other b j hk) (fun x hx => ?_) h.nodup (fun _ _ => Iff.rfl) ?_
    · rw [show getItem (notePending code .immediate (putItem code j b)) code = some j from
        getItem_putItem_self b code j] at hx
      cases hx
      exact hk.placeImmediate hj
    · have hpj := hasPending_placeImmediate hk.oneOfEach hj
      change code ∈ b.items.pending ↔ ∃ x, getItem (putItem code j b) code = some x ∧ HasPending x
      rw [getItem_putItem_self, hp, ← hpj]
      simp

theorem ItemRules.applyPrice (h : ItemRules b) (r : PriceRecord) : ItemRules (applyPrice r b).1 := by
  unfold Machine.applyPrice
  (repeat' split)
  · exact h
  · exact h
  · exact h
  · next hi _ j hj =>
    obtain ⟨hk, hp⟩ := h.priceItem hi
    exact ((h.place hk hp hj).noteHeld _ _).handOn _

/-- R15, R46: a description is no input of an evaluation. -/
theorem evaluate_description (x : PriceInputs) (t : Text) : evaluate { x with description := t } = evaluate x := rfl

theorem describeVersion_spec (t : Text) (v : Version) : (describeVersion t v).number = v.number ∧
    (describeVersion t v).role = v.role ∧ (VersionKept v → VersionKept (describeVersion t v)) := by
  unfold describeVersion
  split
  · exact ⟨rfl, rfl, fun h => ⟨h.1.trans (evaluate_description v.inputs t).symm, h.2⟩⟩
  · exact ⟨rfl, rfl, id⟩

/-- Every version of an item rewritten with its number and role keeps the item's rules and its PENDING slot. -/
theorem ItemKept.mapVersions (h : ItemKept i) {f : Version → Version}
    (hf : ∀ v, (f v).number = v.number ∧ (f v).role = v.role ∧ (VersionKept v → VersionKept (f v))) :
    ItemKept { i with slots := i.slots.map (fun o => o.map f) } ∧
      (HasPending { i with slots := i.slots.map (fun o => o.map f) } ↔ HasPending i) := by
  constructor
  · refine h.of_slotsFrom fun k w hw => ?_
    rw [slotOf_map] at hw
    obtain ⟨v, hv, rfl⟩ := Option.map_eq_some_iff.1 hw
    obtain ⟨hn, hr, hk⟩ := hf v
    exact ⟨v, hv, hn, Or.inl hr, hk (h.versions k v hv)⟩
  · simp only [HasPending, slotOf_map, Option.map_eq_some_iff]
    constructor
    · rintro ⟨k, -, ⟨v, hv, rfl⟩, hr⟩
      exact ⟨k, v, hv, (hf v).2.1 ▸ hr⟩
    · rintro ⟨k, v, hv, hr⟩
      exact ⟨k, f v, ⟨v, hv, rfl⟩, (hf v).2.1.trans hr⟩

theorem ItemRules.applyDescription (h : ItemRules b) (code : Nat) (t : Text) :
    ItemRules (applyDescription code t b).1 := by
  unfold Machine.applyDescription
  split
  · split
    · exact h
    · next i hi =>
      split
      · exact h
      · obtain ⟨hj, hp⟩ := (h.kept hi).mapVersions (describeVersion_spec t)
        exact (h.rewriteItem hi hj hp).handOn _
  · exact h

theorem ItemRules.applyWithdraw (h : ItemRules b) (code : Nat) : ItemRules (applyWithdraw code b).1 := by
  unfold Machine.applyWithdraw
  split
  · exact h
  · split
    · refine h.of_item code (fun k hk => tableFind_erase_other _ hk) (fun j hj => ?_) (nodup_listRemove code h.nodup)
        (fun k hk => mem_listRemove.trans (and_iff_left hk)) ?_
      · cases (tableFind_erase_self b.items.table code).symm.trans hj
      · refine iff_of_false (fun hm => (mem_listRemove.1 hm).2 rfl) ?_
        rintro ⟨j, hj, -⟩
        cases (tableFind_erase_self b.items.table code).symm.trans hj
    · exact h

/-! ## RELEASE (R26) -/

theorem releaseVersion_spec (m : PriceMasks) (v : Version) : (releaseVersion m v).number = v.number ∧
    (releaseVersion m v).role = v.role ∧ (VersionKept v → VersionKept (releaseVersion m v)) := by
  unfold releaseVersion
  split
  · exact ⟨rfl, rfl, fun h => ⟨rfl, h.2⟩⟩
  · exact ⟨rfl, rfl, id⟩

theorem ItemRules.applyRelease (h : ItemRules b) (code : Nat) : ItemRules (applyRelease code b).1 := by
  unfold Machine.applyRelease
  split
  · split
    · exact h
    · next i hi =>
      obtain ⟨hj, hp⟩ := (h.kept hi).mapVersions (releaseVersion_spec b.price.masks)
      have hput : ItemRules (putItem code (releaseItem b.price.masks i) b) := h.rewriteItem hi hj hp
      unfold releaseFound
      dsimp only
      split <;> split <;> exact hput.of_items rfl
  · exact h

/-! ## Activation (R48) -/

theorem ItemKept.activateItem (h : ItemKept i) (hv : slotOf i k = some v) :
    ItemKept (activateItem i k v) := by
  have hkept := h.versions k v hv
  refine h.retireActive.setSlot_new ⟨hkept.1, by simp⟩ ?_ ?_ <;> intro l w hl hw <;>
    obtain ⟨u, hu, hfrom⟩ := slotOf_retireActive_some h.oneOfEach hw
  · rcases hfrom with ⟨hne, rfl⟩ | ⟨-, -, rfl⟩
    · exact hne
    · simp
  · have hn : w.number = u.number := by rcases hfrom with ⟨-, rfl⟩ | ⟨-, -, rfl⟩ <;> rfl
    exact fun e => hl (h.numbers l k u v hu hv (hn ▸ e))

theorem not_hasPending_activateItem (h : OneOfEach i) (hv : slotOf i k = some v) (hr : v.role = .pending) :
    ¬ HasPending (activateItem i k v) := by
  rintro ⟨l, w, hw, hwr⟩
  unfold activateItem at hw
  by_cases hl : l = k
  · subst hl
    rw [slotOf_setSlot_self] at hw
    cases hw
    cases hwr
  · rw [slotOf_setSlot_other _ _ hl] at hw
    obtain ⟨u, hu, ⟨-, rfl⟩ | ⟨-, -, rfl⟩⟩ := slotOf_retireActive_some h hw
    · exact hl (h l k _ v hu hv (by rw [hwr, hr]) (by simp [hwr]))
    · cases hwr

theorem ItemRules.activateOne (h : ItemRules b) (code : Nat) : ItemRules (activateOne code b) := by
  unfold Machine.activateOne
  split
  · next hn => rwa [leavePending_of_not_mem (h.not_mem_pending hn)]
  · next i hi =>
    have hone := (h.kept hi).oneOfEach
    cases hk : slotWithRole i .pending with
    | none =>
      have hno : ¬ HasPending i := fun ⟨_, _, hv, hr⟩ => slotWithRole_none hk hv hr
      rwa [leavePending_of_not_mem ((h.mem_pending hi).not.2 hno)]
    | some k =>
      obtain ⟨v, hv, hr⟩ := slotWithRole_some hk
      simp only [pendingVersion_eq hk, hv]
      split
      · have hget : getItem (leavePending code (putItem code (activateItem i k v) b)) code =
            some (activateItem i k v) := getItem_putItem_self b code _
        refine h.of_item code (fun l hl => getItem_putItem_other b _ hl) (fun j hj => ?_)
          (nodup_listRemove code h.nodup) (fun l hl => mem_listRemove.trans (and_iff_left hl)) ?_
        · cases hget.symm.trans hj
          exact (h.kept hi).activateItem hv
        · refine iff_of_false (fun hm => (mem_listRemove.1 hm).2 rfl) ?_
          rintro ⟨j, hj, hpj⟩
          cases hget.symm.trans hj
          exact not_hasPending_activateItem hone hv hr hpj
      · exact h.notice _ _

theorem ItemRules.activate (h : ItemRules b) : ItemRules (activate b) := by
  unfold Machine.activate activateAll
  refine ItemRules.of_items (?_ : ItemRules _) (beginSweep_items _ _)
  generalize b.items.pending = l
  induction l generalizing b with
  | nil => exact h
  | cons code rest ih => exact ih (h.activateOne code)

end ItemRulesKept

end Sys2Proof.Machine

namespace Sys2Proof.Machine

/-! # Invariants that messages, record writes and frames carry along

The management interface, the line and the exchange engine hand what arrives to the blocks that own it. An invariant that
says nothing of what the handing itself changes is kept by all of it once each owner's own operation keeps it. -/

section Carried

variable {P : Block → Prop} {b : Block}

/-- What the handing of messages and frames changes by itself. -/
def carrierParts : List Part := [.till, .guest, .line, .exch, .mgmt, .counts, .out]

/-- An invariant kept by the handing itself and by every operation of an owner. -/
structure Carried (P : Block → Prop) : Prop where
  quiet : ∀ {b c}, P b → Touches carrierParts b c → P c
  writeAt : ∀ {b} t n r, P b → P (writeAt t n r b).1
  command : ∀ {b} m, P b → P (applyCommand m b).1
  staged : ∀ {b} r, P b → P (applyStaged r b).1
  warm : ∀ {b}, P b → P (warmRestart b)
  cold : ∀ b, P (coldRestart b)
  forward : ∀ {b} p f, P b → P (forwardFrame p f b).1

/-! ## Record writes (R186) -/

theorem Carried.bump (hP : Carried P) (h : P b) (k : Counter) : P (bump k b) :=
  hP.quiet h (by apply Touches.bump k (.refl _ _); decide)

theorem Carried.emit (hP : Carried P) (h : P b) (o : Output) : P (emit o b) :=
  hP.quiet h (by apply Touches.emit o (.refl _ _); decide)

theorem Carried.answerMgmt (hP : Carried P) (h : P b) (src : MgmtSource) (tag : Nat) (r : ReplyBody) :
    P (answerMgmt src tag r b) :=
  hP.quiet h (by apply Touches.answerMgmt src tag r (.refl _ _) <;> decide)

theorem Carried.setWindow (hP : Carried P) (h : P b) (src : MgmtSource) (w : TableWindow) : P (setWindow src w b) :=
  hP.quiet h (by apply Touches.setWindow src w (.refl _ _); decide)

theorem Carried.setWrites (hP : Carried P) (h : P b) (l : List WriteProgress) : P (setWrites l b) :=
  hP.quiet h (by apply Touches.setWrites l (.refl _ _); decide)

theorem Carried.writeFrom (hP : Carried P) (h : P b) (src : MgmtSource) (index : Nat) (rs : List WriteRecord) :
    P (writeFrom src index rs b).1 := by
  induction rs generalizing index b with
  | nil =>
    unfold Machine.writeFrom
    split <;> exact h
  | cons r rest ih =>
    unfold Machine.writeFrom
    split
    · exact h
    · split
      · exact hP.writeAt _ _ _ h
      · exact ih (hP.setWindow (hP.writeAt _ _ _ h) _ _) _

theorem Carried.applyWrite (hP : Carried P) (h : P b) (src : MgmtSource) (rs : List WriteRecord) :
    P (applyWrite src rs b).1 := by
  have hrecords := hP.writeFrom h src 1 rs
  unfold Machine.applyWrite
  (repeat' split) <;> assumption

theorem Carried.writePart (hP : Carried P) (h : P b) (g : MgmtHeader) (index count : Nat) (r : WriteRecord)
    (others : List WriteProgress) (w : TableWindow) : P (writePart g index count r others w b).1 := by
  have hrecord := hP.writeAt w.table w.cursor r h
  rcases writePart_cases g index count r others w b with ⟨_, _, e⟩ | ⟨_, _, e⟩ | ⟨_, _, e⟩ <;> rw [e]
  · exact hP.setWrites hrecord _
  · exact hP.setWrites (hP.setWindow hrecord _ _) _
  · exact hP.setWrites (hP.setWindow hrecord _ _) _

theorem Carried.answerWrite (hP : Carried P) {x : Block × Option ReplyBody} (h : P x.1) (g : MgmtHeader) :
    P (answerWrite g x) := by
  unfold Machine.answerWrite
  split
  · exact hP.answerMgmt h _ _ _
  · exact h

theorem Carried.partOfWrite (hP : Carried P) (h : P b) (g : MgmtHeader) (index count : Nat) (r : WriteRecord) :
    P (partOfWrite g index count r b) := by
  have hpart (index : Nat) (others : List WriteProgress) (w : TableWindow) := hP.writePart h g index count r others w
  rcases partOfWrite_cases g index count r b with e | e | ⟨-, e⟩ | ⟨-, e⟩ <;> rw [e]
  · exact h
  · exact hP.bump h _
  · refine hP.answerWrite ?_ g
    unfold writeFirst
    (repeat' split) <;> first | exact h | exact hpart _ _ _
  · refine hP.answerWrite ?_ g
    unfold writeLater
    (repeat' split) <;> first | exact h | exact hpart _ _ _

/-! ## Messages (R184, R188) -/

theorem Carried.message (hP : Carried P) (h : P b) (g : MgmtHeader) {f : Block → Block × ReplyBody} (hf : P (f b).1) :
    P (message g f b) := by
  rcases message_cases g f b with e | e | e <;> rw [e]
  · exact h
  · exact hP.bump h _
  · exact hP.answerMgmt hf _ _ _

theorem Carried.silentMessage (hP : Carried P) (h : P b) (g : MgmtHeader) {f : Block → Block} (hf : P (f b)) :
    P (silentMessage g f b) := by
  rcases silentMessage_cases g f b with e | e | e <;> rw [e]
  · exact h
  · exact hP.bump h _
  · exact hf

theorem Carried.writeBy (hP : Carried P) (h : P b) (via : Via) (t : TableName) (r : WriteRecord) :
    P (writeBy via t r b) := by
  cases via with
  | message g => exact hP.message h g (hP.applyWrite h _ _)
  | part g index count => exact hP.partOfWrite h _ _ _ _
  | event n => exact hP.emit (hP.writeAt t n r h) _

theorem Carried.applyWindow (hP : Carried P) (h : P b) (src : MgmtSource) (t : Coded TableName) (first last : Nat)
    (d : Coded Direction) : P (applyWindow src t first last d b).1 :=
  hP.quiet h (by apply Touches.applyWindow src t first last d (.refl _ _); decide)

theorem Carried.applyRead (hP : Carried P) (h : P b) (src : MgmtSource) (n : Nat) : P (applyRead src n b).1 :=
  hP.quiet h (by apply Touches.applyRead src n (.refl _ _); decide)

theorem Carried.takeBody (hP : Carried P) (h : P b) (g : MgmtHeader) (m : MgmtBody) : P (takeBody g m b) := by
  cases m with
  | window t first last d => exact hP.answerMgmt (hP.applyWindow h _ t first last d) _ _ _
  | write rs => exact hP.answerMgmt (hP.applyWrite h _ rs) _ _ _
  | read n => exact hP.answerMgmt (hP.applyRead h _ n) _ _ _
  | command k =>
    cases k with
    | warmRestart => exact hP.warm h
    | coldRestart => exact hP.cold b
    | _ => exact hP.answerMgmt (hP.command _ h) _ _ _
  | _ => exact hP.answerMgmt h _ _ _

theorem Carried.takeMessage (hP : Carried P) (h : P b) (src : MgmtSource) (m : MgmtMessage) :
    P (takeMessage src m b) := by
  unfold Machine.takeMessage forStation
  split
  · exact hP.takeBody h _ _
  · exact hP.bump h _

/-! ## The exchange engine (R174 to R181) -/

theorem Carried.commitRecords (hP : Carried P) (h : P b) (rs : List StagedRecord) : P (commitRecords rs b).block := by
  unfold Machine.commitRecords
  generalize hk : Commit.mk b 1 0 [] = k
  have hb : P k.block := hk ▸ h
  clear hk
  induction rs generalizing k with
  | nil => exact hb
  | cons r rest ih => exact ih _ (commitOne_block k r ▸ hP.staged r hb)

theorem Carried.endBatch (hP : Carried P) (h : P b) (check : Nat) (g : Staging) : P (endBatch check g b) := by
  have hrejected (y : Bool) : P (rejectBatch g y b) :=
    hP.quiet h (by apply Touches.rejectBatch g y (.refl _ _) <;> decide)
  unfold Machine.endBatch
  split
  · exact hrejected true
  · split
    · exact hrejected false
    · refine hP.quiet (hP.commitRecords h g.records) ?_
      unfold commitBatch finishCommit
      refine Touches.setExchange _ (Touches.bump _ (Touches.notice _ _ (Touches.formReply _ (Touches.exch (.refl _ _) ?_)
        ?_ ?_ ?_) ?_) ?_) ?_ <;> decide

theorem Carried.takeExchange (hP : Carried P) (h : P b) (f : ExchangeFrame) : P (takeExchange f b) := by
  have hrefused (k : Byte) (c : Code) : P (refuseExchange k c b) :=
    hP.quiet h (by apply Touches.refuseExchange _ _ (.refl _ _) <;> decide)
  cases f with
  | batchEnd check =>
    simp only [Machine.takeExchange, takeEnd]
    (repeat' split) <;> first | exact hrefused _ _ | exact hP.endBatch h _ _
  | exchangeOpen => exact hP.quiet h (by apply Touches.takeOpen (.refl _ _) <;> decide)
  | batchStart n k => exact hP.quiet h (by apply Touches.takeStart n k (.refl _ _) <;> decide)
  | exchangeRecords rs => exact hP.quiet h (by apply Touches.takeRecords rs (.refl _ _) <;> decide)
  | _ => exact hrefused _ _

theorem Carried.fromLine (hP : Carried P) (h : P b) (f : ExchangeFrame) : P (fromLine (Machine.takeExchange f) b) := by
  unfold Machine.fromLine
  split
  · exact hP.takeExchange h f
  · exact h

/-! ## Frames at a port and on the line (R129 to R139, R159, R167, R168) -/

theorem Carried.lanFrame (hP : Carried P) (h : P b) (p : Port) (f : LanFrame) : P (lanFrame p f b) := by
  have hforwarded := hP.forward p f h
  unfold Machine.lanFrame serve
  split
  · exact hforwarded
  · exact hP.quiet hforwarded (by apply Touches.tillFrame _ _ (.refl _ _) <;> decide)
  · exact hP.takeMessage hforwarded _ _

theorem Carried.takeAck (hP : Carried P) (h : P b) (n : Nat) : P (takeAck n b) :=
  hP.quiet h (by apply Touches.takeAck n (.refl _ _) <;> decide)

theorem Carried.takePattern (hP : Carried P) (h : P b) (n : Nat) (bits : List Bool) : P (takePattern n bits b) :=
  hP.quiet h (by apply Touches.takePattern n bits (.refl _ _) <;> decide)

theorem Carried.takeTestLoop (hP : Carried P) (h : P b) : P (takeTestLoop b) :=
  hP.quiet h (by apply Touches.takeTestLoop (.refl _ _); decide)

theorem Carried.passOn (hP : Carried P) (h : P b) (k : LineContent) : P (passOn k b) := by
  cases k with
  | alive => exact h
  | data src dst content => exact hP.quiet h (by apply Touches.fromUplink src dst content (.refl _ _) <;> decide)
  | management m => exact hP.takeMessage h _ _
  | exchange f => exact hP.takeExchange h f
  | journalAck n => exact hP.takeAck h n
  | testLoop => exact hP.takeTestLoop h
  | testPattern number bits =>
    simp only [Machine.passOn]
    split
    · exact hP.takePattern h number bits
    · exact hP.bump h _
  | _ => exact hP.bump h _

theorem Carried.receiveValid (hP : Carried P) (h : P b) : P (receiveValid b) :=
  hP.quiet (hP.bump h .framesReceived) (by apply Touches.countForState (.refl _ _) <;> decide)

theorem Carried.damagedFrame (hP : Carried P) (h : P b) (k : LineContent) : P (damagedFrame k b) := by
  have hcounted := hP.bump h .crcError
  unfold Machine.damagedFrame
  (repeat' split)
  · exact hP.quiet hcounted (by apply Touches.examine _ _ _ (.refl _ _) <;> decide)
  · exact hcounted
  · exact hcounted

theorem Carried.receiveFrame (hP : Carried P) (h : P b) (f : LineInput) : P (receiveFrame f b) := by
  unfold Machine.receiveFrame validFrame
  (repeat' split)
  · exact hP.bump h _
  · exact hP.damagedFrame h _
  · exact hP.passOn (hP.receiveValid h) _
  · exact hP.bump (hP.receiveValid h) _

theorem Carried.echoFrame (hP : Carried P) (h : P b) (f : LineInput) : P (echoFrame f b) := by
  have hecho := hP.bump (hP.emit h (.lineEcho f)) .remoteEchoed
  unfold Machine.echoFrame checkRemote
  (repeat' split)
  · exact hP.bump hecho _
  · exact hP.bump hecho _
  · exact hP.receiveValid hecho
  · exact hP.bump (hP.receiveValid hecho) _

theorem Carried.arriveReturned (hP : Carried P) (h : P b) : P (arriveReturned b) := by
  unfold Machine.arriveReturned
  split
  · next f rest _ _ =>
    have htaken : P { b with line := { b.line with returning := rest } } :=
      hP.quiet h (by apply Touches.line (.refl _ _); decide)
    have hvalid := hP.receiveValid htaken
    unfold takeReturned sortReturned
    (repeat' split) <;> first
      | exact hP.bump htaken _
      | exact hP.takeTestLoop hvalid
      | exact hP.takePattern hvalid _ _
      | exact hP.bump hvalid _
      | exact hP.bump (hP.bump hvalid _) _
  · exact h

theorem Carried.lineFrame (hP : Carried P) (h : P b) (a : LineArrival) : P (lineFrame a b) := by
  cases a with
  | returned => exact hP.arriveReturned h
  | fromLine f =>
    simp only [Machine.lineFrame, arriveFromLine]
    split
    · exact hP.receiveFrame h f
    · exact h
    · exact hP.echoFrame h f

end Carried

end Sys2Proof.Machine

namespace Sys2Proof.Machine

/-! # The item rules are kept by every step -/

section ItemRulesStep

variable {b : Block}

/-! ## The label directory (file 04) -/

theorem ItemRules.putLabel (h : ItemRules b) (id : Nat) (l : Label) : ItemRules (putLabel id l b) := h.of_items rfl

/-- What keeps the rules for a label's record, whatever it is, keeps them for the label. -/
theorem ItemRules.withLabel (h : ItemRules b) (id : Nat) {g : Label → Block → Block} (hg : ∀ l, ItemRules (g l b)) :
    ItemRules (withLabel id g b) := by
  unfold Machine.withLabel
  split
  · exact hg _
  · exact h

theorem ItemRules.modifyLabel (h : ItemRules b) (id : Nat) (f : Label → Label) : ItemRules (modifyLabel id f b) :=
  h.of_quiet (by apply Touches.modifyLabel id f (.refl _ _); decide)

theorem ItemRules.settle (h : ItemRules b) (id : Nat) : ItemRules (settle id b) :=
  h.of_quiet (by apply Touches.settle id (.refl _ _); decide)

theorem ItemRules.bump (h : ItemRules b) (k : Counter) : ItemRules (bump k b) := h.of_items rfl

theorem ItemRules.releaseWhat (h : ItemRules b) (w : RefWhat) : ItemRules (releaseWhat w b) := by
  cases w with
  | blank => exact h
  | version code k n t => exact h.releaseReference code k n

theorem ItemRules.releaseConfirmed (h : ItemRules b) (l : Label) : ItemRules (releaseConfirmed l b) := by
  unfold Machine.releaseConfirmed
  split
  · exact h.releaseWhat _
  · exact h

theorem ItemRules.releaseInFlight (h : ItemRules b) (l : Label) : ItemRules (releaseInFlight l b) := by
  unfold Machine.releaseInFlight
  split
  · exact h.releaseWhat _
  · exact h

theorem ItemRules.leaveStyle (h : ItemRules b) (id : Nat) : ItemRules (leaveStyle id b) := h.of_items rfl

theorem ItemRules.leaveStyleUnconfirmed (h : ItemRules b) (id : Nat) (l : Label) :
    ItemRules (leaveStyleUnconfirmed id l b) :=
  h.of_quiet (by apply Touches.leaveStyleUnconfirmed id l (.refl _ _); decide)

theorem ItemRules.dropInFlight (h : ItemRules b) (id : Nat) : ItemRules (dropInFlight id b) :=
  h.withLabel id fun l => ((h.putLabel id _).releaseInFlight l).leaveStyleUnconfirmed id l

theorem ItemRules.dropBoth (h : ItemRules b) (id : Nat) : ItemRules (dropBoth id b) :=
  h.withLabel id fun l => (((h.putLabel id _).releaseConfirmed l).releaseInFlight l).leaveStyleUnconfirmed id l

theorem ItemRules.giveUpBinding (h : ItemRules b) (id : Nat) (item template : Option Nat) :
    ItemRules (giveUpBinding id item template b) := by
  refine h.withLabel id fun l => ItemRules.leaveStyle ?_ id
  have hgiven : ItemRules (Machine.releaseInFlight l (Machine.releaseConfirmed l (Machine.putLabel id { l with
      confirmed := none, inFlight := none, item := item, template := template, binding := .foreign, retry := 0,
      marks := clearMarks, oversize := false } b))) := ((h.putLabel id _).releaseConfirmed l).releaseInFlight l
  generalize l.item = bound
  cases bound with
  | none => exact hgiven
  | some old => exact hgiven.unbindFromItem old id

theorem ItemRules.applyRebind (h : ItemRules b) (id code template : Nat) : ItemRules (applyRebind id code template b) :=
  ((h.giveUpBinding id _ _).bindToItem code id).settle id

theorem ItemRules.applyUnbind (h : ItemRules b) (id : Nat) : ItemRules (applyUnbind id b) := by
  refine h.withLabel id fun l => ?_
  split
  · exact (h.giveUpBinding id _ _).settle id
  · exact h

theorem ItemRules.applySameItem (h : ItemRules b) (id template : Nat) (l : Label) :
    ItemRules (applySameItem id template l b) :=
  h.of_quiet (by apply Touches.applySameItem id template l (.refl _ _); decide)

theorem ItemRules.applyDeferredBind (h : ItemRules b) (id code template : Nat) (l : Label) :
    ItemRules (applyDeferredBind id code template l b) := by
  unfold Machine.applyDeferredBind
  (repeat' split)
  · exact (h.applySameItem id template l).of_quiet (by apply Touches.settleIfSettled id (.refl _ _); decide)
  · exact h.applyRebind _ _ _
  · exact (h.applyUnbind _).notice _ _
  · exact (h.applyUnbind _).notice _ _

theorem ItemRules.applyNext (h : ItemRules b) (id : Nat) : ItemRules (applyNext id b) := by
  refine h.withLabel id fun l => ?_
  split
  · exact h
  · exact (h.putLabel id _).applyUnbind id
  · exact (h.putLabel id _).applyDeferredBind _ _ _ _

theorem ItemRules.applyBind (h : ItemRules b) (id code template : Nat) :
    ItemRules (applyBind id code template b).1 := by
  have hstored (n : NextBinding) : ItemRules (storeNext id n b) := h.modifyLabel id _
  unfold Machine.applyBind bindChecked
  (repeat' split) <;> first | exact h | exact hstored _ | exact h.applySameItem _ _ _ | exact h.applyRebind _ _ _

theorem ItemRules.applyUnbindRecord (h : ItemRules b) (id : Nat) : ItemRules (applyUnbindRecord id b).1 := by
  have hstored (n : NextBinding) : ItemRules (storeNext id n b) := h.modifyLabel id _
  unfold Machine.applyUnbindRecord
  (repeat' split) <;> first | exact h | exact hstored _ | exact h.applyUnbind _

theorem ItemRules.applyTemplateRecord (h : ItemRules b) (id template : Nat) :
    ItemRules (applyTemplateRecord id template b).1 := by
  have htemplate : ItemRules (applyTemplate id template b) :=
    h.of_quiet (by apply Touches.applyTemplate id template (.refl _ _); decide)
  unfold Machine.applyTemplateRecord
  (repeat' split) <;> assumption

theorem ItemRules.applyLabel (h : ItemRules b) (id : Nat) (k : Coded DisplayClass) : ItemRules (applyLabel id k b).1 :=
  h.of_quiet (by apply Touches.applyLabel id k (.refl _ _); decide)

/-! ## Outcomes (R65 to R69) -/

theorem ItemRules.transmissionHeard (h : ItemRules b) (id : Nat) : ItemRules (transmissionHeard id b) :=
  h.of_quiet (by apply Touches.transmissionHeard id (.refl _ _) <;> decide)

theorem ItemRules.storeTarget (h : ItemRules b) (id : Nat) : ItemRules (storeTarget id b) :=
  h.of_quiet (by apply Touches.storeTarget id (.refl _ _); decide)

theorem ItemRules.endTransaction (h : ItemRules b) (id : Nat) : ItemRules (endTransaction id b) := by
  refine h.withLabel id fun l => ?_
  split
  · exact h
  · exact (h.applyNext id).settle id

theorem ItemRules.confirmInFlight (h : ItemRules b) (id : Nat) (f : InFlight) : ItemRules (confirmInFlight id f b) :=
  h.withLabel id fun l => ((h.putLabel id _).releaseConfirmed l).endTransaction id

theorem ItemRules.resolveReport (h : ItemRules b) (id tag : Nat) (check : Option Nat) :
    ItemRules (resolveReport id tag check b) := by
  refine h.withLabel id fun l => ?_
  (repeat' split)
  · exact h.confirmInFlight _ _
  · exact (h.dropInFlight id).endTransaction id
  · exact h.endTransaction id
  · exact h
  · exact h.putLabel _ _
  · exact (h.dropBoth id).endTransaction id

theorem ItemRules.outcomeAck (h : ItemRules b) (id tag : Nat) : ItemRules (outcomeAck id tag b) := by
  refine h.withLabel id fun l => ?_
  (repeat' split)
  · exact h.confirmInFlight _ _
  · exact h.resolveReport _ _ _
  · exact h.resolveReport _ _ _
  · exact h.bump _

theorem ItemRules.outcomeNakBase (h : ItemRules b) (id : Nat) : ItemRules (outcomeNakBase id b) := by
  refine h.withLabel id fun l => ?_
  split
  · exact (((h.dropInFlight id).modifyLabel id _).applyNext id).settle id
  · exact h.bump _

theorem ItemRules.becomeFailed (h : ItemRules b) (id : Nat) : ItemRules (becomeFailed id b) :=
  (h.modifyLabel id _).notice _ _

theorem ItemRules.afterNakCheck (h : ItemRules b) (id : Nat) : ItemRules (afterNakCheck id b) := by
  refine h.withLabel id fun l => ?_
  split
  · exact ((h.storeTarget id).becomeFailed id).applyNext id
  · exact (h.applyNext id).settle id

theorem ItemRules.outcomeNakCheck (h : ItemRules b) (id : Nat) : ItemRules (outcomeNakCheck id b) := by
  refine h.withLabel id fun l => ?_
  split
  · exact ((h.dropInFlight id).modifyLabel id _).afterNakCheck id
  · exact h.bump _

theorem ItemRules.outcomeNoReply (h : ItemRules b) (id : Nat) : ItemRules (outcomeNoReply id b) := by
  refine h.withLabel id fun l => ?_
  split
  · have hstored := (h.putLabel id { l with retry := raisedRetry l }).storeTarget id
    exact (hstored.of_quiet (by apply Touches.afterNoReply id (.refl _ _) <;> decide)).applyNext id
  · exact h.bump _

theorem ItemRules.outcomeReport (h : ItemRules b) (id tag : Nat) : ItemRules (outcomeReport id tag b) := by
  refine h.withLabel id fun l => ?_
  split
  · exact (h.resolveReport id tag none).of_quiet (by apply Touches.retargetLabel id (.refl _ _); decide)
  · exact h.resolveReport _ _ _

theorem ItemRules.checkInReport (h : ItemRules b) (id tag check : Nat) : ItemRules (checkInReport id tag check b) := by
  have hresolved := h.resolveReport id tag (some check)
  have hreturned : ItemRules (returnFailed id (Machine.resolveReport id tag (some check) b)) :=
    hresolved.of_quiet (by apply Touches.returnFailed id (.refl _ _); decide)
  refine h.withLabel id fun l => ?_
  (repeat' split) <;> first | exact h | exact hresolved | exact hreturned | exact h.confirmInFlight _ _

/-! ## The radio scheduler (file 06) -/

theorem ItemRules.radioCheckIn (h : ItemRules b) (k : CheckIn) : ItemRules (radioCheckIn k b) := by
  unfold Machine.radioCheckIn
  (repeat' split)
  · exact ((h.transmissionHeard _).modifyLabel _ _).checkInReport _ _ _
  · exact h.bump _
  · exact h.bump _

theorem ItemRules.handOutcome (h : ItemRules b) (e : PlanEntry) (o : RadioOutcome) : ItemRules (handOutcome e o b) := by
  have hheard := h.transmissionHeard e.label
  have hcounted := h.bump .noReplyCount
  cases o with
  | ack tag => exact hheard.outcomeAck _ _
  | nakBase => exact hheard.outcomeNakBase _
  | nakCheck => exact hheard.outcomeNakCheck _
  | report tag => exact hheard.outcomeReport _ _
  | noReply =>
    simp only [Machine.handOutcome]
    split
    · exact hcounted.of_quiet (by apply Touches.outcomeQueryNoReply _ (.refl _ _) <;> decide)
    · exact hcounted.outcomeNoReply _
    · exact hcounted.outcomeNoReply _

theorem ItemRules.closeWindow (h : ItemRules b) : ItemRules (closeWindow b) := by
  unfold Machine.closeWindow
  split
  · exact (h.handOutcome _ _).of_items rfl
  · exact h

theorem ItemRules.beginTransaction (h : ItemRules b) : ItemRules (beginTransaction b) :=
  h.of_quiet (by apply Touches.beginTransaction (.refl _ _) <;> decide)

theorem ItemRules.replyWindowClose (h : ItemRules b) : ItemRules (replyWindowClose b) := by
  unfold Machine.replyWindowClose
  split
  · exact h.closeWindow.beginTransaction
  · exact h

theorem ItemRules.closeRest (h : ItemRules b) (fuel : Nat) : ItemRules (closeRest fuel b) := by
  induction fuel generalizing b with
  | zero => exact h
  | succ fuel ih =>
    unfold Machine.closeRest
    split
    · exact ih h.replyWindowClose
    · exact h

theorem ItemRules.takeTarget (h : ItemRules b) (t : Target) : ItemRules (takeTarget t b) := by
  cases t with
  | blank => exact h
  | version code k n => exact h.takeReference code k n

theorem ItemRules.selectUpdate (h : ItemRules b) (id : Nat) (l : Label) (t : Target) (u : Composed) :
    ItemRules (selectUpdate id l t u b) := by
  refine ((h.takeTarget t).putLabel id (selectedLabel u t l)).of_quiet ?_
  refine Touches.noteTruncated id u (Touches.bufferUpdate id _ (Touches.joinStyle id u t (.refl _ _) ?_) ?_) ?_ ?_ <;>
    decide

theorem ItemRules.walkReach {w : Walk} (h : ItemRules w.block) (id : Nat) : ItemRules (walkReach id w).block := by
  have hoversize : ItemRules (becomeOversize id w.block) :=
    h.of_quiet (by apply Touches.becomeOversize id (.refl _ _) <;> decide)
  have hdeclined (l : Label) : ItemRules (enqueue id (Machine.putLabel id l w.block)) :=
    (h.putLabel id l).of_quiet (by apply Touches.enqueue id (.refl _ _); decide)
  unfold Machine.walkReach walkStale walkUpdate walkDecline
  (repeat' split) <;> first | exact h | exact hoversize | exact h.selectUpdate _ _ _ _ | exact hdeclined _

theorem ItemRules.walkQueue {w : Walk} (h : ItemRules w.block) (ids : List Nat) :
    ItemRules (walkQueue ids w).block := by
  induction ids generalizing w with
  | nil => exact h
  | cons id rest ih =>
    unfold Machine.walkQueue
    split
    · exact h
    · exact ih (h.walkReach id)

theorem ItemRules.beacon (h : ItemRules b) : ItemRules (beacon b) := by
  have hclosed : ItemRules (closeSlot b) := h.closeRest _
  have hslot : ItemRules (notePresence (sendBeacon (beginSlot (closeSlot b)))) := by
    refine hclosed.of_quiet ?_
    refine Touches.notePresence (Touches.sendBeacon (Touches.beginSlot (.refl _ _) ?_ ?_ ?_) ?_ ?_) ?_ ?_ <;> decide
  have hwalk : ItemRules (slotWalk (notePresence (sendBeacon (beginSlot (closeSlot b))))).block :=
    ItemRules.walkQueue hslot _
  exact ItemRules.beginTransaction (hwalk.of_items rfl)

/-! ## The mode controller (file 01) and the restarts (R191) -/

theorem ItemRules.openRequest (h : ItemRules b) {c : Block} (e : openRequest b = some c) : ItemRules c := by
  unfold Machine.openRequest at e
  split at e <;> cases e
  · exact ItemRules.activate (h.of_items rfl)
  · exact h.of_items rfl

theorem ItemRules.fireAction (h : ItemRules b) (a : ScheduleAction) : ItemRules (fireAction a b) := by
  cases a with
  | openStore => exact keeps_getD h fun _ => h.openRequest
  | closeBegin =>
    exact keeps_getD h fun _ e => h.of_quiet (by apply Touches.closeRequest e (.refl _ _) <;> decide)
  | windowOpen =>
    exact keeps_getD h fun _ e => h.of_quiet (by apply Touches.windowOpenRequest e (.refl _ _) <;> decide)
  | windowClose =>
    exact keeps_getD h fun _ e => h.of_quiet (by apply Touches.windowCloseRequest e (.refl _ _) <;> decide)

theorem ItemRules.fireEntries (h : ItemRules b) (n : Nat) : ItemRules (fireEntries n b) := by
  unfold Machine.fireEntries
  generalize b.mode.schedule.toList.filter _ = l
  induction l generalizing b with
  | nil => exact h
  | cons e rest ih => exact ih (h.fireAction e.action)

theorem ItemRules.clockAdvance (h : ItemRules b) : ItemRules (clockAdvance b) := by
  unfold Machine.clockAdvance
  (repeat' split)
  · exact h.of_items rfl
  · next c _ _ =>
    have hset : ItemRules (setClockTo (c + 1) (newSecond b)) := h.of_items rfl
    exact hset.fireEntries (c + 1)
  · exact h.of_items rfl

theorem ItemRules.warmRestart (h : ItemRules b) : ItemRules (warmRestart b) := by
  have hmode : ItemRules (modeRestarted b) :=
    h.of_quiet ((modeRestarted_touches b).mono (by decide))
  have hlabels (ids : List Nat) {d : Block} (hd : ItemRules d) : ItemRules (restartLabels ids d) := by
    induction ids generalizing d with
    | nil => exact hd
    | cons id rest ih =>
      refine ih (hd.withLabel id fun l => ?_)
      split
      · refine ItemRules.applyNext (hd.of_quiet ?_) id
        apply Touches.becomeUncertain id (.refl _ _)
        decide
      · exact hd
  have hdirectory : ItemRules (labelsRestarted b) := (hlabels _ hmode).of_items rfl
  rw [warmRestart_eq]
  refine hdirectory.of_quiet ?_
  refine Touches.warmTime (Touches.warmExchange (Touches.warmLine (Touches.warmGuest (Touches.warmForwarder
    (Touches.warmTill (.refl _ _) ?_) ?_) ?_) ?_) ?_ ?_ ?_ ?_) ?_ <;> decide

/-- R52: after a cold restart the item table is empty. -/
theorem itemRules_coldRestart (b : Block) : ItemRules (coldRestart b) :=
  itemRules_iff.2 ⟨fun _ _ hi => (by cases hi), List.nodup_nil, fun _ => iff_of_false (fun hm => (by cases hm))
    fun ⟨_, hi, _⟩ => (by cases hi)⟩

/-! ## Commands, records and the step -/

theorem ItemRules.applyCommand (h : ItemRules b) (m : MgmtCommand) : ItemRules (applyCommand m b).1 := by
  cases m with
  | openStore =>
    change ItemRules (applyOpen b).1
    rw [applyOpen_fst]
    exact keeps_getD h fun _ => h.openRequest
  | closeStore => exact h.of_quiet (by apply Touches.applyClose (.refl _ _) <;> decide)
  | closeNow => exact h.of_quiet (by apply Touches.applyCloseNow (.refl _ _) <;> decide)
  | windowOpen => exact h.of_quiet (by apply Touches.applyWindowOpen (.refl _ _) <;> decide)
  | windowClose => exact h.of_quiet (by apply Touches.applyWindowClose (.refl _ _) <;> decide)
  | setClock v => exact h.of_quiet (by apply Touches.applySetClock v (.refl _ _); decide)
  | release code => exact h.applyRelease code
  | forceLabel id => exact h.of_quiet (by apply Touches.applyForce id (.refl _ _); decide)
  | qualifyLine n i => exact h.of_quiet (by apply Touches.applyQualify n i (.refl _ _) <;> decide)
  | loopback l d => exact h.of_quiet (by apply Touches.applyLoopback l d (.refl _ _) <;> decide)
  | endGuest hw => exact h.of_quiet (by apply Touches.applyEndGuest hw (.refl _ _); decide)
  | clearNotices => exact h.of_quiet (by apply Touches.applyClearNotices (.refl _ _); decide)
  | saveSettings => exact h.of_quiet (by apply Touches.applySave (.refl _ _); decide)
  | _ => exact h

theorem ItemRules.writeAt (h : ItemRules b) (t : TableName) (n : Nat) (r : WriteRecord) :
    ItemRules (writeAt t n r b).1 := by
  cases t with
  | items =>
    cases r with
    | price p => exact h.applyPrice p
    | description code text => exact h.applyDescription code text
    | withdraw code => exact h.applyWithdraw code
    | _ => exact h
  | labels =>
    cases r with
    | label id k => exact h.applyLabel id k
    | bind id code template => exact h.applyBind id code template
    | unbind id => exact h.applyUnbindRecord id
    | templateChange id template => exact h.applyTemplateRecord id template
    | _ => exact h
  | ports => exact h.of_quiet (by apply Touches.writePorts n r (.refl _ _) <;> decide)
  | policy => exact h.of_quiet (by apply Touches.writePolicy n r (.refl _ _); decide)
  | schedule => exact h.of_quiet (by apply Touches.writeSchedule n r (.refl _ _); decide)
  | priceSettings => exact h.of_quiet (by apply Touches.writePriceSettings n r (.refl _ _) <;> decide)
  | templates => exact h.of_quiet (by apply Touches.writeTemplates n r (.refl _ _) <;> decide)
  | glyphs => exact h.of_quiet (by apply Touches.writeGlyphs n r (.refl _ _); decide)
  | radioSettings => exact h.of_quiet (by apply Touches.writeRadio n r (.refl _ _); decide)
  | guestProfile => exact h.of_quiet (by apply Touches.writeGuest n r (.refl _ _); decide)
  | _ => exact h

theorem ItemRules.applyStaged (h : ItemRules b) (r : StagedRecord) : ItemRules (applyStaged r b).1 := by
  cases r with
  | time v => exact h.of_quiet (by apply Touches.applyTime v (.refl _ _); decide)
  | price r => exact h.applyPrice r
  | description code t => exact h.applyDescription code t
  | withdraw code => exact h.applyWithdraw code
  | label id k => exact h.applyLabel id k
  | bind id code t => exact h.applyBind id code t
  | unbind id => exact h.applyUnbindRecord id
  | templateChange id t => exact h.applyTemplateRecord id t
  | _ => exact h

theorem itemRules_carried : Carried ItemRules where
  quiet h t := h.of_quiet (t.mono (by decide))
  writeAt t n r h := h.writeAt t n r
  command m h := h.applyCommand m
  staged r h := h.applyStaged r
  warm h := h.warmRestart
  cold := itemRules_coldRestart
  forward p f h := h.of_quiet (by apply Touches.forwardFrame p f (.refl _ _) <;> decide)

theorem ItemRules.message (h : ItemRules b) (g : MgmtHeader) (m : MgmtCommand) :
    ItemRules (message g (Machine.applyCommand m) b) :=
  itemRules_carried.message h g (h.applyCommand m)

theorem ItemRules.effect (h : ItemRules b) (i : Instr) : ItemRules (effect i b) := by
  cases i with
  | openCmd g => exact h.message g .openStore
  | closeCmd g => exact h.message g .closeStore
  | closeNow g => exact h.message g .closeNow
  | windowOpen g => exact h.message g .windowOpen
  | windowClose g => exact h.message g .windowClose
  | setClock g v => exact h.message g (.setClock v)
  | release g code => exact h.message g (.release code)
  | forceLabel g id => exact h.message g (.forceLabel id)
  | qualifyLine g n k => exact h.message g (.qualifyLine n k)
  | loopback g l d => exact h.message g (.loopback l d)
  | endGuest g hw => exact h.message g (.endGuest hw)
  | clearNotices g => exact h.message g .clearNotices
  | saveSettings g => exact h.message g .saveSettings
  | window g t first last d => exact itemRules_carried.message h g (itemRules_carried.applyWindow h _ t first last d)
  | read g n => exact itemRules_carried.message h g (itemRules_carried.applyRead h _ n)
  | status g => exact itemRules_carried.message h g h
  | readOnlyWrite g rs => exact itemRules_carried.message h g (itemRules_carried.applyWrite h _ rs)
  | warmRestart g => exact itemRules_carried.silentMessage h g h.warmRestart
  | coldRestart g => exact itemRules_carried.silentMessage h g (itemRules_coldRestart b)
  | resetLine retain =>
    simp only [Machine.effect, resetBy]
    split
    · exact ItemRules.warmRestart (h.of_items rfl)
    · exact itemRules_coldRestart _
  | powerUp => exact itemRules_coldRestart b
  | clockAdvance => exact h.clockAdvance
  | beacon => exact h.beacon
  | replyWindowClose => exact h.replyWindowClose
  | checkIn k => exact h.radioCheckIn k
  | lanFrame p f => exact itemRules_carried.lanFrame h p f
  | lineFrame a => exact itemRules_carried.lineFrame h a
  | exchangeOpen => exact itemRules_carried.fromLine h .exchangeOpen
  | batchStart n k => exact itemRules_carried.fromLine h (.batchStart n k)
  | exchangeRecords rs => exact itemRules_carried.fromLine h (.exchangeRecords rs)
  | batchEnd check => exact itemRules_carried.fromLine h (.batchEnd check)
  | journalAck n =>
    simp only [Machine.effect]
    split
    · exact itemRules_carried.takeAck h n
    · exact h
  | drainTimerExpiry => exact h.of_quiet (by apply Touches.drainExpiry (.refl _ _) <;> decide)
  | transmitStart => exact h.of_quiet (by apply Touches.transmitStart (.refl _ _) <;> decide)
  | timeLimitExpiry hw => exact h.of_quiet (by apply Touches.timeLimitExpiry hw (.refl _ _); decide)
  | idleLimitExpiry hw => exact h.of_quiet (by apply Touches.idleLimitExpiry hw (.refl _ _); decide)
  | cooldownEnd hw => exact h.of_quiet (by apply Touches.cooldownEnd hw (.refl _ _); decide)
  | governorReading => exact h.of_quiet (by apply Touches.governorReading (.refl _ _) <;> decide)
  | itemRetarget => exact h.of_quiet (by apply Touches.itemRetarget (.refl _ _); decide)
  | templateRetarget => exact h.of_quiet (by apply Touches.templateRetarget (.refl _ _); decide)
  | sweepVisit => exact h.of_quiet (by apply Touches.sweepVisit (.refl _ _); decide)
  | labelReply t => exact h.of_quiet (by apply Touches.labelReply t (.refl _ _) <;> decide)
  | hello s n => exact h.of_quiet (by apply Touches.tillHello s n (.refl _ _) <;> decide)
  | priceQuery s n k => exact h.of_quiet (by apply Touches.tillPriceQuery s n k (.refl _ _) <;> decide)
  | saleRecord s n q t l => exact h.of_quiet (by apply Touches.tillSaleRecord s n q t l (.refl _ _) <;> decide)
  | silenceTimerExpiry n => exact h.of_quiet (by apply Touches.silenceExpiry n (.refl _ _) <;> decide)
  | journalBlock => exact h.of_quiet (by apply Touches.journalBlock (.refl _ _) <;> decide)
  | acknowledgementTimerExpiry => exact h.of_quiet (by apply Touches.ackTimerExpiry (.refl _ _) <;> decide)
  | linkUp p => exact h.of_quiet (by apply Touches.linkUp p (.refl _ _); decide)
  | linkDown p => exact h.of_quiet (by apply Touches.linkDown p (.refl _ _); decide)
  | addressAgingExpiry s hw => exact h.of_quiet (by apply Touches.addressAging s hw (.refl _ _); decide)
  | lossTimerExpiry => exact h.of_quiet (by apply Touches.lossExpiry (.refl _ _) <;> decide)
  | aliveTimerExpiry => exact h.of_quiet (by apply Touches.aliveExpiry (.refl _ _); decide)
  | loopbackTimerExpiry => exact h.of_quiet (by apply Touches.loopbackExpiry (.refl _ _) <;> decide)
  | qualifyTimeout => exact h.of_quiet (by apply Touches.qualifyTimeout (.refl _ _) <;> decide)
  | reopenHoldExpiry => exact h.of_quiet (by apply Touches.stopHold (.refl _ _); decide)
  | noticeSend => exact h.of_quiet (by apply Touches.noticeSend (.refl _ _) <;> decide)
  | saveComplete => exact h.of_quiet (by apply Touches.saveComplete (.refl _ _); decide)
  | _ => exact itemRules_carried.writeBy h _ _ _

theorem ItemRules.tick (h : ItemRules b) : ItemRules (tick b) := h.of_quiet ((tick_touches b).mono (by decide))

/-- Settles O16: the item rules pass through the effect of every command and through a tick. -/
theorem everyStepKeepsTheItemRules : Obligations.EveryStepKeepsTheItemRules := by
  unfold Obligations.EveryStepKeepsTheItemRules
  intro s t hs h
  exact step_keeps (P := ItemRules) (fun i _ hb => hb.effect i) (fun _ hb => hb.tick) hs h

end ItemRulesStep

end Sys2Proof.Machine

namespace Sys2Proof.Machine

/-! # Price arithmetic (R18 to R23) and money texts (R28) -/

section PriceArithmetic

/-! ## Stage 1: a PERCENT promotion (R18) -/

theorem percentPrice_down_bounds (base p : Nat) : percentPrice base p .down * 10000 ≤ base * (10000 - p) ∧
    base * (10000 - p) < (percentPrice base p .down + 1) * 10000 := by
  unfold percentPrice
  generalize base * (10000 - p) = x
  dsimp only
  omega

theorem percentPrice_up_bounds (base p : Nat) : base * (10000 - p) ≤ percentPrice base p .up * 10000 ∧
    percentPrice base p .up * 10000 < base * (10000 - p) + 10000 := by
  unfold percentPrice
  generalize base * (10000 - p) = x
  dsimp only
  omega

theorem percentPrice_nearest_bounds (base p : Nat) :
    percentPrice base p .nearest * 10000 ≤ base * (10000 - p) + 5000 ∧
      base * (10000 - p) + 5000 < (percentPrice base p .nearest + 1) * 10000 := by
  unfold percentPrice
  generalize base * (10000 - p) = x
  dsimp only
  omega

/-- R18: no rounding takes the price above B. -/
theorem percentPrice_le (base p : Nat) (m : Rounding) : percentPrice base p m ≤ base := by
  have hx : base * (10000 - p) ≤ base * 10000 := Nat.mul_le_mul_left _ (Nat.sub_le _ _)
  cases m with
  | down => have := percentPrice_down_bounds base p; omega
  | up => have := percentPrice_up_bounds base p; omega
  | nearest => have := percentPrice_nearest_bounds base p; omega

theorem percentPrice_zero (p : Nat) (m : Rounding) : percentPrice 0 p m = 0 :=
  Nat.le_zero.1 (percentPrice_le 0 p m)

/-- Settles O17, from the bounds of each rounding. -/
theorem percentPriceIsRoundedByItsMode : Obligations.PercentPriceIsRoundedByItsMode := by
  unfold Obligations.PercentPriceIsRoundedByItsMode
  refine ⟨fun base => rfl, fun base p h1 _ => ⟨fun hb => ?_, fun m => ⟨rfl, percentPrice_le base p m,
    percentPrice_zero p m⟩, percentPrice_down_bounds base p, percentPrice_up_bounds base p,
    percentPrice_nearest_bounds base p⟩⟩
  calc base * (10000 - p) ≤ 9999999 * 9999 := Nat.mul_le_mul hb (by omega)
    _ = 99989990001 := by norm_num

/-! ## Stages 1 to 3 and the fault set (R19 to R23) -/

theorem promotionPrice_fixed (base p : Nat) : promotionPrice base (some (.fixed p)) = (min p base : Nat) := by
  change (if p ≤ base then (p : Int) else (base : Int)) = _
  split <;> omega

/-- R18, R19: no promotion takes the price above B. -/
theorem promotionPrice_le (base : Nat) (x : Option Promotion) : promotionPrice base x ≤ base := by
  match x with
  | none => exact le_rfl
  | some (.percent p m) => exact Int.ofNat_le.2 (percentPrice_le base p m)
  | some (.amount a) => simp [promotionPrice]
  | some (.fixed p) => rw [promotionPrice_fixed]; omega

theorem effectivePrice_eq_max (i : PriceInputs) :
    (effectivePrice i : Int) = max (floorOf i : Int) (promotionPrice i.base i.promotion) := by
  unfold effectivePrice
  split <;> omega

theorem raisesPromoAboveBase_iff (base : Nat) (x : Option Promotion) :
    raisesPromoAboveBase base x = true ↔ ∃ p, x = some (.fixed p) ∧ base < p := by
  match x with
  | none => simp [raisesPromoAboveBase]
  | some (.percent p m) => simp [raisesPromoAboveBase]
  | some (.amount a) => simp [raisesPromoAboveBase]
  | some (.fixed p) => simp [raisesPromoAboveBase]

theorem effectivePrice_le {i : PriceInputs} (hb : i.base ≤ 9999999) (hf : floorOf i ≤ 9999999) :
    effectivePrice i ≤ 9999999 := by
  have hmax := effectivePrice_eq_max i
  have hpromotion := promotionPrice_le i.base i.promotion
  omega

theorem showsPromotion_iff (i : PriceInputs) (r : PriceResults) : showsPromotion i r = true ↔
    i.promotion ≠ none ∧ r.faults.promoAboveBase = false ∧ r.e < i.base := by
  simp [showsPromotion, Option.isSome_iff_ne_none, and_assoc]

theorem statusUnder_held_iff (m : PriceMasks) (f : PriceFaults) : statusUnder m f = .held ↔
    (f.promoAboveBase = true ∧ m.promoAboveBase = false) ∨ (f.floor = true ∧ m.floor = false) ∨
      (f.zeroPrice = true ∧ m.zeroPrice = false) ∨ (f.unitOverflow = true ∧ m.unitOverflow = false) := by
  have hany : statusUnder m f = .held ↔ anyUnmasked m f = true := by simp [statusUnder]
  rw [hany]
  simp [anyUnmasked, or_assoc]

/-- R21: the unit price is E × R / Q to the nearest whole unit, a half raised. -/
theorem unitAmount_bounds (e r : Nat) {q : Nat} (hq : 1 ≤ q) : 2 * q * unitAmount e r q ≤ 2 * (e * r) + q ∧
    2 * (e * r) + q < 2 * q * (unitAmount e r q + 1) :=
  ⟨Nat.mul_div_le _ _, Nat.lt_mul_div_succ _ (by omega)⟩

theorem unitAmount_zero (r : Nat) {q : Nat} (hq : 1 ≤ q) : unitAmount 0 r q = 0 := by
  simp only [unitAmount, Nat.zero_mul, Nat.mul_zero, Nat.zero_add]
  exact Nat.div_eq_of_lt (by omega)

theorem unitPrice_packed {i : PriceInputs} {q : Nat} {u : UnitCode} (e : Nat) (hq : i.pack = some q)
    (hu : i.unit = some u) : unitPrice i e = if unitAmount e (referenceQuantity u) q ≤ 9999999 then
      .amount (unitAmount e (referenceQuantity u) q) else .blank := by
  simp only [unitPrice, hq, hu]
  rfl

theorem unitPrice_unpacked {i : PriceInputs} (e : Nat) (hq : i.pack = none) : unitPrice i e = .absent := by
  simp [unitPrice, hq]

/-- R22: UNIT_OVERFLOW is raised exactly with a BLANK unit price. -/
theorem evaluate_unitOverflow (i : PriceInputs) :
    (evaluate i).faults.unitOverflow = decide ((evaluate i).u = .blank) := rfl

theorem evaluate_unit (i : PriceInputs) : (evaluate i).u = unitPrice i (evaluate i).e := rfl

/-- Settles O18, stage by stage. -/
theorem evaluationTakesThePriceThroughItsStages : Obligations.EvaluationTakesThePriceThroughItsStages := by
  unfold Obligations.EvaluationTakesThePriceThroughItsStages
  refine ⟨⟨fun _ _ => rfl, promotionPrice_fixed, fun i => ⟨effectivePrice_eq_max i, decide_eq_true_iff,
    decide_eq_true_iff, raisesPromoAboveBase_iff _ _, effectivePrice_le, showsPromotion_iff i⟩, statusUnder_held_iff⟩,
    fun i => ⟨fun hq => ?unpacked, fun q u hq hu h1 => ?packed⟩⟩
  case unpacked =>
    have habsent := unitPrice_unpacked (evaluate i).e hq
    rw [evaluate_unitOverflow, evaluate_unit, habsent]
    exact ⟨rfl, rfl⟩
  case packed =>
    have hunit := unitPrice_packed (evaluate i).e hq hu
    have hbounds := unitAmount_bounds (evaluate i).e (referenceQuantity u) h1
    refine ⟨_, hbounds.1, hbounds.2, fun he => he ▸ unitAmount_zero _ h1, fun hle => ?_, fun hlt => ?_⟩ <;>
      rw [evaluate_unitOverflow, evaluate_unit, hunit]
    · rw [if_pos hle]
      exact ⟨rfl, rfl⟩
    · rw [if_neg (by omega)]
      exact ⟨rfl, rfl⟩

/-! ## Digits (R28) -/

theorem digitsValue_append_singleton (t : Text) (c : Nat) : digitsValue (t ++ [c]) = digitsValue t * 10 + (c - 48) := by
  simp [digitsValue]

/-- A leading zero counts for nothing. -/
theorem digitsValue_zero_cons (t : Text) : digitsValue (48 :: t) = digitsValue t := rfl

@[simp] theorem fixedDigits_length (w n : Nat) : (fixedDigits w n).length = w := by
  induction w generalizing n with
  | zero => rfl
  | succ w ih => simp [fixedDigits, ih]

theorem fixedDigits_digit {w n c : Nat} (h : c ∈ fixedDigits w n) : 48 ≤ c ∧ c ≤ 57 := by
  induction w generalizing n with
  | zero => cases h
  | succ w ih =>
    rcases List.mem_append.1 h with h | h
    · exact ih h
    · rw [List.mem_singleton] at h
      omega

theorem digitsValue_fixedDigits (w n : Nat) : digitsValue (fixedDigits w n) = n % 10 ^ w := by
  induction w generalizing n with
  | zero => simp [fixedDigits, digitsValue, Nat.mod_one]
  | succ w ih =>
    rw [fixedDigits, digitsValue_append_singleton, ih, Nat.pow_succ, Nat.mul_comm (10 ^ w) 10, Nat.mod_mul]
    omega

/-- A number that needs no more than `w` digits has leading zeros beyond them. -/
theorem fixedDigits_succ_of_lt {w n : Nat} (h : n < 10 ^ w) : fixedDigits (w + 1) n = 48 :: fixedDigits w n := by
  induction w generalizing n with
  | zero =>
    have hn : n = 0 := by simpa using h
    simp [hn, fixedDigits]
  | succ w ih =>
    have hlt : n / 10 < 10 ^ w := by
      rw [Nat.div_lt_iff_lt_mul (by norm_num)]
      simpa [Nat.pow_succ] using h
    rw [fixedDigits, ih hlt, fixedDigits, List.cons_append]

/-- A text of digits without its leading zeros. -/
def stripZeros (t : Text) : Text := t.dropWhile (fun c => decide (c = 48))

@[simp] theorem stripZeros_zero_cons (t : Text) : stripZeros (48 :: t) = stripZeros t := rfl

theorem stripZeros_cons_of_ne {c : Nat} (t : Text) (h : c ≠ 48) : stripZeros (c :: t) = c :: t := by
  simp [stripZeros, h]

theorem digitsValue_stripZeros (t : Text) : digitsValue (stripZeros t) = digitsValue t := by
  induction t with
  | nil => rfl
  | cons c t ih =>
    by_cases h : c = 48
    · subst h
      rw [stripZeros_zero_cons, digitsValue_zero_cons, ih]
    · rw [stripZeros_cons_of_ne t h]

theorem stripZeros_head (t : Text) : (stripZeros t).head? ≠ some 48 := by
  induction t with
  | nil => simp [stripZeros]
  | cons c t ih =>
    by_cases h : c = 48
    · subst h
      rwa [stripZeros_zero_cons]
    · simp [stripZeros_cons_of_ne t h, h]

theorem stripZeros_fixedDigits {w n : Nat} (h : n < 10 ^ w) (k : Nat) :
    stripZeros (fixedDigits (w + k) n) = stripZeros (fixedDigits w n) := by
  induction k with
  | zero => rfl
  | succ k ih =>
    have hlt : n < 10 ^ (w + k) := h.trans_le (Nat.pow_le_pow_right (by norm_num) (by omega))
    rw [← Nat.add_assoc, fixedDigits_succ_of_lt hlt, stripZeros_zero_cons, ih]

/-- R28: the digits of a number without leading zeros, and "0" for 0. -/
theorem plainDigits_eq (n : Nat) : plainDigits n = if stripZeros (fixedDigits 13 n) = [] then [48]
    else stripZeros (fixedDigits 13 n) := by
  unfold plainDigits stripZeros
  split
  · next h => rw [if_pos h]
  · next h => rw [if_neg h]

theorem plainDigits_ne_nil (n : Nat) : plainDigits n ≠ [] := by
  rw [plainDigits_eq]
  split
  · simp
  · assumption

theorem plainDigits_head {n : Nat} (h : (plainDigits n).head? = some 48) : plainDigits n = [48] := by
  rw [plainDigits_eq] at h ⊢
  split at h
  · next hnil => rw [if_pos hnil]
  · exact absurd h (stripZeros_head _)

theorem plainDigits_digit {n c : Nat} (h : c ∈ plainDigits n) : 48 ≤ c ∧ c ≤ 57 := by
  rw [plainDigits_eq] at h
  split at h
  · rw [List.mem_singleton] at h
    omega
  · exact fixedDigits_digit (List.dropWhile_subset _ h)

theorem digitsValue_plainDigits {n : Nat} (h : n < 10 ^ 13) : digitsValue (plainDigits n) = n := by
  have hvalue : digitsValue (stripZeros (fixedDigits 13 n)) = n := by
    rw [digitsValue_stripZeros, digitsValue_fixedDigits, Nat.mod_eq_of_lt h]
  rw [plainDigits_eq]
  split
  · next hnil =>
    rw [hnil] at hvalue
    exact hvalue
  · exact hvalue

/-- A number below 10 to the `w` takes no more than `w` digits. -/
theorem plainDigits_length {w n : Nat} (h1 : 1 ≤ w) (hw : w ≤ 13) (h : n < 10 ^ w) : (plainDigits n).length ≤ w := by
  have hstrip : stripZeros (fixedDigits 13 n) = stripZeros (fixedDigits w n) := by
    have := stripZeros_fixedDigits h (13 - w)
    rwa [Nat.add_sub_cancel' hw] at this
  rw [plainDigits_eq]
  split
  · exact h1
  · rw [hstrip]
    exact ((List.dropWhile_sublist _).length_le).trans (fixedDigits_length w n).le

/-! ## Money texts (R28) -/

theorem moneyText_whole {s : PriceSettings} (m : Nat) (h : s.decimals = 0) :
    moneyText s m = s.glyph.toList ++ plainDigits m := by
  unfold moneyText
  rw [if_pos h]
  cases s.glyph <;> rfl

theorem moneyText_decimals {s : PriceSettings} (m : Nat) (h : s.decimals ≠ 0) : moneyText s m =
    s.glyph.toList ++ plainDigits (m / 10 ^ s.decimals) ++ [markChar s.mark] ++
      fixedDigits s.decimals (m % 10 ^ s.decimals) := by
  unfold moneyText
  rw [if_neg h]
  cases s.glyph <;> simp

/-- Settles O19, from the digits of the whole and the minor part. -/
theorem moneyTextReadsBackAsItsAmount : Obligations.MoneyTextReadsBackAsItsAmount := by
  unfold Obligations.MoneyTextReadsBackAsItsAmount
  intro s m hm hd
  have hdecimals := fun h : s.decimals ≠ 0 => moneyText_decimals m h
  refine ⟨plainDigits (m / 10 ^ s.decimals), fixedDigits s.decimals (m % 10 ^ s.decimals), fun h => ?_, fun h => ?_,
    fun c hc => ?_, plainDigits_ne_nil _, plainDigits_head, fixedDigits_length _ _, digitsValue_plainDigits ?_, ?_, ?_⟩
  · rw [moneyText_whole m h, h, pow_zero, Nat.div_one]
  · rw [moneyText_decimals m h]
    cases s.mark <;> rfl
  · rcases List.mem_append.1 hc with h | h
    · exact plainDigits_digit h
    · exact fixedDigits_digit h
  · exact (Nat.div_le_self _ _).trans_lt (by omega)
  · rw [digitsValue_fixedDigits, Nat.mod_mod]
  · rcases hd with h | h | h
    · have hlen := plainDigits_length (w := 7) (n := m) (by omega) (by omega) (by omega)
      rw [moneyText_whole m h, List.length_append]
      omega
    · have hlen := plainDigits_length (w := 5) (n := m / 10 ^ s.decimals) (by omega) (by omega) (by rw [h]; omega)
      rw [moneyText_decimals m (by omega)]
      simp only [List.length_append, List.length_singleton, fixedDigits_length]
      omega
    · have hlen := plainDigits_length (w := 4) (n := m / 10 ^ s.decimals) (by omega) (by omega) (by rw [h]; omega)
      rw [moneyText_decimals m (by omega)]
      simp only [List.length_append, List.length_singleton, fixedDigits_length]
      omega

end PriceArithmetic

end Sys2Proof.Machine

namespace Sys2Proof.Machine

/-! # PRICE (R17, R39 to R44) and RELEASE (R26) -/

section PriceRecords

variable {b : Block} {s : State}

/-! ## The fields of a PRICE record (R17, R33) -/

theorem plainText_iff (t : Text) : plainText t = true ↔ ∀ c ∈ t, 32 ≤ c ∧ c ≤ 127 := by
  simp [plainText]

theorem checkPromotion_iff (x : RawPromotion) (y : Option Promotion) :
    checkPromotion x = some y ↔ PromotionInRange x y := by
  constructor
  · intro h
    match x with
    | .absent => cases h; exact .absent
    | .percent p (some m) =>
      obtain ⟨hp, rfl⟩ : within 1 9999 p = true ∧ some (.percent p m) = y := by simpa [checkPromotion] using h
      exact .percent p m ((within_iff _ _ _).1 hp)
    | .percent p none => cases h
    | .amount a =>
      obtain ⟨ha, rfl⟩ : within 1 Config.maxMoney a = true ∧ some (.amount a) = y := by simpa [checkPromotion] using h
      exact .amount a ((within_iff _ _ _).1 ha)
    | .fixed p =>
      obtain ⟨hp, rfl⟩ : within 0 Config.maxMoney p = true ∧ some (.fixed p) = y := by simpa [checkPromotion] using h
      exact .fixed p ((within_iff _ _ _).1 hp).2
    | .unknown => cases h
  · rintro (_ | ⟨p, m, hp⟩ | ⟨a, ha⟩ | ⟨p, hp⟩)
    · rfl
    · exact if_pos ((within_iff _ _ _).2 hp)
    · exact if_pos ((within_iff _ _ _).2 ha)
    · exact if_pos ((within_iff _ _ _).2 ⟨Nat.zero_le _, hp⟩)

theorem checkPack_iff (pack : Option Nat) (unit : Option (Coded UnitCode)) (u : Option UnitCode) :
    checkPack pack unit = some u ↔ PackInRange pack unit u := by
  constructor
  · intro h
    match pack, unit with
    | none, none => cases h; exact .absent
    | some q, some (some x) =>
      obtain ⟨hq, rfl⟩ : within 1 999999 q = true ∧ some x = u := by simpa [checkPack] using h
      exact .present q x ((within_iff _ _ _).1 hq)
    | none, some _ => cases h
    | some _, none => cases h
    | some _, some none => cases h
  · rintro (_ | ⟨q, x, hq⟩)
    · rfl
    · exact if_pos ((within_iff _ _ _).2 hq)

theorem PromotionInRange.isSome_iff {x : RawPromotion} {y : Option Promotion} (h : PromotionInRange x y) :
    y.isSome = true ↔ x ≠ .absent := by
  cases h <;> simp

theorem checkBadge_iff (badge : Option Text) (y : Option Promotion) :
    checkBadge badge y = true ↔ ∀ t, badge = some t → TextInRange 16 t ∧ t ≠ [] ∧ y.isSome = true := by
  cases badge with
  | none => simp [checkBadge]
  | some t =>
    simp only [checkBadge, Bool.and_eq_true, plainText_iff, within_iff, Option.some.injEq, forall_eq', TextInRange,
      Nat.one_le_iff_ne_zero, ne_eq, List.length_eq_zero_iff]
    tauto

theorem optionWithin_iff (hi : Nat) (x : Option Nat) : optionWithin 0 hi x = true ↔ ∀ f, x = some f → f ≤ hi := by
  cases x <;> simp [optionWithin, within]

theorem checkDescription_iff (t : Text) : checkDescription t = true ↔ TextInRange 40 t := by
  simp [checkDescription, plainText_iff, TextInRange]

/-- R17, R33: a PRICE record passes its check exactly in range, with the inputs and the effect it carries. -/
theorem checkPrice_iff (r : PriceRecord) (inputs : PriceInputs) (effect : Effect) :
    checkPrice r = some (inputs, effect) ↔ PriceInRange r inputs effect := by
  constructor
  · intro h
    unfold checkPrice at h
    split at h
    · next promotion unit e hp hu he =>
      split at h
      · next hall =>
        cases h
        simp only [Bool.and_eq_true, decide_eq_true_eq, within_iff, checkBadge_iff, optionWithin_iff,
          checkDescription_iff] at hall
        obtain ⟨⟨⟨⟨hcode, -, hbase⟩, hbadge⟩, hfloor⟩, htext⟩ := hall
        have hp := (checkPromotion_iff _ _).1 hp
        refine ⟨hcode, hbase, hfloor, fun t ht => ?_, htext, he, hp, (checkPack_iff _ _ _).1 hu, rfl, rfl, rfl, rfl, rfl⟩
        obtain ⟨hrange, hne, hsome⟩ := hbadge t ht
        exact ⟨hrange, hne, hp.isSome_iff.1 hsome⟩
      · cases h
    · cases h
  · rintro ⟨hcode, hbase, hfloor, hbadge, htext, he, hp, hu, h1, h2, h3, h4, h5⟩
    obtain ⟨base, promotion, badge, floor, pack, unit, description⟩ := inputs
    dsimp only at hp hu h1 h2 h3 h4 h5
    subst h1 h2 h3 h4 h5
    have hb : checkBadge r.badge promotion = true := (checkBadge_iff _ _).2 fun t ht =>
      let ⟨hrange, hne, habsent⟩ := hbadge t ht
      ⟨hrange, hne, hp.isSome_iff.2 habsent⟩
    have hf : optionWithin 0 Config.maxMoney r.floor = true := (optionWithin_iff _ _).2 hfloor
    have hd := (checkDescription_iff r.description).2 htext
    have hw : within 0 Config.maxMoney r.base = true := (within_iff _ _ _).2 ⟨Nat.zero_le _, hbase⟩
    have hk : r.code ≤ Config.maxItemCode := hcode
    simp [checkPrice, (checkPromotion_iff _ _).2 hp, (checkPack_iff _ _ _).2 hu, he, hk, hb, hf, hd, hw]

/-- R17, R33: a PRICE record that is in range for no inputs and effect fails its check. -/
theorem checkPrice_none {r : PriceRecord} (h : ∀ inputs effect, ¬ PriceInRange r inputs effect) :
    checkPrice r = none := by
  rw [Option.eq_none_iff_forall_ne_some]
  rintro ⟨inputs, effect⟩ hx
  exact h inputs effect ((checkPrice_iff _ _ _).1 hx)

theorem TextInRange.not_out {n : Nat} {t : Text} (h : TextInRange n t) (hout : n < t.length ∨ ∃ c ∈ t, c < 32 ∨ 127 < c) :
    False := by
  obtain ⟨hlen, hchars⟩ := h
  rcases hout with hout | ⟨c, hc, hout⟩
  · omega
  · have := hchars c hc
    omega

theorem PromotionInRange.not_out {x : RawPromotion} {y : Option Promotion} (h : PromotionInRange x y)
    (hout : x = .unknown ∨ (∃ p m, x = .percent p m ∧ (p = 0 ∨ 9999 < p ∨ m = none)) ∨
      (∃ a, x = .amount a ∧ (a = 0 ∨ 9999999 < a)) ∨ ∃ p, x = .fixed p ∧ 9999999 < p) : False := by
  rcases hout with rfl | ⟨p, m, rfl, hout⟩ | ⟨a, rfl, hout⟩ | ⟨p, rfl, hout⟩
  · cases h
  · obtain _ | ⟨_, m, hp⟩ := h
    simp only [reduceCtorEq, or_false] at hout
    omega
  · obtain _ | _ | ⟨_, ha⟩ := h
    omega
  · obtain _ | _ | _ | ⟨_, hp⟩ := h
    omega

theorem PackInRange.not_out {pack : Option Nat} {unit : Option (Coded UnitCode)} {u : Option UnitCode}
    (h : PackInRange pack unit u)
    (hout : (∃ q, pack = some q ∧ (q = 0 ∨ 999999 < q)) ∨ unit = some none ∨ (pack ≠ none ∧ unit = none) ∨
      (pack = none ∧ unit ≠ none)) : False := by
  cases h with
  | absent => simp at hout
  | present q x hq =>
    simp only [Option.some.injEq, exists_eq_left', reduceCtorEq, ne_eq, not_false_eq_true, and_false, false_and,
      or_false] at hout
    omega

/-! ## A version placed (R39 to R44) -/

theorem applyPrice_refused {r : PriceRecord} (h : checkPrice r = none) : applyPrice r b = (b, some .fieldRange) := by
  simp [applyPrice, h]

theorem priceItem_of_some {code : Nat} {i : Item} (h : getItem b code = some i) : priceItem b code = some i := by
  simp [priceItem, h]

theorem priceItem_of_none {code : Nat} (h : getItem b code = none) (hlt : b.items.table.length < 65536) :
    priceItem b code = some newItem := by
  simp only [priceItem, h]
  exact if_pos hlt

theorem priceItem_full {code : Nat} (h : getItem b code = none) (hle : 65536 ≤ b.items.table.length) :
    priceItem b code = none := by
  simp only [priceItem, h]
  exact if_neg (not_lt.2 hle)

section InRange

variable {r : PriceRecord} {inputs : PriceInputs} {effect : Effect}

theorem applyPrice_tableFull (hc : checkPrice r = some (inputs, effect)) (hi : priceItem b r.code = none) :
    applyPrice r b = (b, some .tableFull) := by
  simp [applyPrice, hc, hi]

theorem applyPrice_slotsFull {i : Item} (hc : checkPrice r = some (inputs, effect)) (hi : priceItem b r.code = some i)
    (hj : placeVersion b.price.masks inputs i effect = none) : applyPrice r b = (b, some .slotsFull) := by
  simp [applyPrice, hc, hi, hj]

/-- R22, R37, R44: the part with item `j` put back after a version of `inputs` was placed in it. -/
def versionPlaced (code : Nat) (effect : Effect) (inputs : PriceInputs) (j : Item) (b : Block) : Block :=
  handOn (Handoff.mk code []) (noteHeld code (statusUnder b.price.masks (evaluate inputs).faults)
    (notePending code effect (putItem code j b)))

theorem applyPrice_placed {i j : Item} (hc : checkPrice r = some (inputs, effect)) (hi : priceItem b r.code = some i)
    (hj : placeVersion b.price.masks inputs i effect = some j) :
    applyPrice r b = (versionPlaced r.code effect inputs j b, none) := by
  simp [applyPrice, hc, hi, hj, versionPlaced]

end InRange

@[simp] theorem noteHeld_items (code : Nat) (x : VersionStatus) (b : Block) : (noteHeld code x b).items = b.items := by
  cases x <;> rfl

@[simp] theorem noteHeld_labels (code : Nat) (x : VersionStatus) (b : Block) :
    (noteHeld code x b).labels = b.labels := by
  cases x <;> rfl

theorem noteHeld_mgmt (code : Nat) (x : VersionStatus) (b : Block) : (noteHeld code x b).mgmt = { b.mgmt with
    notices := if x = .held then noticeQueueAfter .itemHeld (.item code) none b.mode.clock b.mgmt.notices
      else b.mgmt.notices } := by
  cases x <;> rfl

@[simp] theorem notePending_table (code : Nat) (e : Effect) (b : Block) :
    (notePending code e b).items.table = b.items.table := by cases e <;> rfl

@[simp] theorem notePending_labels (code : Nat) (e : Effect) (b : Block) :
    (notePending code e b).labels = b.labels := by cases e <;> rfl

@[simp] theorem notePending_mgmt (code : Nat) (e : Effect) (b : Block) : (notePending code e b).mgmt = b.mgmt := by
  cases e <;> rfl

@[simp] theorem notePending_mode (code : Nat) (e : Effect) (b : Block) : (notePending code e b).mode = b.mode := by
  cases e <;> rfl

theorem notePending_pending (code : Nat) (e : Effect) (b : Block) : (notePending code e b).items.pending =
    if e = .nextOpen ∧ code ∉ b.items.pending then b.items.pending ++ [code] else b.items.pending := by
  cases e with
  | immediate => simp [notePending]
  | nextOpen =>
    by_cases h : code ∈ b.items.pending <;> simp [notePending, setAdd, h]

section VersionPlaced

variable (code : Nat) (effect : Effect) (inputs : PriceInputs) (j : Item) (b : Block)

theorem versionPlaced_touches : Touches [.items, .labels, .mgmt] b (versionPlaced code effect inputs j b) := by
  refine Touches.handOn _ (Touches.noteHeld _ _ (Touches.notePending _ _ (Touches.putItem _ _ (.refl _ _) ?_) ?_) ?_) ?_ <;>
    decide

theorem getItem_versionPlaced (c : Nat) :
    getItem (versionPlaced code effect inputs j b) c = getItem (putItem code j b) c := by
  simp [getItem, versionPlaced]

theorem versionPlaced_pending : (versionPlaced code effect inputs j b).items.pending =
    if effect = .nextOpen ∧ code ∉ b.items.pending then b.items.pending ++ [code] else b.items.pending := by
  have hheld : (versionPlaced code effect inputs j b).items = (notePending code effect (putItem code j b)).items :=
    noteHeld_items _ _ _
  rw [hheld]
  exact notePending_pending code effect (putItem code j b)

theorem versionPlaced_labels : (versionPlaced code effect inputs j b).labels =
    { b.labels with handoffs := b.labels.handoffs ++ [Handoff.mk code []] } := by
  simp [versionPlaced]

theorem versionPlaced_mgmt : (versionPlaced code effect inputs j b).mgmt = { b.mgmt with
    notices := if statusUnder b.price.masks (evaluate inputs).faults = .held
      then noticeQueueAfter .itemHeld (.item code) none b.mode.clock b.mgmt.notices else b.mgmt.notices } := by
  simp [versionPlaced, noteHeld_mgmt]

end VersionPlaced

/-- R40: the first version of a new item is number 1 in slot 0. -/
theorem placeVersion_newItem (m : PriceMasks) (inputs : PriceInputs) (effect : Effect) :
    placeVersion m inputs newItem effect = some (Item.mk 1 #v[some (Version.mk
      (if effect = .immediate then .active else .pending) (statusUnder m (evaluate inputs).faults) 1 inputs
      (evaluate inputs) 0), none, none, none] []) := by
  cases effect <;> rfl

/-- Settles O20: the range check, then the record, then the slot, then what is noted. -/
theorem pricePutsTheVersionIntoItsItem : Obligations.PricePutsTheVersionIntoItsItem := by
  unfold Obligations.PricePutsTheVersionIntoItsItem
  refine ⟨fun n r s hout => ?outOfRange, fun n r s inputs effect hr => ?inRange⟩
  case outOfRange =>
    have hnone : checkPrice r = none := checkPrice_none fun inputs effect hin => by
      obtain ⟨hcode, hbase, hfloor, hbadge, htext, he, hp, hu, -⟩ := hin
      rcases hout with h | h | ⟨f, hf, h⟩ | h | h | h | h | h | h | h | h | h | ⟨t, ht, h⟩ | h
      · omega
      · omega
      · have := hfloor f hf
        omega
      · exact hu.not_out (.inl h)
      · exact hu.not_out (.inr (.inl h))
      · rw [he] at h
        cases h
      · exact hp.not_out (.inl h)
      · exact hp.not_out (.inr (.inl h))
      · exact hp.not_out (.inr (.inr (.inl h)))
      · exact hp.not_out (.inr (.inr (.inr h)))
      · exact hu.not_out (.inr (.inr (.inl h)))
      · exact hu.not_out (.inr (.inr (.inr h)))
      · obtain ⟨hrange, hne, habsent⟩ := hbadge t ht
        rcases h with h | h | h
        · exact habsent h
        · exact hne h
        · exact hrange.not_out h
      · exact htext.not_out h
    exact ⟨hnone, exec_of_event rfl (applyPrice_refused hnone)⟩
  case inRange =>
    have hc := (checkPrice_iff r inputs effect).2 hr
    refine ⟨hc, fun hn hfull => exec_of_event rfl (applyPrice_tableFull hc (priceItem_full hn hfull)), fun hn hlt => ?new,
      fun i hi => ?placed⟩
    case new =>
      refine ⟨_, exec_of_event rfl (applyPrice_placed hc (priceItem_of_none hn hlt) (placeVersion_newItem _ _ _)), ?_⟩
      rw [getItem_versionPlaced, getItem_putItem_self]
    case placed =>
      have hi : priceItem s.block r.code = some i := by
        rcases hi with hi | ⟨hn, hlt, rfl⟩
        · exact priceItem_of_some hi
        · exact priceItem_of_none hn hlt
      refine ⟨fun hj => exec_of_event rfl (applyPrice_slotsFull hc hi hj), fun j hj =>
        ⟨_, exec_of_event rfl (applyPrice_placed hc hi hj), versionPlaced_touches _ _ _ _ _, ?_, fun c hne => ?_,
          versionPlaced_pending .., versionPlaced_labels .., versionPlaced_mgmt ..⟩⟩
      · rw [getItem_versionPlaced, getItem_putItem_self]
      · rw [getItem_versionPlaced, getItem_putItem_other _ _ hne]

/-! ## RELEASE (R26) -/

theorem slotOf_releaseItem (m : PriceMasks) (i : Item) (k : Slot) :
    slotOf (releaseItem m i) k = (slotOf i k).map (releaseVersion m) := slotOf_map i _ k

/-- R15, R26: evaluated again, a version keeps its results; it becomes VALID where the masks allow it. -/
theorem releaseVersion_eq (m : PriceMasks) {v : Version} (h : v.results = evaluate v.inputs) : releaseVersion m v =
    if v.status = .held ∧ statusUnder m v.results.faults = .valid then { v with status := .valid } else v := by
  obtain ⟨role, status, number, inputs, results, refs⟩ := v
  dsimp only at h
  subst h
  cases status with
  | valid => simp [releaseVersion]
  | held => cases hs : statusUnder m (evaluate inputs).faults <;> simp [releaseVersion, hs]

theorem releaseVersion_held {m : PriceMasks} {v : Version} (h : (releaseVersion m v).status = .held) :
    v.status = .held := by
  unfold releaseVersion at h
  split at h <;> assumption

theorem countStatus_eq_countP (i : Item) (st : VersionStatus) :
    countStatus i st = slotNumbers.countP (fun k => (slotOf i k).any (fun v => decide (v.status = st))) := by
  rw [countStatus, ← List.countP_eq_length_filter]
  refine List.countP_congr fun k _ => ?_
  cases slotOf i k <;> simp

/-- R26: RELEASE makes no version HELD. -/
theorem countStatus_releaseItem_le (m : PriceMasks) (i : Item) :
    countStatus (releaseItem m i) .held ≤ countStatus i .held := by
  rw [countStatus_eq_countP, countStatus_eq_countP]
  refine List.countP_mono_left fun k _ h => ?_
  rw [slotOf_releaseItem] at h
  cases hv : slotOf i k with
  | none => simp [hv] at h
  | some v =>
    simp only [hv, Option.map_some, Option.any_some, decide_eq_true_eq] at h
    simp [releaseVersion_held h]

theorem applyRelease_outOfRange {code : Nat} (h : 9999999999999 < code) :
    applyRelease code b = (b, .refusal .fieldRange none) := if_neg (not_le.2 h)

theorem applyRelease_notFound {code : Nat} (h : code ≤ 9999999999999) (hn : getItem b code = none) :
    applyRelease code b = (b, .refusal .notFound none) := by
  have hin : code ≤ Config.maxItemCode := h
  simp [applyRelease, hin, hn]

theorem applyRelease_found {code : Nat} {i : Item} (h : code ≤ 9999999999999) (hi : getItem b code = some i) :
    applyRelease code b = releaseFound code i b := by
  have hin : code ≤ Config.maxItemCode := h
  simp [applyRelease, hin, hi]

/-- R26: what a RELEASE notes of an item of which `valid` versions became VALID and `held` stay HELD. -/
def releaseNoted (code valid held : Nat) (b : Block) : Block :=
  (if 0 < valid then handOn (Handoff.mk code []) else id) ((if 0 < held then notice .itemHeld (.item code) else id) b)

theorem releaseFound_eq (code : Nat) (i : Item) (b : Block) {j : Item} {valid held : Nat}
    (hj : j = releaseItem b.price.masks i) (hheld : held = countStatus j .held)
    (hvalid : valid = countStatus i .held - held) :
    releaseFound code i b = (releaseNoted code valid held (putItem code j b), .released valid held) := by
  subst hj hheld hvalid
  rfl

theorem releaseNoted_touches (code valid held : Nat) (b : Block) :
    Touches [.labels, .mgmt] b (releaseNoted code valid held b) := by
  unfold releaseNoted
  split <;> split
  · exact Touches.handOn _ (Touches.notice _ _ (.refl _ _) (by decide)) (by decide)
  · exact Touches.handOn _ (.refl _ _) (by decide)
  · exact Touches.notice _ _ (.refl _ _) (by decide)
  · exact .refl _ _

theorem releaseNoted_items (code valid held : Nat) (b : Block) : (releaseNoted code valid held b).items = b.items :=
  ((releaseNoted_touches code valid held b).keeps .items (by decide)).symm

theorem releaseNoted_labels (code valid held : Nat) (b : Block) : (releaseNoted code valid held b).labels =
    { b.labels with handoffs := b.labels.handoffs ++ (if valid = 0 then [] else [Handoff.mk code []]) } := by
  cases valid <;> cases held <;> simp [releaseNoted]

theorem releaseNoted_mgmt (code valid held : Nat) (b : Block) : (releaseNoted code valid held b).mgmt = { b.mgmt with
    notices := if held = 0 then b.mgmt.notices
      else noticeQueueAfter .itemHeld (.item code) none b.mode.clock b.mgmt.notices } := by
  cases valid <;> cases held <;> simp [releaseNoted, notice, noticeWith]

/-- Settles O24. -/
theorem releaseEvaluatesTheHeldVersionsAgain : Obligations.ReleaseEvaluatesTheHeldVersionsAgain := by
  unfold Obligations.ReleaseEvaluatesTheHeldVersionsAgain
  intro h code s ht
  have hexec : exec (.release h code) s = s.answers h (applyRelease code s.block).2 (applyRelease code s.block).1 :=
    exec_of_message rfl ht
  refine ⟨fun hout => ?_, fun hin hn => ?_, fun i hin hi hresults => ?_⟩
  · rw [hexec, applyRelease_outOfRange hout]
  · rw [hexec, applyRelease_notFound hin hn]
  · have hle := countStatus_releaseItem_le s.block.price.masks i
    obtain ⟨j, hj⟩ : ∃ j, j = releaseItem s.block.price.masks i := ⟨_, rfl⟩
    obtain ⟨held, hheld⟩ : ∃ held, held = countStatus j .held := ⟨_, rfl⟩
    rw [applyRelease_found hin hi, releaseFound_eq code i s.block hj hheld rfl] at hexec
    refine ⟨_, j, _, held, hexec, ?touches, ?item, hj ▸ rfl, hj ▸ rfl, fun k => ?slots, fun c hc => ?others, ?pending,
      hheld, ?counts, ?labels, ?mgmt⟩
    case touches =>
      exact (Touches.putItem _ _ (.refl _ _) (by decide)).trans ((releaseNoted_touches _ _ _ _).mono (by decide))
    case item => rw [getItem, releaseNoted_items, ← getItem, getItem_putItem_self]
    case slots =>
      rw [hj, slotOf_releaseItem]
      cases hv : slotOf i k with
      | none => rfl
      | some v => exact congrArg some (releaseVersion_eq _ (hresults k v hv))
    case others => rw [getItem, releaseNoted_items, ← getItem, getItem_putItem_other _ _ hc]
    case pending => rw [releaseNoted_items, putItem_items]
    case counts =>
      rw [← hj, ← hheld] at hle
      omega
    case labels => rw [releaseNoted_labels, putItem_labels]
    case mgmt => rw [releaseNoted_mgmt, putItem_mgmt, putItem_mode]

end PriceRecords

end Sys2Proof.Machine

namespace Sys2Proof.Machine

/-! # The records of PRICE_SETTINGS, TEMPLATES, GLYPHS, RADIO_SETTINGS and GUEST_PROFILE (R16, R76 to R78, R89, R92,
R144), as their owners' own events -/

section OwnersRecords

variable {b : Block} {n : Nat}

/-! ## Price settings (R16, R89) -/

theorem optionWithin_iff_range (lo hi : Nat) (x : Option Nat) :
    optionWithin lo hi x = true ↔ ∀ g, x = some g → lo ≤ g ∧ g ≤ hi := by
  cases x <;> simp [optionWithin, within]

theorem checkPriceSettings_iff (w : PriceSettingsWrite) (p : PriceSettings) : checkPriceSettings w = some p ↔
    ∃ a f z u mark, (w.promoAboveBase = some a ∧ w.floor = some f ∧ w.zeroPrice = some z ∧ w.unitOverflow = some u ∧
      w.mark = some mark) ∧ (w.decimals = 0 ∨ w.decimals = 2 ∨ w.decimals = 3) ∧
      (∀ g, w.glyph = some g → 32 ≤ g ∧ g ≤ 127) ∧ p = PriceSettings.mk (PriceMasks.mk a f z u) w.decimals mark w.glyph := by
  constructor
  · intro h
    unfold checkPriceSettings at h
    split at h
    · next a f z u mark ha hf hz hu hm =>
      split at h
      · next hall =>
        cases h
        simp only [Bool.and_eq_true, Bool.or_eq_true, decide_eq_true_eq, optionWithin_iff_range, or_assoc] at hall
        exact ⟨a, f, z, u, mark, ⟨ha, hf, hz, hu, hm⟩, hall.1, hall.2, rfl⟩
      · cases h
    · cases h
  · rintro ⟨a, f, z, u, mark, ⟨ha, hf, hz, hu, hm⟩, hd, hg, rfl⟩
    simp [checkPriceSettings, ha, hf, hz, hu, hm, (optionWithin_iff_range _ _ _).2 hg, or_assoc, hd]

theorem checkPriceSettings_none {w : PriceSettingsWrite} (h : w.promoAboveBase = none ∨ w.floor = none ∨
    w.zeroPrice = none ∨ w.unitOverflow = none ∨ w.mark = none ∨ (w.decimals ≠ 0 ∧ w.decimals ≠ 2 ∧ w.decimals ≠ 3) ∨
    ∃ g, w.glyph = some g ∧ (g < 32 ∨ 127 < g)) : checkPriceSettings w = none := by
  rw [Option.eq_none_iff_forall_ne_some]
  intro p hp
  obtain ⟨a, f, z, u, mark, ⟨ha, hf, hz, hu, hm⟩, hd, hg, -⟩ := (checkPriceSettings_iff w p).1 hp
  rw [ha, hf, hz, hu, hm] at h
  rcases h with h | h | h | h | h | h | ⟨g, h, hout⟩
  · cases h
  · cases h
  · cases h
  · cases h
  · cases h
  · omega
  · have := hg g h
    omega

theorem writePriceSettings_refused {w : PriceSettingsWrite} (h : n ≠ 0 ∨ checkPriceSettings w = none) :
    writeAt .priceSettings n (.priceSettings w) b = (b, some .fieldRange) := by
  simp only [writeAt, writePriceSettings]
  split
  · next hn => simp [applyPriceSettings, h.resolve_left (not_not.2 hn)]
  · rfl

/-- R16, R89: the part with price settings `p` in force; a change of the money text empties the current-style set. -/
theorem writePriceSettings_accepted {w : PriceSettingsWrite} {p : PriceSettings} (h : checkPriceSettings w = some p) :
    writeAt .priceSettings 0 (.priceSettings w) b = ({ b with
      price := p
      composer := { b.composer with style := if p.decimals = b.price.decimals ∧ p.mark = b.price.mark ∧
        p.glyph = b.price.glyph then b.composer.style else [] } }, none) := by
  simp only [writeAt, writePriceSettings, if_true, applyPriceSettings, h]
  split <;> rfl

/-! ## Templates (R76, R77) -/

/-- R76: a field of a template write is in range. -/
def FieldInRange (cls : DisplayClass) (planes : Nat) (f : RawField) (g : TemplateField) : Prop :=
  f = RawField.mk (some g.source) g.xStart g.xEnd g.yStart g.yEnd (some g.orientation) g.font.val (some g.alignment)
      (some g.plane) ∧ g.xStart ≤ g.xEnd ∧ g.yStart ≤ g.yEnd ∧ g.xEnd < classWidth cls ∧ g.yEnd < classHeight cls ∧
    ¬ (g.plane = .accent ∧ planes = 1)

theorem checkField_iff (cls : DisplayClass) (planes : Nat) (f : RawField) (g : TemplateField) :
    checkField cls planes f = some g ↔ FieldInRange cls planes f g := by
  constructor
  · intro h
    obtain ⟨source, x0, x1, y0, y1, orientation, font, alignment, plane⟩ := f
    unfold checkField at h
    split at h
    · next hs ho ha hp =>
      dsimp only at hs ho ha hp
      subst hs ho ha hp
      split at h
      · split at h
        · next hall =>
          cases h
          simp only [Bool.and_eq_true, decide_eq_true_eq, Bool.not_eq_true', Bool.and_eq_false_iff,
            decide_eq_false_iff_not, ← not_and_or] at hall
          obtain ⟨⟨⟨⟨hx, hy⟩, hw⟩, hh⟩, hplane⟩ := hall
          exact ⟨rfl, hx, hy, hw, hh, hplane⟩
        · cases h
      · cases h
    · cases h
  · rintro ⟨rfl, hx, hy, hw, hh, hplane⟩
    simp only [not_and] at hplane
    simpa [checkField, hx, hy, hw, hh] using hplane

theorem checkFields_iff (cls : DisplayClass) (planes : Nat) (fs : List RawField) (gs : List TemplateField) :
    checkFields cls planes fs = some gs ↔ List.Forall₂ (FieldInRange cls planes) fs gs := by
  induction fs generalizing gs with
  | nil =>
    simp only [checkFields, Option.some.injEq, List.forall₂_nil_left_iff]
    exact eq_comm
  | cons f rest ih =>
    constructor
    · intro h
      unfold checkFields at h
      split at h
      · next g l hg hl =>
        cases h
        exact .cons ((checkField_iff _ _ _ _).1 hg) ((ih _).1 hl)
      · cases h
    · rintro (_ | ⟨hg, hl⟩)
      simp [checkFields, (checkField_iff _ _ _ _).2 hg, (ih _).2 hl]

/-- R76: some field of a template write is out of range. -/
def FieldOutOfRange (cls : Coded DisplayClass) (planes : Nat) (f : RawField) : Prop :=
  f.source = none ∨ f.orientation = none ∨ f.alignment = none ∨ f.plane = none ∨ 3 < f.font ∨ f.xEnd < f.xStart ∨
    f.yEnd < f.yStart ∨ (f.plane = some .accent ∧ planes = 1) ∨
    ∃ c, cls = some c ∧ (classWidth c ≤ f.xEnd ∨ classHeight c ≤ f.yEnd)

theorem FieldInRange.not_out {cls : DisplayClass} {planes : Nat} {f : RawField} {g : TemplateField}
    (h : FieldInRange cls planes f g) : ¬ FieldOutOfRange (some cls) planes f := by
  obtain ⟨rfl, hx, hy, hw, hh, hplane⟩ := h
  have hfont := g.font.isLt
  rintro (hout | hout | hout | hout | hout | hout | hout | ⟨hout, hone⟩ | ⟨c, hc, hout⟩)
  · cases hout
  · cases hout
  · cases hout
  · cases hout
  · exact absurd hout (by dsimp only; omega)
  · exact absurd hout (by dsimp only; omega)
  · exact absurd hout (by dsimp only; omega)
  · exact hplane ⟨Option.some.inj hout, hone⟩
  · cases hc
    dsimp only at hout
    omega

theorem checkTemplate_undefined {w : TemplateWrite} (h : w.fields = []) : checkTemplate w = some none := by
  simp [checkTemplate, h]

/-- R76: what a template write with fields is in range for. -/
theorem checkTemplate_some {w : TemplateWrite} {d : Option Template} (hf : w.fields ≠ []) (h : checkTemplate w = some d) :
    ∃ cls gs, w.cls = some cls ∧ (w.planes = 1 ∨ w.planes = 2) ∧ w.fields.length ≤ 12 ∧
      checkFields cls w.planes w.fields = some gs ∧ d = some (Template.mk cls w.planes gs) := by
  unfold checkTemplate at h
  rw [if_neg (by simpa using hf)] at h
  split at h
  · next cls hcls =>
    split at h
    · next hall =>
      simp only [Bool.and_eq_true, Bool.or_eq_true, decide_eq_true_eq] at hall
      obtain ⟨gs, hgs, rfl⟩ := Option.map_eq_some_iff.1 h
      exact ⟨cls, gs, hcls, hall.1, hall.2, hgs, rfl⟩
    · cases h
  · cases h

theorem checkTemplate_defined {w : TemplateWrite} {cls : DisplayClass} {gs : List TemplateField} (hf : w.fields ≠ [])
    (hc : w.cls = some cls) (hp : w.planes = 1 ∨ w.planes = 2) (hlen : w.fields.length ≤ 12)
    (hgs : checkFields cls w.planes w.fields = some gs) :
    checkTemplate w = some (some (Template.mk cls w.planes gs)) := by
  simp [checkTemplate, hf, hc, hp, hlen, hgs]

theorem checkTemplate_none {w : TemplateWrite} (hf : w.fields ≠ []) (h : 12 < w.fields.length ∨ w.cls = none ∨
    (w.planes ≠ 1 ∧ w.planes ≠ 2) ∨ ∃ f ∈ w.fields, FieldOutOfRange w.cls w.planes f) : checkTemplate w = none := by
  rw [Option.eq_none_iff_forall_ne_some]
  intro d hd
  obtain ⟨cls, gs, hc, hp, hlen, hgs, -⟩ := checkTemplate_some hf hd
  rcases h with h | h | h | ⟨f, hmem, hout⟩
  · omega
  · rw [hc] at h
    cases h
  · omega
  · rw [hc] at hout
    obtain ⟨k, hk, rfl⟩ := List.mem_iff_getElem.1 hmem
    have hall := (checkFields_iff _ _ _ _).1 hgs
    exact ((List.forall₂_iff_get.1 hall).2 k hk (hall.length_eq ▸ hk)).not_out hout

/-- R76: the labels bound with template `t` have the display class of `d`, and there are none where it is UNDEFINED. -/
theorem templateServes_iff (b : Block) (t : Nat) (d : Option Template) : templateServes b t d = true ↔
    ∀ p ∈ b.labels.table, p.2.template = some t → ∃ x, d = some x ∧ x.cls = p.2.cls := by
  simp only [templateServes, List.all_eq_true, Bool.or_eq_true, decide_eq_true_eq, ← imp_iff_not_or]
  refine forall_congr' fun p => forall_congr' fun _ => imp_congr_right fun _ => ?_
  cases d <;> simp

theorem templateServes_false {id t : Nat} {l : Label} {d : Option Template} (hl : getLabel b id = some l)
    (ht : l.template = some t) (hd : ∀ x, d = some x → x.cls ≠ l.cls) : templateServes b t d = false := by
  rw [Bool.eq_false_iff]
  intro h
  obtain ⟨x, hx, hcls⟩ := (templateServes_iff b t d).1 h (id, l) (mem_of_tableFind hl) ht
  exact hd x hx hcls

theorem writeTemplates_outside {w : TemplateWrite} (h : 32 ≤ n) :
    writeAt .templates n (.template w) b = (b, some .fieldRange) := dif_neg (not_lt.2 h)

theorem writeTemplates_inside (t : Fin 32) (w : TemplateWrite) :
    writeAt .templates t.val (.template w) b = applyTemplateWrite t w b := dif_pos t.isLt

theorem applyTemplateWrite_refused {t : Fin 32} {w : TemplateWrite} (h : checkTemplate w = none) :
    applyTemplateWrite t w b = (b, some .fieldRange) := by
  simp [applyTemplateWrite, h]

theorem applyTemplateWrite_bound {t : Fin 32} {w : TemplateWrite} {d : Option Template} (h : checkTemplate w = some d)
    (hs : templateServes b t.val d = false) : applyTemplateWrite t w b = (b, some .fieldRange) := by
  simp [applyTemplateWrite, h, hs]

theorem applyTemplateWrite_accepted {t : Fin 32} {w : TemplateWrite} {d : Option Template} (h : checkTemplate w = some d)
    (hs : templateServes b t.val d = true) : applyTemplateWrite t w b = ({ b with
      composer := { b.composer with templates := b.composer.templates.set t.val d t.isLt }
      labels := { b.labels with templateHandoffs := b.labels.templateHandoffs ++ [t.val] } }, none) := by
  simp [applyTemplateWrite, h, hs]

/-- R76: a template write with fields whose class no label bound with the template has is refused. -/
theorem applyTemplateWrite_otherClass {t : Fin 32} {w : TemplateWrite} {id : Nat} {l : Label} {c : DisplayClass}
    (hf : w.fields ≠ []) (hl : getLabel b id = some l) (ht : l.template = some t.val) (hc : w.cls = some c)
    (hne : c ≠ l.cls) : applyTemplateWrite t w b = (b, some .fieldRange) := by
  cases hd : checkTemplate w with
  | none => exact applyTemplateWrite_refused hd
  | some d =>
    obtain ⟨cls, gs, hcls, -, -, -, rfl⟩ := checkTemplate_some hf hd
    cases hc.symm.trans hcls
    refine applyTemplateWrite_bound hd (templateServes_false hl ht fun x hx => ?_)
    cases hx
    exact hne

/-! ## Fonts and glyphs (R78, R89) -/

theorem writeFont_refused {height : Nat} (h : 4 ≤ n ∨ height < 8 ∨ 48 < height) :
    writeAt .glyphs n (.font height) b = (b, some .fieldRange) := by
  simp only [writeAt, writeGlyphs]
  split
  · have hout : ¬ within 8 48 height = true := by
      rw [within_iff]
      omega
    exact if_neg hout
  · rfl

theorem writeFont_accepted (x : Fin 4) {height : Nat} (h8 : 8 ≤ height) (h48 : height ≤ 48) :
    writeAt .glyphs x.val (.font height) b = ({ b with composer := { b.composer with
      fonts := b.composer.fonts.set x.val height x.isLt, style := [] } }, none) := by
  simp only [writeAt, writeGlyphs, x.isLt, dif_pos]
  exact if_pos ((within_iff _ _ _).2 ⟨h8, h48⟩)

theorem checkGlyph_iff (w : GlyphWrite) (g : Glyph) : checkGlyph w = some g ↔ 1 ≤ w.width ∧ w.width ≤ 32 ∧
    w.pattern.length = 48 ∧ (∀ row ∈ w.pattern, row.length = w.width) ∧ g = Glyph.mk w.width w.pattern := by
  simp only [checkGlyph, Option.ite_none_right_eq_some, Bool.and_eq_true, within_iff, decide_eq_true_eq,
    List.all_eq_true, Option.some.injEq, and_assoc, @eq_comm _ g]

theorem checkGlyph_none {w : GlyphWrite} (h : w.width = 0 ∨ 32 < w.width ∨ w.pattern.length ≠ 48 ∨
    ∃ row ∈ w.pattern, row.length ≠ w.width) : checkGlyph w = none := by
  rw [Option.eq_none_iff_forall_ne_some]
  intro g hg
  obtain ⟨h1, h32, hrows, hcols, -⟩ := (checkGlyph_iff w g).1 hg
  rcases h with h | h | h | ⟨row, hrow, h⟩
  · omega
  · omega
  · exact h hrows
  · exact h (hcols row hrow)

theorem writeGlyph_refused {w : GlyphWrite} (h : n < 4 ∨ 387 < n ∨ checkGlyph w = none) :
    writeAt .glyphs n (.glyph w) b = (b, some .fieldRange) := by
  simp only [writeAt, writeGlyphs]
  split
  · have hnone : checkGlyph w = none := by
      rcases h with h | h | h
      · omega
      · omega
      · exact h
    simp [applyGlyphWrite, hnone]
  · rfl

theorem writeGlyph_accepted (x : Fin 384) {w : GlyphWrite} {g : Glyph} (h : checkGlyph w = some g) :
    writeAt .glyphs (4 + x.val) (.glyph w) b = ({ b with composer := { b.composer with
      glyphs := b.composer.glyphs.set x.val g x.isLt, style := [] } }, none) := by
  have hx : 4 ≤ 4 + x.val ∧ 4 + x.val - 4 < 384 := by omega
  have hfin : (⟨4 + x.val - 4, hx.2⟩ : Fin 384) = x := Fin.ext (Nat.add_sub_cancel_left ..)
  have hwrite : writeAt .glyphs (4 + x.val) (.glyph w) b = applyGlyphWrite ⟨4 + x.val - 4, hx.2⟩ w b := dif_pos hx
  rw [hwrite, hfin, applyGlyphWrite]
  simp only [h]
  rfl

/-! ## Radio settings (R92) -/

theorem writeRadio_readOnly (r : WriteRecord) (h : 1 ≤ n) : writeAt .radioSettings n r b = (b, some .readOnly) :=
  if_neg (by omega)

theorem writeRadio_refused {w : RadioSettingsWrite} (h : 15 < w.channel ∨ w.tradingBudget = 0 ∨ 96 < w.tradingBudget ∨
    w.closedBudget = 0 ∨ 96 < w.closedBudget ∨ w.retryLimit = 0 ∨ 8 < w.retryLimit) :
    writeAt .radioSettings 0 (.radioSettings w) b = (b, some .fieldRange) := by
  have hnone : checkRadioSettings w = none := by
    refine if_neg ?_
    simp only [Bool.and_eq_true, within_iff]
    omega
  simp [writeAt, writeRadio, applyRadioSettings, hnone]

theorem writeRadio_accepted {w : RadioSettingsWrite} (hc : w.channel ≤ 15)
    (ht : 1 ≤ w.tradingBudget ∧ w.tradingBudget ≤ 96) (hk : 1 ≤ w.closedBudget ∧ w.closedBudget ≤ 96)
    (hr : 1 ≤ w.retryLimit ∧ w.retryLimit ≤ 8) : writeAt .radioSettings 0 (.radioSettings w) b =
      ({ b with radio := { b.radio with
        settings := RadioSettings.mk w.channel w.tradingBudget w.closedBudget w.retryLimit } }, none) := by
  have hsome : checkRadioSettings w =
      some (RadioSettings.mk w.channel w.tradingBudget w.closedBudget w.retryLimit) := by
    refine if_pos ?_
    simp only [Bool.and_eq_true, within_iff]
    omega
  simp [writeAt, writeRadio, applyRadioSettings, hsome]

/-! ## The guest profile (R144) -/

theorem writeGuest_readOnly (r : WriteRecord) (h : 1 ≤ n) : writeAt .guestProfile n r b = (b, some .readOnly) :=
  if_neg (by omega)

theorem writeGuest_refused {w : GuestProfileWrite} (h : w.quotaMiB = 0 ∨ 4096 < w.quotaMiB ∨ w.timeLimit < 300 ∨
    86400 < w.timeLimit ∨ w.idleLimit < 60 ∨ 3600 < w.idleLimit ∨ 86400 < w.cooldown ∨ w.rateCap < 64 ∨
    20480 < w.rateCap ∨ w.maximum < 64 ∨ 8192 < w.maximum) :
    writeAt .guestProfile 0 (.guestProfile w) b = (b, some .fieldRange) := by
  have hnone : checkGuestProfile w = none := by
    refine if_neg ?_
    simp only [Bool.and_eq_true, within_iff]
    omega
  simp [writeAt, writeGuest, applyGuestProfile, hnone]

theorem writeGuest_accepted {w : GuestProfileWrite} (hq : 1 ≤ w.quotaMiB ∧ w.quotaMiB ≤ 4096)
    (ht : 300 ≤ w.timeLimit ∧ w.timeLimit ≤ 86400) (hi : 60 ≤ w.idleLimit ∧ w.idleLimit ≤ 3600)
    (hc : w.cooldown ≤ 86400) (hr : 64 ≤ w.rateCap ∧ w.rateCap ≤ 20480) (hm : 64 ≤ w.maximum ∧ w.maximum ≤ 8192) :
    writeAt .guestProfile 0 (.guestProfile w) b = (setProfile (GuestProfile.mk w.quotaMiB w.timeLimit w.idleLimit
      w.cooldown w.rateCap w.maximum) b, none) := by
  have hsome : checkGuestProfile w = some (GuestProfile.mk w.quotaMiB w.timeLimit w.idleLimit w.cooldown w.rateCap
      w.maximum) := by
    refine if_pos ?_
    simp only [Bool.and_eq_true, within_iff]
    omega
  simp [writeAt, writeGuest, applyGuestProfile, hsome]

/-- In a table whose keys rise, a record under `k` is what is kept of the one that was there. -/
theorem tableFind_filterMap {α : Type} {t : Table α} (f : α → Option α) (k : Nat) (hs : tableSorted t) :
    tableFind (t.filterMap (fun p => (f p.2).map (fun x => (p.1, x)))) k = (tableFind t k).bind f := by
  induction t with
  | nil => rfl
  | cons p rest ih =>
    obtain ⟨j, v⟩ := p
    simp only [tableSorted, List.map_cons, List.pairwise_cons] at hs
    have hrest := ih hs.2
    by_cases hj : j = k
    · subst hj
      have habsent : tableFind rest j = none := by
        rw [Option.eq_none_iff_forall_ne_some]
        intro x hx
        exact absurd (hs.1 j (List.mem_map_of_mem (f := Prod.fst) (mem_of_tableFind hx))) (lt_irrefl j)
      rw [habsent, Option.bind_none] at hrest
      cases hv : f v <;> simp [tableFind, hv, hrest]
    · cases hv : f v <;> simp [tableFind, hv, hj, hrest]

theorem getSession_setProfile (g : GuestProfile) (hs : tableSorted b.guest.sessions) (hw : HwAddr) :
    getSession (setProfile g b) hw = (getSession b hw).bind (sessionUnder b.time.now g) :=
  tableFind_filterMap _ _ hs

section SessionUnder

variable {now : Nat} {g : GuestProfile} {x : Session}

/-- R144: a session older than the time limit goes into its cooldown, or away. -/
theorem sessionUnder_overTime (hs : x.state ≠ .cooldown) (ht : g.timeLimit * 1000 ≤ now - x.start) :
    sessionUnder now g x = if g.cooldown = 0 then none
      else some { x with state := .cooldown, cooldownStart := some now } := by
  have hover := (overTime_iff now g x).2 ht
  cases hx : x.state with
  | active => simp [sessionUnder, hx, hover]
  | exhausted => simp [sessionUnder, hx, hover]
  | cooldown => exact absurd hx hs

theorem overTime_false (ht : now - x.start < g.timeLimit * 1000) : overTime now g x = false := by
  rw [Bool.eq_false_iff, ne_eq, overTime_iff]
  omega

/-- R144: an ACTIVE session idle for the idle limit is removed. -/
theorem sessionUnder_overIdle (hs : x.state = .active) (ht : now - x.start < g.timeLimit * 1000)
    (hi : g.idleLimit * 1000 ≤ now - x.lastTraffic) : sessionUnder now g x = none := by
  simp [sessionUnder, hs, overTime_false ht, (overIdle_iff now g x).2 hi]

/-- R144: any other ACTIVE session stays, EXHAUSTED where it has used the quota. -/
theorem sessionUnder_active (hs : x.state = .active) (ht : now - x.start < g.timeLimit * 1000)
    (hi : now - x.lastTraffic < g.idleLimit * 1000) : sessionUnder now g x =
      some (if g.quotaMiB * 1048576 ≤ x.used then { x with state := .exhausted } else x) := by
  have hidle : overIdle now g x = false := by
    rw [Bool.eq_false_iff, ne_eq, overIdle_iff]
    omega
  simp only [sessionUnder, hs, overTime_false ht, hidle, quotaBytes, Bool.false_eq_true, if_false]
  exact (apply_ite some _ _ _).symm

theorem sessionUnder_exhausted (hs : x.state = .exhausted) (ht : now - x.start < g.timeLimit * 1000) :
    sessionUnder now g x = some x := by
  simp [sessionUnder, hs, overTime_false ht]

theorem sessionUnder_cooldown {start : Nat} (hs : x.state = .cooldown) (hc : x.cooldownStart = some start) :
    sessionUnder now g x = if g.cooldown * 1000 ≤ now - start then none else some x := by
  have hover : overCooldown now g x = true ↔ g.cooldown * 1000 ≤ now - start := by
    rw [overCooldown_iff, hc]
    rfl
  simp only [sessionUnder, hs, hover]

end SessionUnder

/-- Settles O57, record by record. -/
theorem priceImageRadioAndGuestRecordsAreWritten : Obligations.PriceImageRadioAndGuestRecordsAreWritten := by
  unfold Obligations.PriceImageRadioAndGuestRecordsAreWritten
  refine ⟨fun n r s => ⟨?priceRefused, ?price⟩,
    fun n r s => ⟨fun hn => exec_of_event rfl (writeTemplates_outside hn), ?template⟩,
    fun n height s => ⟨fun h => exec_of_event rfl (writeFont_refused h), ?font⟩,
    fun n r s => ⟨?glyphRefused, ?glyph⟩,
    fun n r s => ⟨fun hn => exec_of_event rfl (writeRadio_readOnly _ hn), ?radio⟩,
    fun n r s => ⟨fun hn => exec_of_event rfl (writeGuest_readOnly _ hn), ?guest⟩⟩
  case priceRefused =>
    intro h
    exact exec_of_event rfl (writePriceSettings_refused (h.imp_right checkPriceSettings_none))
  case price =>
    rintro a f z u mark p rfl ha hf hz hu hm hd hg hp
    exact exec_of_event rfl (writePriceSettings_accepted
      ((checkPriceSettings_iff r p).2 ⟨a, f, z, u, mark, ⟨ha, hf, hz, hu, hm⟩, hd, hg, hp⟩))
  case template =>
    rintro t rfl
    have hexec {c : Block} {v : Verdict} (h : applyTemplateWrite t r s.block = (c, v)) :
        exec (.templateWrite (.event t.val) r) s = s.reports v c :=
      exec_of_event rfl ((writeTemplates_inside t r).trans h)
    refine ⟨fun hf => ?undefined, fun hf => ?defined⟩
    case undefined =>
      have hcheck := checkTemplate_undefined hf
      refine ⟨?_, fun hno => hexec (applyTemplateWrite_accepted hcheck ((templateServes_iff _ _ _).2 ?_))⟩
      · rintro ⟨id, l, hl, ht⟩
        exact hexec (applyTemplateWrite_bound hcheck (templateServes_false hl ht fun x hx => nomatch hx))
      · exact fun p hp ht => absurd ht (hno p hp)
    case defined =>
      refine ⟨fun h => hexec ?_, fun c fs hlen hc hp hraw hin hcls => hexec ?_⟩
      · rcases h with h | h | h | h | ⟨id, l, c, hl, ht, hc, hne⟩
        · exact applyTemplateWrite_refused (checkTemplate_none hf (.inl h))
        · exact applyTemplateWrite_refused (checkTemplate_none hf (.inr (.inl h)))
        · exact applyTemplateWrite_refused (checkTemplate_none hf (.inr (.inr (.inl h))))
        · exact applyTemplateWrite_refused (checkTemplate_none hf (.inr (.inr (.inr h))))
        · exact applyTemplateWrite_otherClass hf hl ht hc hne
      · have hfields : checkFields c r.planes r.fields = some fs := by
          rw [checkFields_iff, hraw, List.forall₂_map_left_iff, List.forall₂_same]
          intro f hmem
          obtain ⟨hx, hy, hw, hh, haccent⟩ := hin f hmem
          exact ⟨rfl, hx, hy, hw, hh, fun ⟨hplane, hone⟩ => by have := haccent hplane; omega⟩
        refine applyTemplateWrite_accepted (checkTemplate_defined hf hc hp hlen hfields)
          ((templateServes_iff _ _ _).2 fun p hp ht => ⟨_, rfl, (hcls p hp ht).symm⟩)
  case font =>
    rintro x rfl h8 h48
    exact exec_of_event rfl (writeFont_accepted x h8 h48)
  case glyphRefused =>
    intro h
    exact exec_of_event rfl (writeGlyph_refused (h.imp_right (Or.imp_right checkGlyph_none)))
  case glyph =>
    rintro f c x - - - rfl h1 h32 hrows hcols
    exact exec_of_event rfl (writeGlyph_accepted x ((checkGlyph_iff r _).2 ⟨h1, h32, hrows, hcols, rfl⟩))
  case radio =>
    rintro rfl
    exact ⟨fun h => exec_of_event rfl (writeRadio_refused h), fun hc h1 h2 h3 h4 h5 h6 =>
      exec_of_event rfl (writeRadio_accepted hc ⟨h1, h2⟩ ⟨h3, h4⟩ ⟨h5, h6⟩)⟩
  case guest =>
    rintro rfl
    refine ⟨fun h => exec_of_event rfl (writeGuest_refused h),
      fun hq1 hq2 ht1 ht2 hi1 hi2 hc hr1 hr2 hm1 hm2 hsorted => ⟨_, exec_of_event rfl (writeGuest_accepted ⟨hq1, hq2⟩
        ⟨ht1, ht2⟩ ⟨hi1, hi2⟩ hc ⟨hr1, hr2⟩ ⟨hm1, hm2⟩), Touches.setProfile _ (.refl _ _) (by decide), rfl,
        fun hw => ?_⟩⟩
    rw [getSession_setProfile _ hsorted]
    refine ⟨fun hn => by rw [hn]; rfl, fun x age idle hx hage hidle => ?_⟩
    subst hage hidle
    rw [hx, Option.bind_some]
    generalize hg : GuestProfile.mk r.quotaMiB r.timeLimit r.idleLimit r.cooldown r.rateCap r.maximum = g
    obtain ⟨hquota, htime, hidle, hcooldown⟩ : r.quotaMiB = g.quotaMiB ∧ r.timeLimit = g.timeLimit ∧
        r.idleLimit = g.idleLimit ∧ r.cooldown = g.cooldown := by subst hg; exact ⟨rfl, rfl, rfl, rfl⟩
    rw [hquota, htime, hidle, hcooldown]
    exact ⟨sessionUnder_overTime, fun hs ht => ⟨sessionUnder_overIdle hs ht, sessionUnder_active hs ht⟩,
      sessionUnder_exhausted, fun start => sessionUnder_cooldown⟩

end OwnersRecords

end Sys2Proof.Machine

namespace Sys2Proof.Machine

/-! # Images: texts laid out, the window cursor, drawing and run coding (R29, R79 to R82, R85) -/

section Images

/-! ## A line that fits (R80) -/

/-- R80: of at most `n` leading glyphs the line keeps the longest run that fits. -/
theorem fitFrom_spec (gs : List Glyph) (extent n : Nat) : ∃ m, m ≤ n ∧ fitFrom gs extent n = gs.take m ∧
    lineWidth (gs.take m) ≤ extent ∧ ∀ k, m < k → k ≤ n → extent < lineWidth (gs.take k) := by
  induction n with
  | zero => exact ⟨0, le_rfl, rfl, Nat.zero_le _, fun k h1 h2 => by omega⟩
  | succ n ih =>
    by_cases h : lineWidth (gs.take (n + 1)) ≤ extent
    · exact ⟨n + 1, le_rfl, if_pos h, h, fun k h1 h2 => by omega⟩
    · obtain ⟨m, hm, heq, hfit, hlong⟩ := ih
      refine ⟨m, by omega, (if_neg h).trans heq, hfit, fun k h1 h2 => ?_⟩
      rcases Nat.lt_or_ge n k with hk | hk
      · obtain rfl : k = n + 1 := by omega
        omega
      · exact hlong k h1 hk

/-! ## The window cursor (R81) -/

theorem cursorPosition_inside {f : TemplateField} {x y : Nat} (hx0 : f.xStart ≤ x) (hx1 : x ≤ f.xEnd)
    (hy0 : f.yStart ≤ y) (hy1 : y ≤ f.yEnd) : (cursorPosition f x y).1 < fastExtent f ∧
      (cursorPosition f x y).2 < slowExtent f ∧
      cursorPixel f (cursorPosition f x y).1 (cursorPosition f x y).2 = (x, y) := by
  unfold cursorPosition fastExtent slowExtent cursorPixel
  cases f.orientation <;> simp only [Prod.mk.injEq] <;> omega

theorem cursorPixel_inside {f : TemplateField} {i j : Nat} (hx : f.xStart ≤ f.xEnd) (hy : f.yStart ≤ f.yEnd)
    (hi : i < fastExtent f) (hj : j < slowExtent f) : f.xStart ≤ (cursorPixel f i j).1 ∧ (cursorPixel f i j).1 ≤ f.xEnd ∧
      f.yStart ≤ (cursorPixel f i j).2 ∧ (cursorPixel f i j).2 ≤ f.yEnd ∧
      cursorPosition f (cursorPixel f i j).1 (cursorPixel f i j).2 = (i, j) := by
  unfold fastExtent at hi
  unfold slowExtent at hj
  unfold cursorPosition cursorPixel
  cases ho : f.orientation <;> simp only [ho] at hi hj <;> simp only [Prod.mk.injEq] <;> omega

/-! ## Runs (R85) -/

theorem runByte_toNat (v : Bool) {n : Nat} (hn : n ≤ 128) :
    (runByte v n).toNat = (if v then 128 else 0) + (n - 1) := by
  simp only [runByte, BitVec.toNat_ofNat]
  split <;> omega

theorem runByte_value (v : Bool) {n : Nat} (hn : n ≤ 128) : 128 ≤ (runByte v n).toNat ↔ v = true := by
  rw [runByte_toNat v hn]
  cases v
  · simp only [Bool.false_eq_true, if_false, iff_false]
    omega
  · simp

theorem runByte_length (v : Bool) {n : Nat} (hn : n ≤ 128) : (runByte v n).toNat % 128 = n - 1 := by
  rw [runByte_toNat v hn]
  split <;> omega

theorem expandRuns_cons (x : Byte) (l : List Byte) : expandRuns (x :: l) =
    List.replicate (x.toNat % 128 + 1) (decide (128 ≤ x.toNat)) ++ expandRuns l := rfl

theorem expandRuns_runByte (v : Bool) {n : Nat} (h1 : 1 ≤ n) (hn : n ≤ 128) (l : List Byte) :
    expandRuns (runByte v n :: l) = List.replicate n v ++ expandRuns l := by
  rw [expandRuns_cons, runByte_length v hn, Nat.sub_add_cancel h1]
  simp only [runByte_value v hn, Bool.decide_eq_true]

/-- R85: the runs from a pixel on stand for the pixels before it and those that follow. -/
theorem expandRuns_codeFrom (v : Bool) {n : Nat} (h1 : 1 ≤ n) (hn : n ≤ 128) (l : List Bool) :
    expandRuns (codeFrom v n l) = List.replicate n v ++ l := by
  induction l generalizing v n with
  | nil => exact expandRuns_runByte v h1 hn []
  | cons p rest ih =>
    unfold codeFrom
    split
    · next h =>
      obtain ⟨rfl, hlt⟩ := h
      rw [ih p (by omega) hlt, List.replicate_succ', List.append_assoc, List.singleton_append]
    · rw [expandRuns_runByte v h1 hn, ih p le_rfl (by omega)]
      rfl

theorem expandRuns_codeRuns (l : List Bool) : expandRuns (codeRuns l) = l := by
  cases l with
  | nil => rfl
  | cons p rest => exact expandRuns_codeFrom p le_rfl (by omega) rest

/-- A run byte stands for 1 to 128 pixels. -/
theorem expandRuns_length (l : List Byte) :
    l.length ≤ (expandRuns l).length ∧ (expandRuns l).length ≤ 128 * l.length := by
  induction l with
  | nil => simp [expandRuns]
  | cons x l ih =>
    rw [expandRuns_cons, List.length_append, List.length_replicate, List.length_cons]
    omega

/-- R85: the first run holds the pixel the coding stands on. -/
theorem codeFrom_head (v : Bool) {n : Nat} (hn : n ≤ 128) (l : List Bool) :
    ∃ m, m ≤ 128 ∧ (codeFrom v n l)[0]? = some (runByte v m) := by
  induction l generalizing n with
  | nil => exact ⟨n, hn, rfl⟩
  | cons p rest ih =>
    unfold codeFrom
    split
    · next h => exact ih h.2
    · exact ⟨n, hn, rfl⟩

/-- R85: two runs in a row of one value are two only where the first is full. -/
theorem codeFrom_full (v : Bool) {n : Nat} (hn : n ≤ 128) (l : List Bool) {i : Nat} {x y : Byte}
    (hx : (codeFrom v n l)[i]? = some x) (hy : (codeFrom v n l)[i + 1]? = some y)
    (hxy : 128 ≤ x.toNat ↔ 128 ≤ y.toNat) : x.toNat % 128 = 127 := by
  induction l generalizing v n i with
  | nil => simp [codeFrom] at hy
  | cons p rest ih =>
    unfold codeFrom at hx hy
    split at hx
    · next h =>
      rw [if_pos h] at hy
      exact ih v h.2 hx hy
    · next h =>
      rw [if_neg h, List.getElem?_cons_succ] at hy
      cases i with
      | succ i => exact ih p (by omega) hx hy
      | zero =>
        obtain ⟨m, hm, hhead⟩ := codeFrom_head p (n := 1) (by omega) rest
        cases hx
        cases hhead.symm.trans hy
        rw [runByte_value v hn, runByte_value p hm, ← Bool.eq_iff_iff] at hxy
        rw [runByte_length v hn]
        have hfull : ¬ n < 128 := fun hlt => h ⟨hxy.symm, hlt⟩
        omega

theorem codeRuns_full (l : List Bool) {i : Nat} {x y : Byte} (hx : (codeRuns l)[i]? = some x)
    (hy : (codeRuns l)[i + 1]? = some y) (hxy : 128 ≤ x.toNat ↔ 128 ≤ y.toNat) : x.toNat % 128 = 127 := by
  cases l with
  | nil => simp [codeRuns] at hx
  | cons p rest => exact codeFrom_full p (by omega) rest hx hy hxy

/-! ## Texts laid out (R79, R80) -/

theorem glyphOf_eq {c : ComposerBlock} {font : Fin 4} {ch : Nat} {g : Glyph} (h32 : 32 ≤ ch) (h127 : ch ≤ 127)
    (hg : c.glyphs.toList[96 * font.val + (ch - 32)]? = some g) : glyphOf c font ch = g := by
  have hlt : ch - 32 < 96 := by omega
  have hfont := font.isLt
  rw [Vector.getElem?_toList, Nat.mul_comm, Vector.getElem?_eq_getElem (by omega), Option.some.injEq] at hg
  rw [glyphOf, dif_pos hlt]
  exact hg

/-- R78, R80: the glyphs of a text, character by character. -/
theorem map_glyphOf_eq {c : ComposerBlock} {font : Fin 4} {text : Text} {gs : List Glyph} (hlen : gs.length = text.length)
    (h : ∀ (k ch : Nat) (g : Glyph), text[k]? = some ch → gs[k]? = some g →
      32 ≤ ch ∧ ch ≤ 127 ∧ c.glyphs.toList[96 * font.val + (ch - 32)]? = some g) : text.map (glyphOf c font) = gs := by
  refine List.ext_getElem (by rw [List.length_map, hlen]) fun k hk hk' => ?_
  rw [List.length_map] at hk
  obtain ⟨h32, h127, hg⟩ := h k _ _ (List.getElem?_eq_getElem hk) (List.getElem?_eq_getElem hk')
  rw [List.getElem_map, glyphOf_eq h32 h127 hg]

/-! ## Pixels (R80 to R82) -/

/-- R80: a column within glyph `n` of a line shows that glyph's pixel. -/
theorem linePixel_glyph {gs : List Glyph} {n col : Nat} {g : Glyph} (row : Nat) (hg : gs[n]? = some g)
    (hcol : col < g.width) : linePixel gs row (((gs.take n).map Glyph.width).sum + n + col) = glyphPixel g row col := by
  induction gs generalizing n with
  | nil => simp at hg
  | cons a rest ih =>
    cases n with
    | zero =>
      cases hg
      simp [linePixel, hcol]
    | succ n =>
      have hskip : a.width + ((rest.take n).map Glyph.width).sum + (n + 1) + col - a.width - 1 =
          ((rest.take n).map Glyph.width).sum + n + col := by omega
      rw [List.take_succ_cons, List.map_cons, List.sum_cons, linePixel, if_neg (by omega), if_neg (by omega), hskip]
      exact ih hg

/-- R80: the column behind a glyph that another one follows is clear. -/
theorem linePixel_gap {gs : List Glyph} {n : Nat} (row : Nat) (hn : n + 1 < gs.length) :
    linePixel gs row (((gs.take (n + 1)).map Glyph.width).sum + n) = false := by
  induction gs generalizing n with
  | nil => simp at hn
  | cons a rest ih =>
    cases n with
    | zero => simp [linePixel]
    | succ n =>
      have hskip : a.width + ((rest.take (n + 1)).map Glyph.width).sum + (n + 1) - a.width - 1 =
          ((rest.take (n + 1)).map Glyph.width).sum + n := by omega
      rw [List.take_succ_cons, List.map_cons, List.sum_cons, linePixel, if_neg (by omega), if_neg (by omega), hskip]
      exact ih (by simpa using hn)

theorem inWindow_iff (f : TemplateField) (x y : Nat) :
    inWindow f x y = true ↔ f.xStart ≤ x ∧ x ≤ f.xEnd ∧ f.yStart ≤ y ∧ y ≤ f.yEnd := by
  simp [inWindow, and_assoc]

/-- R81: a field writes nothing outside its window, with an empty line, or below its font's height. -/
theorem fieldWrites_none {l : LaidField} {x y : Nat} (h : x < l.field.xStart ∨ l.field.xEnd < x ∨ y < l.field.yStart ∨
    l.field.yEnd < y ∨ l.line = [] ∨ l.height ≤ (cursorPosition l.field x y).2) : fieldWrites l x y = none := by
  refine if_neg ?_
  simp only [Bool.and_eq_true, Bool.not_eq_true', inWindow_iff, List.isEmpty_eq_false_iff, decide_eq_true_eq]
  rintro ⟨⟨hwindow, hline⟩, hheight⟩
  rcases h with h | h | h | h | h | h
  · omega
  · omega
  · omega
  · omega
  · exact hline h
  · omega

theorem fieldWrites_some {l : LaidField} {x y : Nat} (hx0 : l.field.xStart ≤ x) (hx1 : x ≤ l.field.xEnd)
    (hy0 : l.field.yStart ≤ y) (hy1 : y ≤ l.field.yEnd) (hline : l.line ≠ [])
    (hj : (cursorPosition l.field x y).2 < l.height) : fieldWrites l x y =
      some (fieldInk l (cursorPosition l.field x y).1 (cursorPosition l.field x y).2) := by
  refine if_pos ?_
  simp only [Bool.and_eq_true, Bool.not_eq_true', inWindow_iff, List.isEmpty_eq_false_iff, decide_eq_true_eq]
  exact ⟨⟨⟨hx0, hx1, hy0, hy1⟩, hline⟩, hj⟩

theorem fieldInk_iff (l : LaidField) (i j : Nat) : fieldInk l i j = true ↔
    l.start ≤ i ∧ i < l.start + l.width ∧ linePixel l.line j (i - l.start) = true := by
  simp [fieldInk, and_assoc]

/-- R82: the last field drawn. -/
theorem imagePixel_append (ls : List LaidField) (l : LaidField) (x y : Nat) :
    imagePixel (ls ++ [l]) x y = drawPixel x y (imagePixel ls x y) l := by
  simp [imagePixel]

theorem drawPixel_none {l : LaidField} {x y : Nat} (p : Pixel) (h : fieldWrites l x y = none) :
    drawPixel x y p l = p := by
  simp [drawPixel, h]

/-- R82: what a field writes stands in its plane and clears the other. -/
theorem drawPixel_some {l : LaidField} {x y : Nat} {ink : Bool} (p : Pixel) (h : fieldWrites l x y = some ink) :
    drawPixel x y p l = Pixel.mk (ink && decide (l.field.plane = .black)) (ink && decide (l.field.plane = .accent)) := by
  cases ink with
  | false => simp [drawPixel, h]
  | true => cases hp : l.field.plane <;> simp [drawPixel, h, hp]

/-! ## A region scanned (R85) -/

theorem rows_length {α : Type} (w m : Nat) (f : Nat → Nat → α) :
    ((List.range m).flatMap (fun r => (List.range w).map (f r))).length = w * m := by
  simp [List.length_flatMap, Nat.mul_comm]

/-- Rows of `w` one after another: position `k` is column `k % w` of row `k / w`. -/
theorem rows_getElem? {α : Type} {w m k : Nat} (f : Nat → Nat → α) (hk : k < w * m) :
    ((List.range m).flatMap (fun r => (List.range w).map (f r)))[k]? = some (f (k / w) (k % w)) := by
  induction m with
  | zero => omega
  | succ m ih =>
    have hw : 0 < w := Nat.pos_of_ne_zero fun h => by simp [h] at hk
    rw [List.range_succ, List.flatMap_append]
    rcases Nat.lt_or_ge k (w * m) with hlt | hge
    · rw [List.getElem?_append_left (by rw [rows_length]; exact hlt), ih hlt]
    · rw [Nat.mul_succ] at hk
      have hcol : k - w * m < w := by omega
      have hdiv : k / w = m :=
        Nat.div_eq_of_lt_le (by rwa [Nat.mul_comm]) (by rwa [Nat.mul_comm, Nat.mul_succ])
      have hmod : k % w = k - w * m := by rw [Nat.mod_eq_sub, hdiv]
      rw [List.getElem?_append_right (by rw [rows_length]; exact hge), rows_length, hdiv, hmod]
      simp [hcol]

/-- Settles O31: the line, the cursor, the runs, the texts, the layout, the pixels of a line, drawing, and scanning. -/
theorem textsAreLaidOutAndPixelsAreCoded : Obligations.TextsAreLaidOutAndPixelsAreCoded := by
  unfold Obligations.TextsAreLaidOutAndPixelsAreCoded
  refine ⟨⟨fun gs extent => fitFrom_spec gs extent gs.length, fun f x y => cursorPosition_inside, ?extents,
    fun f i j => cursorPixel_inside⟩, fun l => ⟨expandRuns_codeRuns l, ?shorter, ?longer, fun i x y => codeRuns_full l⟩,
    fun p code v => ?texts, ?layout, fun gs n row col => ⟨fun g => linePixel_glyph row, linePixel_gap row⟩,
    fun ls l x y i j hij => ?drawing, fun fields plane x0 x1 y0 y1 _ _ => ?region⟩
  case extents =>
    rintro f i j width height rfl rfl
    unfold fastExtent slowExtent cursorPixel
    cases f.orientation <;> rfl
  case shorter =>
    have hlen := (expandRuns_length (codeRuns l)).1
    rwa [expandRuns_codeRuns] at hlen
  case longer =>
    have hlen := (expandRuns_length (codeRuns l)).2
    rw [expandRuns_codeRuns] at hlen
    omega
  case texts =>
    refine ⟨rfl, rfl, rfl, rfl, fun hu => ?_, fun hu => ?_, fun n u hu hunit => ?_, fixedDigits_length 13 code,
      fun c => fixedDigits_digit, fun hcode => ?_⟩
    · simp [fieldText, hu, unitPriceText]
    · rw [fieldText, hu]
      rfl
    · rw [fieldText, hu, unitPriceText, hunit]
      cases u <;> rfl
    · exact (digitsValue_fixedDigits 13 code).trans (Nat.mod_eq_of_lt (by omega))
  case layout =>
    rintro c f text gs laid rfl hlen hglyphs
    have hgs := map_glyphOf_eq hlen hglyphs
    refine ⟨rfl, by rw [← hgs]; rfl, rfl, rfl, ?_, by simp [layField]⟩
    change lineStart f.alignment _ _ = _
    cases f.alignment <;> rfl
  case drawing =>
    obtain rfl : i = (cursorPosition l.field x y).1 := congrArg Prod.fst hij
    obtain rfl : j = (cursorPosition l.field x y).2 := congrArg Prod.snd hij
    refine ⟨rfl, fun hout => ?_, fun hx0 hx1 hy0 hy1 hline hj ink hink => ?_⟩
    · rw [imagePixel_append, drawPixel_none _ (fieldWrites_none hout)]
    · have hwrites := fieldWrites_some hx0 hx1 hy0 hy1 hline hj
      rw [Bool.eq_iff_iff.2 ((fieldInk_iff l _ _).trans hink.symm)] at hwrites
      rw [imagePixel_append, drawPixel_some _ hwrites]
  case region =>
    refine ⟨rows_length _ _ _, fun k hk p hp => ?_⟩
    refine (rows_getElem? _ hk).trans (congrArg some ?_)
    rw [hp]
    cases plane <;> rfl

end Images

end Sys2Proof.Machine

namespace Sys2Proof.Machine

/-! # What a step can do to the keyed tables and the notice queue

Every effect of the part on its item, label and address tables and on its notice queue is a run of a few moves
(`TableMove`). The walk through the model that finds them is done once; an invariant of the tables is then kept by every
step as soon as each move keeps it. The walk carries the rule of the label states (R55, R59) along, since a label selected
for an update (R63) has no in-flight reference only because it is STALE. -/

section TableMoves

/-! ## The moves -/

/-- The item, label and address tables and the notice queue are the same. -/
structure SameTables (b c : Block) : Prop where
  items : c.items.table = b.items.table
  labels : c.labels.table = b.labels.table
  addresses : c.fwd.addresses = b.fwd.addresses
  notices : c.mgmt.notices = b.mgmt.notices

/-- A slot holds the version number and the reference count it held, or has no reference before and after. -/
def RefsAgree (o p : Option Version) : Prop :=
  p.map (fun v => (v.number, v.refs)) = o.map (fun v => (v.number, v.refs)) ∨
    (∀ v, o = some v → v.refs = 0) ∧ ∀ v, p = some v → v.refs = 0

/-- Release references for a list of references. -/
def releaseAll (ws : List RefWhat) (b : Block) : Block := ws.foldl (fun acc w => releaseWhat w acc) b

/-- R132: an address table within its rules stays within them. -/
def AddressesKept (s t : Table AddressEntry) : Prop :=
  tableSorted s → s.length ≤ Config.maxAddresses → tableSorted t ∧ t.length ≤ Config.maxAddresses

/-- One move. `N` is the rule of the label states: it guards only the selection of a label for an update. -/
inductive TableMove (N : Prop) : Block → Block → Prop where
  | same {b c : Block} (h : SameTables b c) : TableMove N b c
  /-- R189: a notice is queued. -/
  | notice (k : NoticeKind) (s : NoticeSubject) (r : Option QualClass) (b : Block) : TableMove N b (noticeWith k s r b)
  /-- R189: entries leave the head of the notice queue. -/
  | notices {b : Block} {q : List NoticeEntry} (h : q <:+ b.mgmt.notices) :
      TableMove N b { b with mgmt := { b.mgmt with notices := q } }
  /-- A label's record changes apart from its references and its item. -/
  | relabel {b : Block} {id : Nat} {l m : Label} (hl : getLabel b id = some l) (hr : labelRefs m = labelRefs l)
      (hi : m.item = l.item) : TableMove N b (putLabel id m b)
  /-- R54: a label is added. -/
  | addLabel {b : Block} {id : Nat} (cls : DisplayClass) (hn : getLabel b id = none)
      (hroom : b.labels.table.length < Config.maxLabels) : TableMove N b (putLabel id (newLabel cls) b)
  /-- R74: presence starts anew at a restart. -/
  | presence (cycle : Nat) (b : Block) : TableMove N b (restartPresence cycle b)
  /-- R45: a label gives references up, and they are released. -/
  | release {b : Block} {id : Nat} {l m : Label} (ws : List RefWhat) (hl : getLabel b id = some l)
      (hr : (labelRefs l).Perm (ws ++ labelRefs m)) (hi : m.item = l.item) :
      TableMove N b (releaseAll ws (putLabel id m b))
  /-- R61: a label gives its binding up. -/
  | unbind {b : Block} {id : Nat} {l : Label} (hl : getLabel b id = some l) :
      TableMove N b (giveUpBinding id none none b)
  /-- R60: a label gives its binding up for an item with room. -/
  | rebind {b : Block} {id code : Nat} {i : Item} {l : Label} (template : Option Nat) (hl : getLabel b id = some l)
      (hne : l.item ≠ some code) (hc : getItem b code = some i) (hroom : i.bound.length < Config.maxBound) :
      TableMove N b (bindToItem code id (giveUpBinding id (some code) template b))
  /-- R63, R65: a label is selected for an update of its target. -/
  | select {b : Block} {id : Nat} {l : Label} {t : Target} (u : Composed) (hl : getLabel b id = some l)
      (hf : N → l.inFlight = none) (ht : targetOf b l = some t) :
      TableMove N b (putLabel id (selectedLabel u t l) (takeTarget t b))
  /-- R39: an item is added, its versions without references. -/
  | newItem {b : Block} {code : Nat} {j : Item} (hn : getItem b code = none)
      (hroom : b.items.table.length < Config.maxItems) (hb : j.bound = [])
      (hr : ∀ k v, slotOf j k = some v → v.refs = 0) : TableMove N b (putItem code j b)
  /-- An item's record changes apart from its bound list and its referenced versions' numbers and counts. -/
  | rewrite {b : Block} {code : Nat} {i j : Item} (hi : getItem b code = some i) (hb : j.bound = i.bound)
      (hs : ∀ k, RefsAgree (slotOf i k) (slotOf j k)) : TableMove N b (putItem code j b)
  /-- R47: an item without bound labels is withdrawn. -/
  | withdraw {b : Block} {code : Nat} {i : Item} (hi : getItem b code = some i) (hb : i.bound = []) :
      TableMove N b { b with items := { b.items with
        table := tableErase b.items.table code
        pending := listRemove b.items.pending code } }
  /-- R132: the address table changes within its rules. -/
  | addresses {b c : Block} (hi : c.items.table = b.items.table) (hl : c.labels.table = b.labels.table)
      (hn : c.mgmt.notices = b.mgmt.notices) (ha : AddressesKept b.fwd.addresses c.fwd.addresses) : TableMove N b c
  /-- R191: a cold restart. -/
  | cold (b : Block) : TableMove N b (coldRestart b)

variable {a b c : Block} {id code : Nat} {l m : Label}

/-- R55, R59: what the label states ask of one label. -/
def StateOk (l : Label) : Prop :=
  (l.queued.isSome = true ↔ l.state = .stale ∨ l.state = .uncertain) ∧
    (l.state = .inFlight ∨ l.state = .uncertain → l.inFlight.isSome = true) ∧
    (l.inFlight.isSome = true → l.state = .inFlight ∨ l.state = .uncertain ∨ l.state = .failed)

/-- `b` is reached from `a` by moves of the tables, and with the label states in order. -/
structure Reached (a b : Block) : Prop where
  moves : Relation.ReflTransGen (TableMove (LabelStates a)) a b
  states : LabelStates a → LabelStates b

/-- The same in the midst of an operation on label `id`, whose record is `l`: the label states are in order again once that
record is. -/
structure OpenAt (id : Nat) (l : Label) (a b : Block) : Prop where
  moves : Relation.ReflTransGen (TableMove (LabelStates a)) a b
  found : getLabel b id = some l
  states : LabelStates a → ∀ m, StateOk m → LabelStates (putLabel id m b)

/-! ## Moves in turn -/

theorem Reached.refl (a : Block) : Reached a a := ⟨.refl, id⟩

theorem Reached.move (h : Reached a b) (t : TableMove (LabelStates a) b c) (hl : c.labels.table = b.labels.table) :
    Reached a c := ⟨h.moves.tail t, fun hs => by unfold LabelStates; rw [hl]; exact h.states hs⟩

theorem Reached.same (h : Reached a b) (s : SameTables b c) : Reached a c := h.move (.same s) s.labels

/-- The parts that hold none of the tables. -/
def tableQuietParts : List Part :=
  [.mode, .price, .composer, .radio, .till, .guest, .line, .exch, .counts, .time, .pins, .out]

theorem sameTables_of_touches (t : Touches tableQuietParts b c) : SameTables b c where
  items := congrArg ItemBlock.table (t .items (by decide)).symm
  labels := congrArg LabelBlock.table (t .labels (by decide)).symm
  addresses := congrArg ForwarderBlock.addresses (t .fwd (by decide)).symm
  notices := congrArg MgmtBlock.notices (t .mgmt (by decide)).symm

theorem Reached.quiet (h : Reached a b) (t : Touches tableQuietParts b c) : Reached a c :=
  h.same (sameTables_of_touches t)

theorem Reached.noticeWith (h : Reached a b) (k : NoticeKind) (s : NoticeSubject) (r : Option QualClass) :
    Reached a (noticeWith k s r b) := h.move (.notice k s r b) rfl

theorem Reached.notice (h : Reached a b) (k : NoticeKind) (s : NoticeSubject) : Reached a (notice k s b) :=
  h.noticeWith k s none

theorem Reached.bump (h : Reached a b) (k : Counter) : Reached a (bump k b) := h.same ⟨rfl, rfl, rfl, rfl⟩

theorem Reached.emit (h : Reached a b) (o : Output) : Reached a (emit o b) := h.same ⟨rfl, rfl, rfl, rfl⟩

theorem Reached.ok (h : Reached a b) (hl : getLabel b id = some l) (hs : LabelStates a) : StateOk l :=
  h.states hs _ (mem_of_tableFind hl)

theorem Reached.openAt (h : Reached a b) (hl : getLabel b id = some l) : OpenAt id l a b where
  moves := h.moves
  found := hl
  states := fun hs m hm p hp => by
    rcases mem_tableInsert hp with rfl | hp
    · exact hm
    · exact h.states hs p hp

/-- A record found in a table stays there when it is put again. -/
theorem mem_tableInsert_found {α : Type} {t : Table α} {k : Nat} {v : α} {p : Nat × α} (h : tableFind t k = some v)
    (hp : p ∈ t) : p ∈ tableInsert t k v := by
  induction t with
  | nil => cases hp
  | cons q rest ih =>
    obtain ⟨j, w⟩ := q
    simp only [tableInsert]
    split
    · exact List.mem_cons_of_mem _ hp
    · split
      · next e =>
        subst e
        simp only [tableFind, if_true, Option.some.injEq] at h
        rwa [← h]
      · next e =>
        simp only [tableFind, Ne.symm e, if_false] at h
        rcases List.mem_cons.1 hp with rfl | hp
        · exact List.mem_cons_self
        · exact List.mem_cons_of_mem _ (ih h hp)

/-- Of two records put under one key the second stays. -/
theorem tableInsert_tableInsert {α : Type} (t : Table α) (k : Nat) (v w : α) :
    tableInsert (tableInsert t k v) k w = tableInsert t k w := by
  induction t with
  | nil => simp [tableInsert]
  | cons q rest ih =>
    obtain ⟨j, x⟩ := q
    by_cases hlt : k < j
    · simp [tableInsert, hlt]
    · by_cases e : k = j
      · simp [tableInsert, e]
      · simp [tableInsert, hlt, e, ih]

theorem OpenAt.close (h : OpenAt id l a b) (hok : LabelStates a → StateOk l) : Reached a b :=
  ⟨h.moves, fun hs p hp => h.states hs l (hok hs) p (mem_tableInsert_found h.found hp)⟩

/-- A move that puts another record of the label, and leaves the rest of the table. -/
theorem OpenAt.move (h : OpenAt id l a b) (t : TableMove (LabelStates a) b c)
    (hl : c.labels.table = tableInsert b.labels.table id m) : OpenAt id m a c where
  moves := h.moves.tail t
  found := by rw [getLabel, hl, tableFind_insert_self]
  states := fun hs x hx => by
    have hput : (putLabel id x c).labels.table = (putLabel id x b).labels.table := by
      simp only [putLabel_labels, hl, tableInsert_tableInsert]
    unfold LabelStates
    rw [hput]
    exact h.states hs x hx

/-- A move that leaves the label table. -/
theorem OpenAt.aside (h : OpenAt id l a b) (t : TableMove (LabelStates a) b c)
    (hl : c.labels.table = b.labels.table) : OpenAt id l a c where
  moves := h.moves.tail t
  found := by rw [getLabel, hl]; exact h.found
  states := fun hs x hx => by
    unfold LabelStates
    rw [putLabel_labels, hl]
    exact h.states hs x hx

theorem OpenAt.same (h : OpenAt id l a b) (s : SameTables b c) : OpenAt id l a c := h.aside (.same s) s.labels

theorem OpenAt.notice (h : OpenAt id l a b) (k : NoticeKind) (s : NoticeSubject) : OpenAt id l a (notice k s b) :=
  h.aside (.notice k s none b) rfl

theorem OpenAt.put (h : OpenAt id l a b) (hr : labelRefs m = labelRefs l) (hi : m.item = l.item) :
    OpenAt id m a (putLabel id m b) := h.move (.relabel h.found hr hi) rfl

/-- What an operation on one label does with its record, from the record it finds. -/
theorem Reached.withLabel (h : Reached a b) {g : Label → Block → Block}
    (hg : ∀ l, getLabel b id = some l → Reached a (g l b)) : Reached a (withLabel id g b) := by
  cases hl : getLabel b id with
  | none => rw [withLabel_of_none hl]; exact h
  | some l => rw [withLabel_of_some hl]; exact hg l hl

/-- Operations that do each what can be reached, in turn. -/
theorem Reached.foldl {α : Type} {f : Block → α → Block} (h : Reached a b) (s : List α)
    (hf : ∀ x d, Reached a d → Reached a (f d x)) : Reached a (s.foldl f b) := by
  induction s generalizing b with
  | nil => exact h
  | cons x rest ih => exact ih (hf x b h)

/-! ## References given up (R36, R65) -/

/-- The confirmed reference of a label, where present. -/
def confirmedRefs (l : Label) : List RefWhat := (l.confirmed.map LabelRef.what).toList

/-- The in-flight reference of a label, where present. -/
def inFlightRefs (l : Label) : List RefWhat := (l.inFlight.map (fun f => f.ref.what)).toList

theorem labelRefs_eq (l : Label) : labelRefs l = confirmedRefs l ++ inFlightRefs l := by
  unfold labelRefs confirmedRefs inFlightRefs
  cases l.confirmed <;> cases l.inFlight <;> rfl

theorem releaseConfirmed_eq (l : Label) (b : Block) : releaseConfirmed l b = releaseAll (confirmedRefs l) b := by
  unfold releaseConfirmed confirmedRefs
  cases l.confirmed <;> rfl

theorem releaseInFlight_eq (l : Label) (b : Block) : releaseInFlight l b = releaseAll (inFlightRefs l) b := by
  unfold releaseInFlight inFlightRefs
  cases l.inFlight <;> rfl

theorem releaseAll_append (ws xs : List RefWhat) (b : Block) :
    releaseAll (ws ++ xs) b = releaseAll xs (releaseAll ws b) := List.foldl_append

/-- Both references of a label released. -/
theorem releaseBoth_eq (l : Label) (b : Block) :
    releaseInFlight l (releaseConfirmed l b) = releaseAll (labelRefs l) b := by
  rw [releaseInFlight_eq, releaseConfirmed_eq, labelRefs_eq, releaseAll_append]

theorem releaseAll_touches (ws : List RefWhat) (b : Block) : Touches [.items] b (releaseAll ws b) :=
  Touches.foldl (fun w _ hd => Touches.releaseWhat w hd (by decide)) ws (.refl _ b)

@[simp] theorem releaseAll_labels (ws : List RefWhat) (b : Block) : (releaseAll ws b).labels = b.labels :=
  ((releaseAll_touches ws b).keeps .labels (by decide)).symm

/-- References released with the record that no longer holds them. -/
theorem OpenAt.release (h : OpenAt id l a b) (ws : List RefWhat) (hr : (labelRefs l).Perm (ws ++ labelRefs m))
    (hi : m.item = l.item) : OpenAt id m a (releaseAll ws (putLabel id m b)) :=
  h.move (.release ws h.found hr hi) (by rw [releaseAll_labels]; rfl)

theorem sameTables_leaveStyleUnconfirmed (id : Nat) (l : Label) (b : Block) :
    SameTables b (leaveStyleUnconfirmed id l b) :=
  sameTables_of_touches (by apply Touches.leaveStyleUnconfirmed id l (.refl _ _); decide)

theorem OpenAt.dropInFlight (h : OpenAt id l a b) :
    OpenAt id { l with inFlight := none, marks := marksRestored l } a (dropInFlight id b) := by
  rw [Machine.dropInFlight, withLabel_of_some h.found, releaseInFlight_eq]
  refine OpenAt.same (h.release _ ?_ rfl) (sameTables_leaveStyleUnconfirmed id l _)
  simp only [labelRefs_eq, inFlightRefs, confirmedRefs, Option.map_none, Option.toList_none, List.append_nil]
  exact List.perm_append_comm

theorem OpenAt.dropBoth (h : OpenAt id l a b) : ∃ m, OpenAt id m a (dropBoth id b) ∧ m.inFlight = none ∧
    m.state = l.state ∧ m.queued = l.queued := by
  rw [Machine.dropBoth, withLabel_of_some h.found, releaseBoth_eq]
  have hreleased : OpenAt id { l with
      inFlight := none, confirmed := none, displayKnown := false,
      marks := { marksRestored l with fullRequired := true } } a _ :=
    h.release (labelRefs l) (.of_eq (List.append_nil _).symm) rfl
  exact ⟨_, hreleased.same (sameTables_leaveStyleUnconfirmed id l _), rfl, rfl, rfl⟩

/-! ## Queues and settling (R57, R59) -/

theorem OpenAt.enqueue (h : OpenAt id l a b) : ∃ q, OpenAt id { l with queued := some q } a (enqueue id b) := by
  have hput (q : QueuePlace) : OpenAt id { l with queued := some q } a (putLabel id { l with queued := some q } b) :=
    h.put rfl rfl
  rw [Machine.enqueue, withLabel_of_some h.found]
  split
  · split
    · exact ⟨_, (hput _).same ⟨rfl, rfl, rfl, rfl⟩⟩
    · exact ⟨_, hput _⟩
  · exact ⟨_, (hput _).same ⟨rfl, rfl, rfl, rfl⟩⟩

/-- R57: a label settles as UNBOUND, CURRENT or STALE. -/
theorem isSettledState_settledState (l : Label) : isSettledState (settledState l) = true := by
  unfold settledState
  (repeat' split) <;> rfl

theorem stateOk_of_settled (hs : isSettledState l.state = true) (hq : l.queued.isSome = true ↔ l.state = .stale)
    (hf : l.inFlight = none) : StateOk l := by
  unfold StateOk
  rw [hq, hf]
  cases e : l.state <;> simp_all [isSettledState]

/-- What leaves a label without an in-flight reference without one, and its states in order. -/
def Tame (l m : Label) : Prop := (l.inFlight = none → m.inFlight = none) ∧ (StateOk l → StateOk m)

theorem Tame.refl (l : Label) : Tame l l := ⟨id, id⟩

theorem Tame.trans {n : Label} (h : Tame l m) (g : Tame m n) : Tame l n := ⟨g.1 ∘ h.1, g.2 ∘ h.2⟩

/-- R55: a label that is not in one of the settled states apart from STALE holds no in-flight reference. -/
theorem StateOk.no_inFlight (h : StateOk l) (hs : isSettledState l.state = true) : l.inFlight = none := by
  obtain ⟨-, -, hf⟩ := h
  cases e : l.inFlight with
  | none => rfl
  | some f => rcases hf (by rw [e]; rfl) with e | e | e <;> rw [e] at hs <;> cases hs

/-- A label without an in-flight reference is in order once settled; the reference is left alone. -/
theorem OpenAt.settle (h : OpenAt id l a b) : ∃ m, OpenAt id m a (settle id b) ∧ m.inFlight = l.inFlight ∧
    (l.inFlight = none → StateOk m) := by
  have hstate := isSettledState_settledState { l with target := targetOf b l }
  rw [Machine.settle, withLabel_of_some h.found]
  split
  · next hs =>
    obtain ⟨q, hq⟩ := OpenAt.enqueue (h.put (m := settledLabel b l) rfl rfl)
    exact ⟨_, hq, rfl, stateOk_of_settled (l := { settledLabel b l with queued := some q }) hstate (iff_of_true rfl hs)⟩
  · next hs =>
    exact ⟨_, h.put (m := { settledLabel b l with queued := none }) rfl rfl, rfl,
      stateOk_of_settled (l := { settledLabel b l with queued := none }) hstate (iff_of_false (by simp) hs)⟩

theorem OpenAt.settle_close (h : OpenAt id l a b) (hf : LabelStates a → l.inFlight = none) :
    Reached a (Machine.settle id b) := by
  obtain ⟨m, hm, -, hok⟩ := h.settle
  exact hm.close fun hs => hok (hf hs)

/-- R57: settling a label in a settled state. -/
theorem OpenAt.settle_tame (h : OpenAt id l a b) (hs : isSettledState l.state = true) :
    ∃ m, OpenAt id m a (Machine.settle id b) ∧ Tame l m := by
  obtain ⟨m, hm, hf, hok⟩ := h.settle
  exact ⟨m, hm, fun e => hf.trans e, fun h => hok (h.no_inFlight hs)⟩

theorem Reached.settle (h : Reached a b) (hl : getLabel b id = some l) (hs : isSettledState l.state = true) :
    Reached a (Machine.settle id b) :=
  (h.openAt hl).settle_close fun hst => (h.ok hl hst).no_inFlight hs

theorem OpenAt.settleIfSettled (h : OpenAt id l a b) : ∃ m, OpenAt id m a (settleIfSettled id b) ∧ Tame l m := by
  rw [Machine.settleIfSettled, withLabel_of_some h.found]
  split
  · next hs => exact h.settle_tame hs
  · exact ⟨l, h, .refl l⟩

theorem OpenAt.becomeUncertain (h : OpenAt id l a b) :
    ∃ q, OpenAt id { l with state := .uncertain, queued := some q } a (becomeUncertain id b) := by
  rw [becomeUncertain_of_some h.found]
  exact OpenAt.enqueue (h.put (m := { l with state := .uncertain }) rfl rfl)

/-- R55, R59: an UNCERTAIN label in its queue that holds an in-flight reference is in order. -/
theorem stateOk_uncertain {q : QueuePlace} (hf : l.inFlight.isSome = true) :
    StateOk { l with state := .uncertain, queued := some q } := by simp [StateOk, hf]

theorem OpenAt.returnFailed (h : OpenAt id l a b) :
    ∃ m, OpenAt id m a (returnFailed id b) ∧ m.inFlight = l.inFlight ∧ StateOk m := by
  have hput : OpenAt id { l with retry := 0, oversize := false } a
      (putLabel id { l with retry := 0, oversize := false } b) := h.put rfl rfl
  rw [Machine.returnFailed, withLabel_of_some h.found]
  split
  · next hf =>
    obtain ⟨q, hq⟩ := hput.becomeUncertain
    exact ⟨_, hq, rfl, stateOk_uncertain hf⟩
  · next hf =>
    obtain ⟨m, hm, he, hok⟩ := hput.settle
    exact ⟨m, hm, he, hok (by simpa using hf)⟩

theorem Reached.returnFailed (h : Reached a b) (id : Nat) : Reached a (returnFailed id b) := by
  cases hl : getLabel b id with
  | none => rw [Machine.returnFailed, withLabel_of_none hl]; exact h
  | some l =>
    obtain ⟨m, hm, -, hok⟩ := (h.openAt hl).returnFailed
    exact hm.close fun _ => hok

/-- A record put with its references, binding, state and place in the queue as they were. -/
theorem Reached.put (h : Reached a b) (hl : getLabel b id = some l) (hr : labelRefs m = labelRefs l)
    (hi : m.item = l.item) (hok : StateOk l → StateOk m) : Reached a (putLabel id m b) :=
  ((h.openAt hl).put hr hi).close fun hs => hok (h.ok hl hs)

theorem Reached.modify (h : Reached a b) (id : Nat) (f : Label → Label) (hr : ∀ l, labelRefs (f l) = labelRefs l)
    (hi : ∀ l, (f l).item = l.item) (hok : ∀ l, StateOk l → StateOk (f l)) : Reached a (modifyLabel id f b) := by
  cases hl : getLabel b id with
  | none => simpa [modifyLabel, hl] using h
  | some l => rw [modifyLabel_of_some f hl]; exact h.put hl (hr l) (hi l) (hok l)

/-- A label kept in its queue, whatever is put of its record besides. -/
theorem OpenAt.enqueue_close (h : OpenAt id l a b) (hs : l.state = .stale ∨ l.state = .uncertain)
    (hok : LabelStates a → StateOk l) : Reached a (Machine.enqueue id b) := by
  obtain ⟨q, hq⟩ := h.enqueue
  refine hq.close fun hst => ?_
  obtain ⟨-, hrest⟩ := hok hst
  exact ⟨iff_of_true rfl hs, hrest⟩

/-! ## Retargeting (R62, R64, R72) -/

theorem Reached.retargetLabel (h : Reached a b) (id : Nat) : Reached a (retargetLabel id b) := by
  refine h.withLabel fun l hl => ?_
  have hput : OpenAt id { l with target := targetOf b l } a (putLabel id { l with target := targetOf b l } b) :=
    (h.openAt hl).put rfl rfl
  have hok : LabelStates a → StateOk l := h.ok hl
  have hclosed : Reached a (putLabel id { l with target := targetOf b l } b) := hput.close hok
  split
  · next hs => exact h.settle hl (by rw [hs]; rfl)
  · next hs => exact h.settle hl (by rw [hs]; rfl)
  · next hs => exact h.settle hl (by rw [hs]; rfl)
  · exact hclosed
  · next hs => exact hput.enqueue_close (Or.inr hs) hok
  · split
    · exact hclosed.returnFailed id
    · exact hclosed

theorem Reached.retargetLabels (h : Reached a b) (ids : List Nat) : Reached a (retargetLabels ids b) :=
  h.foldl ids fun id _ hd => hd.retargetLabel id

theorem Reached.takeHandoff (h : Reached a b) (x : Handoff) : Reached a (takeHandoff x b) := by
  refine Reached.retargetLabels (h.foldl _ fun id d hd => hd.modify id _ ?_ ?_ ?_) _ <;> intro l <;> split
  · rfl
  · rfl
  · rfl
  · rfl
  · exact fun e => e
  · exact fun e => e

theorem Reached.itemRetarget (h : Reached a b) : Reached a (itemRetarget b) := by
  unfold Machine.itemRetarget
  split
  · exact h
  · refine Reached.takeHandoff (h.same ?_) _
    exact ⟨rfl, rfl, rfl, rfl⟩

theorem Reached.templateWritten (h : Reached a b) (id : Nat) : Reached a (templateWritten id b) := by
  refine h.withLabel fun l hl => ?_
  have hput : Reached a (putLabel id { l with marks := { l.marks with redraw := true } } b) :=
    h.put hl rfl rfl fun e => e
  have hsettled (hs : isSettledState l.state = true) :=
    hput.settle (getLabel_putLabel_self b id { l with marks := { l.marks with redraw := true } }) hs
  split
  · split
    · exact hput.returnFailed id
    · exact hput
  · exact hput
  · exact hput
  · next hs => exact hsettled (by rw [hs]; rfl)
  · next hs => exact hsettled (by rw [hs]; rfl)
  · next hs => exact hsettled (by rw [hs]; rfl)

theorem Reached.templateRetarget (h : Reached a b) : Reached a (templateRetarget b) := by
  unfold Machine.templateRetarget
  split
  · exact h
  · refine Reached.foldl (h.same ?_) _ fun id _ hd => hd.templateWritten id
    exact ⟨rfl, rfl, rfl, rfl⟩

theorem Reached.sweepVisit (h : Reached a b) : Reached a (sweepVisit b) := by
  unfold Machine.sweepVisit
  split
  · exact h
  · refine Reached.retargetLabels (h.same ?_) _
    exact ⟨rfl, rfl, rfl, rfl⟩

/-! ## Binding (R60, R61) -/

/-- The record of a label whose binding is given up, another put in its place. -/
def unboundLabel (item template : Option Nat) (l : Label) : Label :=
  { l with
    confirmed := none
    inFlight := none
    item := item
    template := template
    binding := .foreign
    retry := 0
    marks := clearMarks
    oversize := false }

/-- R38: a label leaves the list of its item, where it has one. -/
def leaveItem (id : Nat) (l : Label) (b : Block) : Block :=
  match l.item with
  | some old => unbindFromItem old id b
  | none => b

/-- R60, R61: a binding given up, step by step. -/
theorem giveUpBinding_of_some (item template : Option Nat) (hl : getLabel b id = some l) :
    giveUpBinding id item template b =
      leaveStyle id (leaveItem id l (releaseAll (labelRefs l) (putLabel id (unboundLabel item template l) b))) := by
  rw [giveUpBinding, withLabel_of_some hl, ← releaseBoth_eq]
  unfold leaveItem
  cases l.item <;> rfl

theorem leaveItem_labels (id : Nat) (l : Label) (b : Block) : (leaveItem id l b).labels = b.labels := by
  unfold leaveItem
  split
  · exact (Touches.unbindFromItem _ id (.refl [.items] b) (by decide) |>.keeps .labels (by decide)).symm
  · rfl

theorem giveUpBinding_table (item template : Option Nat) (hl : getLabel b id = some l) :
    (giveUpBinding id item template b).labels.table =
      tableInsert b.labels.table id (unboundLabel item template l) := by
  rw [giveUpBinding_of_some item template hl, leaveStyle_labels, leaveItem_labels, releaseAll_labels]
  rfl

/-- R60: a label bound to an item that it is not bound to already, and that has room. -/
theorem OpenAt.applyRebind (h : OpenAt id l a b) (template : Nat) {i : Item} (hne : l.item ≠ some code)
    (hc : getItem b code = some i) (hroom : i.bound.length < Config.maxBound) :
    ∃ m, OpenAt id m a (applyRebind id code template b) ∧ m.inFlight = none ∧ StateOk m := by
  have hbound : OpenAt id (unboundLabel (some code) (some template) l) a
      (bindToItem code id (giveUpBinding id (some code) (some template) b)) := by
    refine h.move (.rebind (some template) h.found hne hc hroom) ?_
    rw [← giveUpBinding_table _ _ h.found]
    exact congrArg LabelBlock.table
      (Touches.bindToItem code id (.refl [.items] _) (by decide) |>.keeps .labels (by decide)).symm
  obtain ⟨m, hm, hf, hok⟩ := hbound.settle
  exact ⟨m, hm, hf, hok rfl⟩

theorem OpenAt.applyUnbind (h : OpenAt id l a b) : ∃ m, OpenAt id m a (applyUnbind id b) ∧ Tame l m := by
  rw [Machine.applyUnbind, withLabel_of_some h.found]
  split
  · obtain ⟨m, hm, hf, hok⟩ := (h.move (.unbind h.found) (giveUpBinding_table none none h.found)).settle
    exact ⟨m, hm, fun _ => hf, fun _ => hok rfl⟩
  · exact ⟨l, h, .refl l⟩

theorem OpenAt.applyTemplate (h : OpenAt id l a b) (template : Nat) :
    ∃ m, OpenAt id m a (applyTemplate id template b) ∧ Tame l m := by
  have hput : OpenAt id { l with template := some template } a
      (putLabel id { l with template := some template } b) := h.put rfl rfl
  rw [Machine.applyTemplate, withLabel_of_some h.found]
  split
  · split
    · obtain ⟨m, hm, hf, hok⟩ := hput.returnFailed
      exact ⟨m, hm, fun e => hf.trans e, fun _ => hok⟩
    · exact ⟨_, hput, .refl l⟩
  · exact ⟨_, hput, .refl l⟩
  · exact ⟨_, hput, .refl l⟩
  · next hs => exact hput.settle_tame (show isSettledState l.state = true by rw [hs]; rfl)
  · next hs => exact hput.settle_tame (show isSettledState l.state = true by rw [hs]; rfl)
  · next hs => exact hput.settle_tame (show isSettledState l.state = true by rw [hs]; rfl)

theorem OpenAt.applySameItem (h : OpenAt id l a b) (template : Nat) (x : Label) :
    ∃ m, OpenAt id m a (applySameItem id template x b) ∧ Tame l m := by
  unfold Machine.applySameItem
  split
  · exact ⟨l, h, .refl l⟩
  · exact h.applyTemplate template

theorem OpenAt.applyDeferredBind (h : OpenAt id l a b) (code template : Nat) :
    ∃ m, OpenAt id m a (applyDeferredBind id code template l b) ∧ Tame l m := by
  have hdropped : ∃ m, OpenAt id m a (Machine.notice .bindDropped (.label id) (Machine.applyUnbind id b)) ∧ Tame l m := by
    obtain ⟨m, hm, ht⟩ := h.applyUnbind
    exact ⟨m, hm.notice _ _, ht⟩
  unfold Machine.applyDeferredBind
  split
  · split
    · obtain ⟨m, hm, ht⟩ := h.applySameItem template l
      obtain ⟨n, hn, hs⟩ := hm.settleIfSettled
      exact ⟨n, hn, ht.trans hs⟩
    · next hne =>
      split
      · next hroom =>
        unfold itemHasRoom at hroom
        split at hroom
        · next i hi =>
          obtain ⟨m, hm, hf, hok⟩ := h.applyRebind template hne hi (by simpa using hroom)
          exact ⟨m, hm, fun _ => hf, fun _ => hok⟩
        · cases hroom
      · exact hdropped
  · exact hdropped

theorem OpenAt.applyNext (h : OpenAt id l a b) : ∃ m, OpenAt id m a (applyNext id b) ∧ Tame l m := by
  have hput : OpenAt id { l with next := none } a (putLabel id { l with next := none } b) := h.put rfl rfl
  rw [Machine.applyNext, withLabel_of_some h.found]
  split
  · exact ⟨l, h, .refl l⟩
  · exact hput.applyUnbind
  · exact hput.applyDeferredBind _ _

/-- What an operation on a label leaves in order where it found it in order. -/
theorem Reached.tamed (h : Reached a b) (hl : getLabel b id = some l) (ho : ∃ m, OpenAt id m a c ∧ Tame l m) :
    Reached a c := by
  obtain ⟨m, hm, ht⟩ := ho
  exact hm.close fun hs => ht.2 (h.ok hl hs)

theorem Reached.applyNext (h : Reached a b) (hl : getLabel b id = some l) : Reached a (applyNext id b) :=
  h.tamed hl (h.openAt hl).applyNext

/-! ## The change records of the directory (R54, R60, R61) -/

theorem stateOk_newLabel (cls : DisplayClass) : StateOk (newLabel cls) := by simp [StateOk, newLabel]

theorem Reached.applyLabel (h : Reached a b) (id : Nat) (k : Coded DisplayClass) : Reached a (applyLabel id k b).1 := by
  unfold Machine.applyLabel
  (repeat' split)
  · exact h
  · exact h
  · exact h
  · next cls hn hroom =>
    refine ⟨h.moves.tail (.addLabel cls (by simpa using hn) hroom), fun hs p hp => ?_⟩
    rcases mem_tableInsert hp with rfl | hp
    · exact stateOk_newLabel cls
    · exact h.states hs p hp
  · exact h

theorem Reached.storeNext (h : Reached a b) (id : Nat) (n : NextBinding) : Reached a (storeNext id n b) :=
  h.modify id _ (fun _ => rfl) (fun _ => rfl) fun _ e => e

theorem Reached.applyBind (h : Reached a b) (id code template : Nat) : Reached a (applyBind id code template b).1 := by
  unfold Machine.applyBind
  split
  · exact h
  · next l hl =>
    have hsame : Reached a (applySameItem id template l b) := h.tamed hl ((h.openAt hl).applySameItem template l)
    have hstored (n : NextBinding) := h.storeNext id n
    split
    · split
      · exact h
      · next i hi =>
        unfold bindChecked
        (repeat' split)
        · exact hstored _
        · exact hsame
        · exact hstored _
        · exact h
        · exact hsame
        · next hne hroom =>
          obtain ⟨m, hm, -, hok⟩ := (h.openAt hl).applyRebind template hne hi hroom
          exact hm.close fun _ => hok
        · exact h
    · exact h

theorem Reached.applyUnbindRecord (h : Reached a b) (id : Nat) : Reached a (applyUnbindRecord id b).1 := by
  unfold Machine.applyUnbindRecord
  split
  · exact h
  · next l hl =>
    split
    · split
      · exact h.storeNext id _
      · exact h
    · exact h.tamed hl (h.openAt hl).applyUnbind

theorem Reached.applyTemplateRecord (h : Reached a b) (id template : Nat) :
    Reached a (applyTemplateRecord id template b).1 := by
  unfold Machine.applyTemplateRecord
  (repeat' split)
  · exact h
  · next l hl _ _ => exact h.tamed hl ((h.openAt hl).applyTemplate template)
  · exact h
  · exact h

/-! ## Presence (R70) -/

/-- What presence makes of a label leaves its references, its binding and its state. -/
structure PresenceOnly (l m : Label) : Prop where
  refs : labelRefs m = labelRefs l
  item : m.item = l.item
  state : StateOk l → StateOk m

theorem presenceOnly_heardLabel (cycle : Nat) (l : Label) : PresenceOnly l (heardLabel cycle l) := by
  unfold heardLabel
  (repeat' split) <;> exact ⟨rfl, rfl, id⟩

theorem presenceOnly_clearOldCandidate (cycle : Nat) (l : Label) : PresenceOnly l (clearOldCandidate cycle l) := by
  unfold clearOldCandidate
  (repeat' split) <;> exact ⟨rfl, rfl, id⟩

theorem Reached.transmissionHeard (h : Reached a b) (id : Nat) : Reached a (transmissionHeard id b) := by
  refine h.withLabel fun l hl => ?_
  obtain ⟨hr, hi, hs⟩ := presenceOnly_heardLabel b.radio.cycle l
  have hput := h.put hl hr hi hs
  split
  · exact hput.notice _ _
  · exact hput

theorem Reached.presenceCheck (h : Reached a b) (cycle : Nat) : Reached a (presenceCheck cycle b) := by
  refine h.foldl _ fun id d hd => hd.withLabel fun l hl => ?_
  obtain ⟨hr, hi, hs⟩ := presenceOnly_clearOldCandidate cycle l
  split
  · refine Reached.notice (hd.put hl ?_ ?_ ?_) _ _
    · exact hr
    · exact hi
    · exact hs
  · exact hd.put hl hr hi hs

/-! ## Outcomes and tag resolution (R65 to R69) -/

theorem Reached.storeTarget (h : Reached a b) (id : Nat) : Reached a (storeTarget id b) :=
  h.withLabel fun _ hl => h.put hl rfl rfl fun e => e

/-- R66: a transaction ends at a label that has given its in-flight reference up; one that is FAILED stays so. -/
theorem OpenAt.endTransaction (h : OpenAt id l a b)
    (hl : LabelStates a → l.inFlight = none ∧ (l.state = .failed → l.queued = none)) :
    Reached a (endTransaction id b) := by
  rw [Machine.endTransaction, withLabel_of_some h.found]
  split
  · next hs =>
    refine h.close fun hst => ?_
    obtain ⟨hf, hq⟩ := hl hst
    simp [StateOk, hs, hf, hq hs]
  · obtain ⟨m, hm, hf, -⟩ := h.applyNext
    exact hm.settle_close fun hst => hf (hl hst).1

/-- R55, R59: a FAILED label is in no queue. -/
theorem StateOk.failed_not_queued (h : StateOk l) (hs : l.state = .failed) : l.queued = none := by
  obtain ⟨hq, -⟩ := h
  simpa [hs] using hq

/-- R66: a confirmed in-flight reference takes the place of the confirmed one, which is released. -/
theorem Reached.confirmInFlight (h : Reached a b) {f : InFlight} (hl : getLabel b id = some l)
    (hf : l.inFlight = some f) : Reached a (confirmInFlight id f b) := by
  rw [Machine.confirmInFlight, withLabel_of_some hl, releaseConfirmed_eq]
  have hopen : OpenAt id (confirmedLabel f l) a (releaseAll (confirmedRefs l) (putLabel id (confirmedLabel f l) b)) := by
    refine (h.openAt hl).release _ ?_ rfl
    simp [labelRefs_eq, confirmedRefs, inFlightRefs, confirmedLabel, hf]
  exact hopen.endTransaction fun hs => ⟨rfl, (h.ok hl hs).failed_not_queued⟩

theorem reportsInFlight_some {tag : Nat} {check : Option Nat} {f : InFlight}
    (h : reportsInFlight tag check l = some f) : l.inFlight = some f := by
  unfold reportsInFlight at h
  split at h
  · next g hg =>
    split at h
    · rwa [← Option.some.inj h]
    · cases h
  · cases h

theorem Reached.resolveReport (h : Reached a b) (id tag : Nat) (check : Option Nat) :
    Reached a (resolveReport id tag check b) := by
  refine h.withLabel fun l hl => ?_
  split
  · next f hf => exact h.confirmInFlight hl (reportsInFlight_some hf)
  · split
    · split
      · exact (h.openAt hl).dropInFlight.endTransaction fun hs => ⟨rfl, (h.ok hl hs).failed_not_queued⟩
      · next hn =>
        split
        · exact (h.openAt hl).endTransaction fun hs => ⟨by simpa using hn, (h.ok hl hs).failed_not_queued⟩
        · exact h
    · split
      · exact h.put hl rfl rfl fun e => e
      · obtain ⟨m, hm, hf, hstate, hq⟩ := (h.openAt hl).dropBoth
        exact hm.endTransaction fun hs => ⟨hf, fun e => hq.trans ((h.ok hl hs).failed_not_queued (hstate ▸ e))⟩

theorem Reached.outcomeAck (h : Reached a b) (id tag : Nat) : Reached a (outcomeAck id tag b) := by
  refine h.withLabel fun l hl => ?_
  split
  · split
    · next f hf =>
      split
      · exact h.confirmInFlight hl hf
      · exact h.resolveReport _ _ _
    · exact h.resolveReport _ _ _
  · exact h.bump _

theorem Reached.outcomeNakBase (h : Reached a b) (id : Nat) : Reached a (outcomeNakBase id b) := by
  refine h.withLabel fun l hl => ?_
  split
  · have hdropped := (h.openAt hl).dropInFlight
    rw [modifyLabel_of_some _ hdropped.found]
    obtain ⟨m, hm, hf, -⟩ := (hdropped.put (m := { l with
      inFlight := none, marks := { marksRestored l with fullRequired := true } }) rfl rfl).applyNext
    exact hm.settle_close fun _ => hf rfl
  · exact h.bump _

/-- R68: a FAILED label out of its queue is in order. -/
theorem stateOk_failed (l : Label) : StateOk { l with state := .failed, queued := none } := by simp [StateOk]

theorem OpenAt.becomeFailed (h : OpenAt id l a b) :
    OpenAt id { l with state := .failed, queued := none } a (becomeFailed id b) := by
  unfold Machine.becomeFailed
  rw [modifyLabel_of_some _ h.found]
  exact OpenAt.notice (h.put (m := { l with state := .failed, queued := none }) rfl rfl) _ _

theorem OpenAt.storeTarget (h : OpenAt id l a b) :
    OpenAt id { l with target := targetOf b l } a (storeTarget id b) := by
  rw [Machine.storeTarget, withLabel_of_some h.found]
  exact h.put rfl rfl

theorem OpenAt.afterNakCheck (h : OpenAt id l a b) (hf : l.inFlight = none) : Reached a (afterNakCheck id b) := by
  rw [Machine.afterNakCheck, withLabel_of_some h.found]
  split
  · obtain ⟨m, hm, -, hok⟩ := h.storeTarget.becomeFailed.applyNext
    exact hm.close fun _ => hok (stateOk_failed _)
  · obtain ⟨m, hm, hfree, -⟩ := h.applyNext
    exact hm.settle_close fun _ => hfree hf

theorem Reached.outcomeNakCheck (h : Reached a b) (id : Nat) : Reached a (outcomeNakCheck id b) := by
  refine h.withLabel fun l hl => ?_
  split
  · have hdropped := (h.openAt hl).dropInFlight
    rw [modifyLabel_of_some _ hdropped.found]
    exact OpenAt.afterNakCheck (hdropped.put rfl rfl) rfl
  · exact h.bump _

/-- R68: after a NO_REPLY a label that holds its in-flight reference is FAILED or UNCERTAIN. -/
theorem OpenAt.afterNoReply (h : OpenAt id l a b) (hf : LabelStates a → l.inFlight.isSome = true) :
    ∃ m, OpenAt id m a (afterNoReply id b) ∧ (LabelStates a → StateOk m) := by
  rw [Machine.afterNoReply, withLabel_of_some h.found]
  split
  · exact ⟨_, h.becomeFailed, fun _ => stateOk_failed l⟩
  · obtain ⟨q, hq⟩ := h.becomeUncertain
    exact ⟨_, hq, fun hs => stateOk_uncertain (hf hs)⟩

theorem Reached.outcomeNoReply (h : Reached a b) (id : Nat) : Reached a (outcomeNoReply id b) := by
  refine h.withLabel fun l hl => ?_
  split
  · next hstate =>
    have hput : OpenAt id { l with retry := raisedRetry l } a (putLabel id { l with retry := raisedRetry l } b) :=
      (h.openAt hl).put rfl rfl
    obtain ⟨m, hm, hok⟩ := hput.storeTarget.afterNoReply fun hs => (h.ok hl hs).2.1 (Or.inl hstate)
    obtain ⟨n, hn, ht⟩ := hm.applyNext
    exact hn.close fun hs => ht.2 (hok hs)
  · exact h.bump _

theorem Reached.outcomeQueryNoReply (h : Reached a b) (id : Nat) : Reached a (outcomeQueryNoReply id b) := by
  refine h.withLabel fun l hl => ?_
  split
  · next hstate =>
    have hput : OpenAt id { l with retry := raisedRetry l } a (putLabel id { l with retry := raisedRetry l } b) :=
      (h.openAt hl).put rfl rfl
    obtain ⟨m, hm, hok⟩ := hput.storeTarget.afterNoReply fun hs => (h.ok hl hs).2.1 (Or.inr hstate)
    exact hm.close hok
  · exact h.bump _

theorem Reached.outcomeReport (h : Reached a b) (id tag : Nat) : Reached a (outcomeReport id tag b) := by
  refine h.withLabel fun l _ => ?_
  split
  · exact (h.resolveReport _ _ _).retargetLabel _
  · exact h.resolveReport _ _ _

theorem Reached.checkInReport (h : Reached a b) (id tag check : Nat) : Reached a (checkInReport id tag check b) := by
  have hresolved := h.resolveReport id tag (some check)
  refine h.withLabel fun l hl => ?_
  split
  · split
    · next f hf => exact h.confirmInFlight hl (reportsInFlight_some hf)
    · exact h
  · split
    · exact hresolved
    · exact hresolved.returnFailed id
  · exact hresolved
  · exact hresolved
  · exact hresolved
  · exact hresolved

theorem Reached.radioCheckIn (h : Reached a b) (k : CheckIn) : Reached a (radioCheckIn k b) := by
  unfold Machine.radioCheckIn
  (repeat' split)
  · refine Reached.checkInReport ((h.transmissionHeard _).modify _ _ ?_ ?_ ?_) _ _ _ <;> intro l
    · rfl
    · rfl
    · exact id
  · exact h.bump _
  · exact h.bump _

/-! ## FORCE_LABEL (R71) and the warm restart (R74) -/

theorem Reached.applyForce (h : Reached a b) (id : Nat) : Reached a (applyForce id b).1 := by
  unfold Machine.applyForce
  (repeat' split)
  · exact h
  · exact h
  · exact h
  · next l hl _ =>
    have hforced : OpenAt id (forcedLabel l) a (putLabel id (forcedLabel l) b) := (h.openAt hl).put rfl rfl
    have hok : LabelStates a → StateOk l := h.ok hl
    have hput : Reached a (putLabel id (forcedLabel l) b) := hforced.close hok
    have hsettled (hs : isSettledState l.state = true) :=
      hput.settle (getLabel_putLabel_self b id (forcedLabel l)) hs
    unfold forceLabel
    split
    · exact hput.returnFailed id
    · exact hput
    · next hs => exact hforced.enqueue_close (Or.inr hs) hok
    · next hs => exact hsettled (by rw [hs]; rfl)
    · next hs => exact hsettled (by rw [hs]; rfl)
    · next hs => exact hsettled (by rw [hs]; rfl)

theorem Reached.restartLabel (h : Reached a b) (id : Nat) : Reached a (restartLabel id b) := by
  refine h.withLabel fun l hl => ?_
  split
  · next hs =>
    obtain ⟨q, hq⟩ := (h.openAt hl).becomeUncertain
    obtain ⟨m, hm, ht⟩ := hq.applyNext
    exact hm.close fun hst => ht.2 (stateOk_uncertain ((h.ok hl hst).2.1 (Or.inl hs)))
  · exact h

theorem Reached.warmDirectory (h : Reached a b) (cycle : Nat) : Reached a (warmDirectory cycle b) := by
  have hlabels := h.foldl (b.labels.table.map Prod.fst) fun id _ hd => hd.restartLabel id
  refine Reached.same ⟨hlabels.moves.tail (.presence cycle _), fun hs p hp => ?_⟩ ⟨rfl, rfl, rfl, rfl⟩
  obtain ⟨q, hq, rfl⟩ := List.mem_map.1 hp
  exact hlabels.states hs q hq

end TableMoves

end Sys2Proof.Machine

namespace Sys2Proof.Machine

/-! # The moves of a step: items, radio, mode, tills, the forwarder, the line, the exchange and management -/

section TableMovesOfAStep

variable {a b c : Block} {code : Nat} {i j : Item} {k : Slot} {o p q : Option Version}

/-! ## The slots of an item (R35, R36, R41 to R48) -/

theorem RefsAgree.refl (o : Option Version) : RefsAgree o o := Or.inl rfl

/-- A slot without references stays without. -/
theorem RefsAgree.unreferenced (h : RefsAgree o p) (ho : ∀ v, o = some v → v.refs = 0) : ∀ v, p = some v → v.refs = 0 := by
  rcases h with e | ⟨-, hp⟩
  · intro v hv
    subst hv
    obtain ⟨w, rfl, hw⟩ := Option.map_eq_some_iff.1 e.symm
    have hrefs : w.refs = v.refs := congrArg Prod.snd hw
    exact hrefs ▸ ho w rfl
  · exact hp

theorem RefsAgree.symm (h : RefsAgree o p) : RefsAgree p o := h.imp Eq.symm fun ⟨ho, hp⟩ => ⟨hp, ho⟩

theorem RefsAgree.trans (h : RefsAgree o p) (g : RefsAgree p q) : RefsAgree o q := by
  rcases h with e | ⟨ho, hp⟩
  · rcases g with f | ⟨hp, hq⟩
    · exact Or.inl (f.trans e)
    · exact Or.inr ⟨RefsAgree.unreferenced (Or.inl e.symm) hp, hq⟩
  · exact Or.inr ⟨ho, g.unreferenced hp⟩

/-- An item with the same bound labels, and slots that agree in what is referenced. -/
structure SlotsAgree (i j : Item) : Prop where
  bound : j.bound = i.bound
  slots : ∀ k, RefsAgree (slotOf i k) (slotOf j k)

theorem SlotsAgree.refl (i : Item) : SlotsAgree i i := ⟨rfl, fun _ => .refl _⟩

theorem SlotsAgree.setSlot (h : SlotsAgree i j) (hk : RefsAgree (slotOf i k) o) : SlotsAgree i (setSlot j k o) where
  bound := h.bound
  slots := fun l => by
    by_cases hl : l = k
    · subst hl
      rwa [slotOf_setSlot_self]
    · rw [slotOf_setSlot_other _ _ hl]
      exact h.slots l

theorem slotsAgree_retireActive (i : Item) : SlotsAgree i (retireActive i) := by
  unfold retireActive
  (repeat' split)
  · exact .refl i
  · exact .refl i
  · next hv _ => exact (SlotsAgree.refl i).setSlot (by rw [hv]; exact Or.inl rfl)
  · next hv hz => exact (SlotsAgree.refl i).setSlot (by rw [hv]; exact Or.inr ⟨by rintro v ⟨⟩; omega, by simp⟩)

theorem slotsAgree_retirePending (i : Item) : SlotsAgree i (retirePending i) := by
  unfold retirePending
  (repeat' split)
  · exact .refl i
  · exact .refl i
  · next hv => exact (SlotsAgree.refl i).setSlot (by rw [hv]; exact Or.inl rfl)

/-- A new version takes a slot that nothing references. -/
theorem SlotsAgree.fillSlot (h : SlotsAgree i j) (hk : ∀ v, slotOf i k = some v → v.refs = 0) (m : PriceMasks) (r : Role)
    (inputs : PriceInputs) : SlotsAgree i (fillSlot m r inputs k j) := by
  obtain ⟨hb, hs⟩ := h.setSlot (k := k) (o := some (newVersion m r (nextNumber j k) inputs))
    (Or.inr ⟨hk, by rintro v ⟨⟩; rfl⟩)
  exact ⟨hb, hs⟩

theorem slotsAgree_placeVersion {m : PriceMasks} {inputs : PriceInputs} {e : Effect}
    (h : placeVersion m inputs i e = some j) : SlotsAgree i j := by
  have hempty (e : Slot) (he : lowestEmpty i = some e) : ∀ v, slotOf i e = some v → v.refs = 0 := by
    simp [lowestEmpty_some he]
  cases e with
  | nextOpen =>
    simp only [placeVersion, placeNextOpen] at h
    split at h
    · next k v hk hv =>
      rw [pendingVersion_eq hk] at hv
      split at h
      · next hz =>
        cases h
        exact (SlotsAgree.refl i).fillSlot (by rw [hv]; rintro w ⟨⟩; exact hz) _ _ _
      · obtain ⟨e, he, rfl⟩ := Option.map_eq_some_iff.1 h
        exact (slotsAgree_retirePending i).fillSlot (hempty e he) _ _ _
    · obtain ⟨e, he, rfl⟩ := Option.map_eq_some_iff.1 h
      exact (SlotsAgree.refl i).fillSlot (hempty e he) _ _ _
  | immediate =>
    obtain ⟨e, he, rfl⟩ := placeImmediate_some h
    obtain ⟨hb, hs⟩ := (slotsAgree_retireActive i).setSlot (k := e)
      (o := some (newVersion m .active (nextNumber i e) inputs)) (Or.inr ⟨by simp [he], by rintro v ⟨⟩; rfl⟩)
    exact ⟨hb, hs⟩

/-- Every version of an item rewritten with its number and its count. -/
theorem slotsAgree_map (i : Item) {f : Version → Version} (hf : ∀ v, (f v).number = v.number ∧ (f v).refs = v.refs) :
    SlotsAgree i { i with slots := i.slots.map (fun o => o.map f) } where
  bound := rfl
  slots := fun k => by
    rw [slotOf_map]
    refine Or.inl ?_
    cases slotOf i k with
    | none => rfl
    | some v => simp [hf v]

theorem Reached.rewrite (h : Reached a b) (hi : getItem b code = some i) (hj : SlotsAgree i j) :
    Reached a (putItem code j b) := h.move (.rewrite hi hj.bound hj.slots) rfl

theorem Reached.handOn (h : Reached a b) (x : Handoff) : Reached a (handOn x b) := h.same ⟨rfl, rfl, rfl, rfl⟩

/-- R40: a version placed in an item, or in a new one. -/
theorem Reached.place (h : Reached a b) (hi : priceItem b code = some i) (hj : SlotsAgree i j) :
    Reached a (putItem code j b) := by
  rcases priceItem_some hi with hi | ⟨hn, hroom, rfl⟩
  · exact h.rewrite hi hj
  · refine h.move (.newItem hn hroom hj.bound fun k => (hj.slots k).unreferenced ?_) rfl
    rw [show slotOf newItem k = none from get_replicate none k]
    simp

theorem Reached.applyPrice (h : Reached a b) (r : PriceRecord) : Reached a (applyPrice r b).1 := by
  unfold Machine.applyPrice
  (repeat' split)
  · exact h
  · exact h
  · exact h
  · next inputs e _ _ i hi _ j hj =>
    have hplaced : Reached a (notePending r.code e (putItem r.code j b)) := by
      have hput := h.place hi (slotsAgree_placeVersion hj)
      cases e with
      | nextOpen => exact hput.same ⟨rfl, rfl, rfl, rfl⟩
      | immediate => exact hput
    refine Reached.handOn ?_ _
    unfold noteHeld
    split
    · exact hplaced.notice _ _
    · exact hplaced

theorem describeVersion_counted (t : Text) (v : Version) :
    (describeVersion t v).number = v.number ∧ (describeVersion t v).refs = v.refs := by
  unfold describeVersion
  split <;> exact ⟨rfl, rfl⟩

theorem releaseVersion_counted (m : PriceMasks) (v : Version) :
    (releaseVersion m v).number = v.number ∧ (releaseVersion m v).refs = v.refs := by
  unfold releaseVersion
  split <;> exact ⟨rfl, rfl⟩

theorem Reached.applyDescription (h : Reached a b) (code : Nat) (t : Text) :
    Reached a (applyDescription code t b).1 := by
  unfold Machine.applyDescription
  (repeat' split)
  · exact h
  · exact h
  · next hi _ => exact (h.rewrite hi (slotsAgree_map _ (describeVersion_counted t))).handOn _
  · exact h

theorem Reached.applyWithdraw (h : Reached a b) (code : Nat) : Reached a (applyWithdraw code b).1 := by
  unfold Machine.applyWithdraw
  (repeat' split)
  · exact h
  · next hi hb => exact h.move (.withdraw hi (List.isEmpty_iff.1 hb)) rfl
  · exact h

theorem Reached.applyRelease (h : Reached a b) (code : Nat) : Reached a (applyRelease code b).1 := by
  unfold Machine.applyRelease
  (repeat' split)
  · exact h
  · next i hi =>
    have hput : Reached a (putItem code (releaseItem b.price.masks i) b) :=
      h.rewrite hi (slotsAgree_map _ (releaseVersion_counted _))
    unfold releaseFound
    dsimp only
    split <;> split
    · exact (hput.notice _ _).handOn _
    · exact hput.handOn _
    · exact hput.notice _ _
    · exact hput
  · exact h

theorem Reached.leavePending (h : Reached a b) (code : Nat) : Reached a (leavePending code b) :=
  h.same ⟨rfl, rfl, rfl, rfl⟩

theorem Reached.activateOne (h : Reached a b) (code : Nat) : Reached a (activateOne code b) := by
  unfold Machine.activateOne
  split
  · exact h.leavePending code
  · next i hi =>
    split
    · next k v hk hv =>
      rw [pendingVersion_eq hk] at hv
      split
      · refine (h.rewrite hi ?_).leavePending code
        exact (slotsAgree_retireActive i).setSlot (by rw [hv]; exact Or.inl rfl)
      · exact h.notice _ _
    · exact h.leavePending code

theorem Reached.beginSweep (h : Reached a b) (l : List Nat) : Reached a (beginSweep l b) := h.same ⟨rfl, rfl, rfl, rfl⟩

theorem Reached.activate (h : Reached a b) : Reached a (activate b) :=
  (h.foldl _ fun code _ hd => hd.activateOne code).beginSweep _

/-! ## The radio scheduler (file 06) -/

theorem Reached.handOutcome (h : Reached a b) (e : PlanEntry) (x : RadioOutcome) : Reached a (handOutcome e x b) := by
  have hheard := h.transmissionHeard e.label
  have hcounted := h.bump .noReplyCount
  cases x with
  | ack tag => exact hheard.outcomeAck _ _
  | nakBase => exact hheard.outcomeNakBase _
  | nakCheck => exact hheard.outcomeNakCheck _
  | report tag => exact hheard.outcomeReport _ _
  | noReply =>
    simp only [Machine.handOutcome]
    split
    · exact hcounted.outcomeQueryNoReply _
    · exact hcounted.outcomeNoReply _
    · exact hcounted.outcomeNoReply _

theorem Reached.beginTransaction (h : Reached a b) : Reached a (beginTransaction b) :=
  h.quiet (by apply Touches.beginTransaction (.refl _ _) <;> decide)

theorem Reached.replyWindowClose (h : Reached a b) : Reached a (replyWindowClose b) := by
  unfold Machine.replyWindowClose closeWindow
  (repeat' split)
  · next e _ =>
    have hended := h.handOutcome e (windowOutcome b.radio.taken)
    refine Reached.beginTransaction (hended.same ?_)
    exact ⟨rfl, rfl, rfl, rfl⟩
  · exact h.beginTransaction
  · exact h

theorem Reached.closeRest (h : Reached a b) (fuel : Nat) : Reached a (closeRest fuel b) := by
  induction fuel generalizing b with
  | zero => exact h
  | succ fuel ih =>
    unfold Machine.closeRest
    split
    · exact ih h.replyWindowClose
    · exact h

/-- R63: a label selected is IN_FLIGHT with a reference, and in no queue. -/
theorem stateOk_selectedLabel (u : Composed) (t : Target) (l : Label) : StateOk (selectedLabel u t l) := by
  simp [StateOk, selectedLabel]

/-- R63: a STALE label whose target stands is selected. -/
theorem Reached.selectUpdate (h : Reached a b) {id : Nat} {l : Label} {t : Target} (u : Composed)
    (hl : getLabel b id = some l) (hs : l.state = .stale) (ht : targetOf b l = some t) :
    Reached a (selectUpdate id l t u b) := by
  have hfree (hst : LabelStates a) : l.inFlight = none := (h.ok hl hst).no_inFlight (by rw [hs]; rfl)
  have htable : (takeTarget t b).labels = b.labels :=
    (Touches.takeTarget t (.refl [.items] b) (by decide) |>.keeps .labels (by decide)).symm
  have hopen : OpenAt id (selectedLabel u t l) a (putLabel id (selectedLabel u t l) (takeTarget t b)) :=
    (h.openAt hl).move (.select u hl hfree ht) (by rw [putLabel_labels, htable])
  have hselected := hopen.close fun _ => stateOk_selectedLabel u t l
  have hbuffered : Reached a (bufferUpdate id (codedUpdate u (issueTag l) (baseTagOf u l))
      (joinStyle id u t (putLabel id (selectedLabel u t l) (takeTarget t b)))) :=
    hselected.quiet (by apply Touches.bufferUpdate id _ (Touches.joinStyle id u t (.refl _ _) ?_) <;> decide)
  unfold Machine.selectUpdate noteTruncated
  split
  · exact (hbuffered.bump _).notice _ _
  · exact hbuffered

/-- R87: a label whose update is OVERSIZE is FAILED. -/
theorem Reached.becomeOversize (h : Reached a b) (id : Nat) : Reached a (becomeOversize id b) := by
  have hfailed : Reached a (modifyLabel id (fun l => { l with state := .failed, oversize := true, queued := none }) b) :=
    h.modify id _ (fun _ => rfl) (fun _ => rfl) fun l _ => stateOk_failed { l with oversize := true }
  exact (hfailed.bump _).notice _ _

theorem Reached.walkReach {w : Walk} (h : Reached a w.block) (id : Nat) : Reached a (walkReach id w).block := by
  unfold Machine.walkReach
  split
  · exact h
  · next l hl =>
    split
    · next hs =>
      unfold walkStale
      split
      · next htarget =>
        split
        · next t ht =>
          unfold walkUpdate
          (repeat' split)
          · exact h.becomeOversize id
          · exact h.selectUpdate _ hl hs (htarget.trans ht)
          · exact h
        · exact h
      · have hok : LabelStates a → StateOk l := h.ok hl
        exact OpenAt.enqueue_close ((h.openAt hl).put (m := { l with target := targetOf w.block l }) rfl rfl)
          (Or.inl hs) hok
    all_goals exact h

theorem Reached.walkQueue {w : Walk} (h : Reached a w.block) (ids : List Nat) : Reached a (walkQueue ids w).block := by
  induction ids generalizing w with
  | nil => exact h
  | cons id rest ih =>
    unfold Machine.walkQueue
    split
    · exact h
    · exact ih (h.walkReach id)

theorem Reached.beacon (h : Reached a b) : Reached a (beacon b) := by
  have hsent : Reached a (sendBeacon (beginSlot (closeSlot b))) :=
    (h.closeRest _).quiet (by apply Touches.sendBeacon (Touches.beginSlot (.refl _ _) ?_ ?_ ?_) <;> decide)
  have hslot : Reached a (notePresence (sendBeacon (beginSlot (closeSlot b)))) := by
    unfold notePresence
    split
    · exact hsent.presenceCheck _
    · exact hsent
  have hwalk : Reached a (slotWalk (notePresence (sendBeacon (beginSlot (closeSlot b))))).block :=
    Reached.walkQueue hslot _
  refine Reached.beginTransaction (hwalk.same ?_)
  exact ⟨rfl, rfl, rfl, rfl⟩

/-! ## The mode controller (file 01) -/

theorem Reached.setMode (h : Reached a b) (m : Mode) : Reached a (setMode m b) := by
  refine Reached.notice (h.same ?_) _ _
  exact ⟨rfl, rfl, rfl, rfl⟩

theorem Reached.becomeClosed (h : Reached a b) : Reached a (becomeClosed b) := by
  refine Reached.beginSweep (Reached.setMode (h.same ?_) _) _
  exact ⟨rfl, rfl, rfl, rfl⟩

theorem Reached.drainExpiry (h : Reached a b) : Reached a (drainExpiry b) := by
  unfold Machine.drainExpiry
  split
  · exact h.becomeClosed
  · exact h

theorem Reached.openRequest (h : Reached a b) (e : openRequest b = some c) : Reached a c := by
  unfold Machine.openRequest at e
  split at e <;> cases e
  · exact (h.setMode _).activate
  · refine Reached.setMode (h.same ?_) _
    exact ⟨rfl, rfl, rfl, rfl⟩

theorem Reached.closeRequest (h : Reached a b) (e : closeRequest b = some c) : Reached a c := by
  unfold Machine.closeRequest at e
  split at e <;> cases e
  exact (h.setMode _).same ⟨rfl, rfl, rfl, rfl⟩

theorem Reached.closeNowRequest (h : Reached a b) (e : closeNowRequest b = some c) : Reached a c := by
  unfold Machine.closeNowRequest at e
  split at e <;> cases e
  exact h.becomeClosed

theorem Reached.setWindowState (h : Reached a b) (w : WindowState) : Reached a (setWindowState w b) := by
  refine Reached.notice (h.same ?_) _ _
  exact ⟨rfl, rfl, rfl, rfl⟩

theorem Reached.abortExchange (h : Reached a b) : Reached a (abortExchange b) := by
  have haborted : Reached a (Machine.bump .exchangeAborts (senderServed .engine
      { b with exch := { b.exch with state := .idle, staging := none, held := [] } })) :=
    h.same ⟨rfl, rfl, rfl, rfl⟩
  unfold Machine.abortExchange
  split
  · exact h
  · exact haborted.notice _ _

theorem Reached.abortQual (h : Reached a b) : Reached a (abortQual b) :=
  h.quiet (by apply Touches.abortQual (.refl _ _); decide)

theorem Reached.windowOpenRequest (h : Reached a b) (e : windowOpenRequest b = some c) : Reached a c := by
  unfold Machine.windowOpenRequest at e
  split at e <;> cases e
  exact (h.setWindowState _).same ⟨rfl, rfl, rfl, rfl⟩

theorem Reached.windowCloseRequest (h : Reached a b) (e : windowCloseRequest b = some c) : Reached a c := by
  unfold Machine.windowCloseRequest at e
  split at e <;> cases e
  have hshut := (h.setWindowState .shut).abortQual
  have haborted : Reached a (Machine.abortExchange (discardResult (Machine.abortQual (Machine.setWindowState .shut b)))) :=
    Reached.abortExchange (hshut.same ⟨rfl, rfl, rfl, rfl⟩)
  exact haborted.same ⟨rfl, rfl, rfl, rfl⟩

theorem Reached.fireAction (h : Reached a b) (x : ScheduleAction) : Reached a (fireAction x b) := by
  cases x with
  | openStore => exact keeps_getD h fun _ => h.openRequest
  | closeBegin => exact keeps_getD h fun _ => h.closeRequest
  | windowOpen => exact keeps_getD h fun _ => h.windowOpenRequest
  | windowClose => exact keeps_getD h fun _ => h.windowCloseRequest

theorem Reached.clockAdvance (h : Reached a b) : Reached a (clockAdvance b) := by
  unfold Machine.clockAdvance
  (repeat' split)
  · exact h.same ⟨rfl, rfl, rfl, rfl⟩
  · refine Reached.foldl (h.same ?_) _ fun e _ hd => hd.fireAction e.action
    exact ⟨rfl, rfl, rfl, rfl⟩
  · exact h.same ⟨rfl, rfl, rfl, rfl⟩

/-! ## The tills (file 07) -/

theorem Reached.noteDiffering (h : Reached a b) (till : Nat) (es : List JournalEntry) :
    Reached a (noteDiffering till es b) := by
  induction es generalizing b with
  | nil => exact h
  | cons e rest ih =>
    unfold Machine.noteDiffering
    split
    · exact ih (h.notice _ _)
    · exact ih h

theorem Reached.putTill (h : Reached a b) (till : Nat) (r : TillRecord) : Reached a (putTill till r b) :=
  h.quiet (by apply Touches.putTill till r (.refl _ _); decide)

theorem Reached.noteHigh (h : Reached a b) : Reached a (noteHigh b) := by
  unfold Machine.noteHigh
  split
  · refine Reached.notice (h.same ?_) _ _
    exact ⟨rfl, rfl, rfl, rfl⟩
  · exact h

theorem Reached.acceptRecord (h : Reached a b) (till sequence time : Nat) (gap : Bool) (lines : List SaleLine) :
    Reached a (acceptRecord till sequence time gap lines b) := by
  have hheard := h.putTill till { tillRecord b till with lastSequence := some sequence }
  refine Reached.noteHigh (Reached.noteDiffering (hheard.same ?_) _ _)
  exact ⟨rfl, rfl, rfl, rfl⟩

theorem Reached.replyTill (h : Reached a b) (s : TillSender) (kind till : Nat) (r : TillResult) :
    Reached a (replyTill s kind till r b) :=
  h.quiet (by apply Touches.replyTill s kind till r (.refl _ _); decide)

theorem Reached.noteFull (h : Reached a b) : Reached a (noteFull b) := by
  unfold Machine.noteFull
  split
  · exact h
  · refine Reached.notice (h.same ?_) _ _
    exact ⟨rfl, rfl, rfl, rfl⟩

theorem Reached.takeRecord (h : Reached a b) (s : TillSender) (till sequence time : Nat) (gap : Bool)
    (lines : List SaleLine) : Reached a (takeRecord s till sequence time gap lines b) := by
  unfold Machine.takeRecord
  split
  · exact (h.acceptRecord _ _ _ _ _).replyTill _ _ _ _
  · exact h.noteFull.replyTill _ _ _ _

theorem Reached.tillSaleRecord (h : Reached a b) (s : TillSender) (till sequence time : Nat) (lines : List SaleLine) :
    Reached a (tillSaleRecord s till sequence time lines b) := by
  have hheard := h.putTill till (heardTill s (tillRecord b till))
  have hrefused (r : TillResult) : Reached a (refuseTill s saleRecordKind till r b) :=
    h.quiet (by apply Touches.refuseTill s _ till r (.refl _ _) <;> decide)
  unfold Machine.tillSaleRecord saleBySequence
  (repeat' split)
  · exact hheard.takeRecord _ _ _ _ _ _
  · exact hheard.takeRecord _ _ _ _ _ _
  · exact hheard.replyTill _ _ _ _
  · exact hheard.replyTill _ _ _ _
  · exact hrefused _
  · exact hrefused _

theorem Reached.tillFrame (h : Reached a b) (s : TillSender) (f : TillFrame) : Reached a (tillFrame s f b) := by
  have hrefused (kind till : Nat) (r : TillResult) : Reached a (refuseTill s kind till r b) :=
    h.quiet (by apply Touches.refuseTill s kind till r (.refl _ _) <;> decide)
  cases f with
  | hello till => exact h.quiet (by apply Touches.tillHello s till (.refl _ _) <;> decide)
  | priceQuery till code => exact h.quiet (by apply Touches.tillPriceQuery s till code (.refl _ _) <;> decide)
  | saleRecord till sequence time lines => exact h.tillSaleRecord s till sequence time lines
  | unknownKind kind till => exact hrefused _ _ _
  | malformed kind till =>
    simp only [Machine.tillFrame]
    split <;> exact hrefused _ _ _
  | empty => exact hrefused _ _ _

theorem Reached.silenceExpiry (h : Reached a b) (till : Nat) : Reached a (silenceExpiry till b) := by
  unfold Machine.silenceExpiry
  split
  · exact (h.putTill till _).notice _ _
  · exact h

/-! ## The forwarder and the guest service (files 08 and 09) -/

/-- A change of the address table alone. -/
theorem Reached.addresses (h : Reached a b) {x : ForwarderBlock}
    (hx : AddressesKept b.fwd.addresses x.addresses) : Reached a { b with fwd := x } :=
  h.move (.addresses rfl rfl rfl hx) rfl

theorem addressesKept_filter (s : Table AddressEntry) (f : Nat × AddressEntry → Bool) : AddressesKept s (s.filter f) :=
  fun hs hr => ⟨tableSorted_filter f hs, (List.length_filter_le f s).trans hr⟩

theorem Reached.keepAddresses (h : Reached a b) (f : Nat × AddressEntry → Bool) : Reached a (keepAddresses f b) :=
  h.addresses (addressesKept_filter _ f)

/-- An entry in place of one of its key, or in a table with room. -/
theorem addressesKept_insert {s : Table AddressEntry} (n : Nat) (e : AddressEntry)
    (hr : (tableFind s n).isSome = true ∨ s.length < Config.maxAddresses) : AddressesKept s (tableInsert s n e) := by
  refine fun hs hlen => ⟨tableSorted_insert _ _ hs, ?_⟩
  rw [length_tableInsert _ _ hs]
  split
  · exact hlen
  · next hn => exact hr.resolve_left hn

theorem addressesKept_map (s : Table AddressEntry) (f : Nat → AddressEntry → AddressEntry) :
    AddressesKept s (s.map (fun p => (p.1, f p.1 p.2))) := fun hs hr =>
  ⟨by simpa [tableSorted, List.map_map, Function.comp_def] using hs, by simpa using hr⟩

/-- An entry found is found, rewritten, in a table whose entries are rewritten each under its key. -/
theorem tableFind_map_isSome (s : Table AddressEntry) (f : Nat → AddressEntry → AddressEntry) (n : Nat) :
    (tableFind (s.map (fun p => (p.1, f p.1 p.2))) n).isSome = (tableFind s n).isSome := by
  induction s with
  | nil => rfl
  | cons p rest ih =>
    obtain ⟨j, w⟩ := p
    by_cases e : j = n <;> simp [tableFind, e, ih]

theorem Reached.touchAddress (h : Reached a b) (s : Segment) (hw : HwAddr) (p : Port) :
    Reached a (touchAddress s hw p b) := by
  unfold Machine.touchAddress refuseLearning
  (repeat' split)
  · next e he => exact h.addresses (addressesKept_insert _ _ (Or.inl (Option.isSome_of_mem he)))
  · next hroom => exact h.addresses (addressesKept_insert _ _ (Or.inr hroom))
  · exact h.bump _
  · refine Reached.notice ((h.bump .learnRefused).same ?_) _ _
    exact ⟨rfl, rfl, rfl, rfl⟩

theorem Reached.learn (h : Reached a b) (s : Segment) (p : Port) (f : LanFrame) : Reached a (learn s p f b) := by
  have htouched := h.touchAddress s f.src p
  unfold Machine.learn learnNet takeNet
  (repeat' split)
  · exact htouched
  · exact htouched
  · next e he =>
    refine htouched.addresses fun hs hr => ?_
    obtain ⟨hms, hmr⟩ := addressesKept_map _ (losesNet s f.src _) hs hr
    exact addressesKept_insert _ _ (Or.inl (by rw [tableFind_map_isSome]; exact Option.isSome_of_mem he)) hms hmr
  · exact htouched

theorem Reached.requestAdmission (h : Reached a b) (hw : HwAddr) (src dst : NetAddr) (content : List Byte) :
    Reached a (requestAdmission hw src dst content b) := by
  unfold Machine.requestAdmission noteGuestFull
  (repeat' split)
  · refine h.quiet ?_
    apply Touches.guestToLine hw src dst content _ (Touches.bump _ (Touches.putSession hw _ (.refl _ _) ?_) ?_) <;> decide
  · exact h.bump _
  · refine Reached.notice ((h.bump .guestNotAdmitted).same ?_) _ _
    exact ⟨rfl, rfl, rfl, rfl⟩
  · exact h.bump _

theorem Reached.handToLine (h : Reached a b) (s : Segment) (hw : HwAddr) (src dst : NetAddr) (content : List Byte) :
    Reached a (handToLine s hw src dst content b) := by
  have hoffered (k : UplinkClass) (f : UplinkContent) : Reached a (offer k f b) :=
    h.quiet (by apply Touches.offer k f (.refl _ _) <;> decide)
  cases s with
  | guest =>
    simp only [Machine.handToLine, guestUplink]
    split
    · exact h.quiet (by apply Touches.guestToLine hw src dst content _ (.refl _ _) <;> decide)
    · exact h.requestAdmission _ _ _ _
  | _ => exact hoffered _ _

theorem Reached.gatewayNetwork (h : Reached a b) (s : Segment) (hw : HwAddr) (src dst : NetAddr) (content : List Byte) :
    Reached a (gatewayNetwork s hw src dst content b) := by
  unfold Machine.gatewayNetwork towardUplink
  (repeat' split)
  · exact h.bump _
  · exact h.bump _
  · exact h.quiet (by apply Touches.route _ _ _ _ _ (.refl _ _) <;> decide)
  · exact h.handToLine _ _ _ _ _
  · exact h.bump _

theorem Reached.forwardFrame (h : Reached a b) (p : Port) (f : LanFrame) : Reached a (forwardFrame p f b).1 := by
  have hlearned (s : Segment) := h.learn s p f
  unfold Machine.forwardFrame deliver gatewayFrame
  (repeat' split)
  · exact h.bump _
  · exact (hlearned _).bump _
  · exact (hlearned _).quiet (by apply Touches.serviceFrame _ _ _ _ _ _ (.refl _ _); decide)
  · exact (hlearned _).gatewayNetwork _ _ _ _ _
  · exact (hlearned _).quiet (by apply Touches.switchFrame _ _ _ (.refl _ _) <;> decide)
  · exact h.bump _
  · exact h

theorem Reached.writePorts (h : Reached a b) (n : Nat) (r : WriteRecord) : Reached a (writePorts n r b).1 := by
  unfold Machine.writePorts
  (repeat' split)
  · unfold applyPortWrite
    (repeat' split)
    · exact h
    · exact h
    · refine Reached.keepAddresses (h.same ?_) _
      exact ⟨rfl, rfl, rfl, rfl⟩
  · exact h
  · unfold applyGatewayWrite
    split
    · exact h.addresses (addressesKept_map _ _)
    · exact h
  · exact h
  · unfold applyAgingWrite
    split
    · refine Reached.keepAddresses (h.same ?_) _
      exact ⟨rfl, rfl, rfl, rfl⟩
    · exact h
  · exact h
  · unfold applyCollectorWrite
    (repeat' split)
    · exact h.same ⟨rfl, rfl, rfl, rfl⟩
    · exact h.same ⟨rfl, rfl, rfl, rfl⟩
    · exact h
  · exact h
  · exact h

end TableMovesOfAStep

end Sys2Proof.Machine

namespace Sys2Proof.Machine

/-! # The moves of a step: the line, the exchange, management and the restarts -/

section TableMovesOfMessages

variable {a b c : Block}

/-! ## Qualification, the line and its loopbacks (file 10) -/

theorem Reached.finishQual (h : Reached a b) (q : Qualification) : Reached a (finishQual q b) := by
  have hheld : Reached a (senderServed .pattern (holdResult q b)) := h.same ⟨rfl, rfl, rfl, rfl⟩
  refine Reached.quiet (hheld.noticeWith .qualifyResult .line (some (qualClassOf q.length q.bits q.errors))) ?_
  apply Touches.engineResult _ (.refl _ _) <;> decide

theorem Reached.examine (h : Reached a b) (number : Nat) (bits : List Bool) (q : Qualification) :
    Reached a (examine number bits q b) := by
  unfold Machine.examine
  (repeat' split)
  · exact h
  · exact h.finishQual _
  · exact h.same ⟨rfl, rfl, rfl, rfl⟩

theorem Reached.takePattern (h : Reached a b) (number : Nat) (bits : List Bool) :
    Reached a (takePattern number bits b) := by
  unfold Machine.takePattern
  split
  · exact h.bump _
  · exact h.examine _ _ _

theorem Reached.qualifyTimeout (h : Reached a b) : Reached a (qualifyTimeout b) := by
  unfold Machine.qualifyTimeout
  (repeat' split)
  · exact h
  · exact h
  · exact h.finishQual _

theorem Reached.receiveValid (h : Reached a b) : Reached a (receiveValid b) := by
  have hcounted := h.bump .framesReceived
  unfold Machine.receiveValid countForState
  (repeat' split)
  · exact hcounted.same ⟨rfl, rfl, rfl, rfl⟩
  · have hup : Reached a (Machine.notice .uplinkUp .line { Machine.bump .framesReceived b with
        line := { (Machine.bump .framesReceived b).line with up := true, loss := some lossPeriod, kept := [] } }) := by
      refine Reached.notice (hcounted.same ?_) _ _
      exact ⟨rfl, rfl, rfl, rfl⟩
    exact hup.quiet (by apply Touches.signalRoom (.refl _ _) <;> decide)
  · exact hcounted.same ⟨rfl, rfl, rfl, rfl⟩

theorem Reached.lossExpiry (h : Reached a b) : Reached a (lossExpiry b) := by
  have hdown : Reached a (goDown b) := by
    refine Reached.notice (Reached.bump (h.same ?_) _) _ _
    exact ⟨rfl, rfl, rfl, rfl⟩
  have hdiscarded : Reached a (revertSent (Machine.abortQual (discardResult (discardQueue (goDown b))))) := by
    refine hdown.quiet ?_
    refine Touches.revertSent (Touches.abortQual (Touches.discardResult (Touches.discardQueue (.refl _ _) ?_ ?_) ?_) ?_) ?_
      <;> decide
  unfold Machine.lossExpiry
  split
  · exact hdiscarded.abortExchange
  · exact h

theorem Reached.changeLoopback (h : Reached a b) (l : Loopback) (timer : Option Nat) :
    Reached a (changeLoopback l timer b) := by
  have habort {d : Block} (hd : Reached a d) : Reached a (abortForLoopback d) := by
    unfold abortForLoopback
    (repeat' split)
    · exact hd
    · exact hd.abortQual.abortExchange
    all_goals exact hd.abortQual
  refine Reached.notice (habort (h.same ?_)) _ _
  exact ⟨rfl, rfl, rfl, rfl⟩

theorem Reached.applyLoopback (h : Reached a b) (l : Coded Loopback) (d : Option Nat) :
    Reached a (applyLoopback l d b).1 := by
  unfold Machine.applyLoopback applyLoop setLoopback
  (repeat' split)
  · exact h
  · exact h.same ⟨rfl, rfl, rfl, rfl⟩
  · exact h.changeLoopback _ _
  · exact h
  · exact h.same ⟨rfl, rfl, rfl, rfl⟩
  · exact h.changeLoopback _ _
  · exact h
  · exact h
  · exact h.changeLoopback _ _

theorem Reached.loopbackExpiry (h : Reached a b) : Reached a (loopbackExpiry b) := by
  unfold Machine.loopbackExpiry
  split
  · exact h.changeLoopback _ _
  · exact h

/-! ## The exchange engine (file 11) -/

theorem Reached.applyStaged (h : Reached a b) (r : StagedRecord) : Reached a (applyStaged r b).1 := by
  cases r with
  | time v => exact h.quiet (by apply Touches.applyTime v (.refl _ _); decide)
  | price r => exact h.applyPrice r
  | description code t => exact h.applyDescription code t
  | withdraw code => exact h.applyWithdraw code
  | label id k => exact h.applyLabel id k
  | bind id code t => exact h.applyBind id code t
  | unbind id => exact h.applyUnbindRecord id
  | templateChange id t => exact h.applyTemplateRecord id t
  | _ => exact h

theorem Reached.commitBatch (h : Reached a b) (g : Staging) : Reached a (commitBatch g b) := by
  have hrecords (rs : List StagedRecord) (k : Commit) (hk : Reached a k.block) :
      Reached a (rs.foldl commitOne k).block := by
    induction rs generalizing k with
    | nil => exact hk
    | cons r rest ih => exact ih _ (commitOne_block k r ▸ hk.applyStaged r)
  have hcommitted := hrecords g.records (Commit.mk b 1 0 []) h
  have hformed : Reached a (formReply (.batchResult (resultOf g.n (commitRecords g.records b)))
      { (commitRecords g.records b).block with exch := { (commitRecords g.records b).block.exch with
          last := g.n
          stored := some (resultOf g.n (commitRecords g.records b))
          staging := none } }) :=
    hcommitted.quiet (by apply Touches.formReply _ (Touches.exch (.refl _ _) ?_) <;> decide)
  exact ((hformed.notice .batchCommitted .exchange).bump .batchesCommitted).same ⟨rfl, rfl, rfl, rfl⟩

theorem Reached.endBatch (h : Reached a b) (check : Nat) (g : Staging) : Reached a (endBatch check g b) := by
  have hrejected (y : Bool) : Reached a (rejectBatch g y b) :=
    h.quiet (by apply Touches.rejectBatch g y (.refl _ _) <;> decide)
  unfold Machine.endBatch
  split
  · exact hrejected true
  · split
    · exact hrejected false
    · exact h.commitBatch g

theorem Reached.takeExchange (h : Reached a b) (f : ExchangeFrame) : Reached a (takeExchange f b) := by
  have hrefused (k : Byte) (x : Code) : Reached a (refuseExchange k x b) :=
    h.quiet (by apply Touches.refuseExchange _ _ (.refl _ _) <;> decide)
  cases f with
  | batchEnd check =>
    simp only [Machine.takeExchange, takeEnd]
    (repeat' split)
    · exact h.endBatch _ _
    · exact hrefused _ _
    · exact hrefused _ _
  | exchangeOpen => exact h.quiet (by apply Touches.takeOpen (.refl _ _) <;> decide)
  | batchStart n k => exact h.quiet (by apply Touches.takeStart n k (.refl _ _) <;> decide)
  | exchangeRecords rs => exact h.quiet (by apply Touches.takeRecords rs (.refl _ _) <;> decide)
  | _ => exact hrefused _ _

theorem Reached.fromLine (h : Reached a b) (f : ExchangeFrame) : Reached a (fromLine (Machine.takeExchange f) b) := by
  unfold Machine.fromLine
  split
  · exact h.takeExchange f
  · exact h

/-! ## The restarts (R191) -/

theorem Reached.coldRestart (h : Reached a b) : Reached a (coldRestart b) :=
  ⟨h.moves.tail (.cold b), fun _ _ hp => nomatch hp⟩

theorem Reached.clearNotices (h : Reached a b) {q : List NoticeEntry} (hq : q <:+ b.mgmt.notices) :
    Reached a { b with mgmt := { b.mgmt with notices := q } } := h.move (.notices hq) rfl

theorem Reached.warmRestart (h : Reached a b) : Reached a (warmRestart b) := by
  have hmgmt : Reached a (warmMgmt b) := (h.clearNotices List.nil_suffix).same ⟨rfl, rfl, rfl, rfl⟩
  have hmode : Reached a (modeRestarted b) := by
    unfold modeRestarted warmMode
    split
    · exact hmgmt.becomeClosed
    · exact hmgmt
    · exact hmgmt
  have hlabels : Reached a (labelsRestarted b) :=
    (hmode.warmDirectory (warmCycle (modeRestarted b))).same ⟨rfl, rfl, rfl, rfl⟩
  have htill : Reached a (warmTill (labelsRestarted b)) := hlabels.same ⟨rfl, rfl, rfl, rfl⟩
  have hforward : Reached a (warmForwarder (warmTill (labelsRestarted b))) :=
    htill.addresses fun _ _ => ⟨.nil, Nat.zero_le _⟩
  have hline : Reached a (warmLine (warmGuest (warmForwarder (warmTill (labelsRestarted b))))) :=
    hforward.same ⟨rfl, rfl, rfl, rfl⟩
  rw [warmRestart_eq]
  exact hline.abortExchange.same ⟨rfl, rfl, rfl, rfl⟩

/-! ## Commands and record writes (R186, R188) -/

theorem Reached.applySave (h : Reached a b) : Reached a (applySave b).1 := by
  unfold Machine.applySave
  split
  · exact h
  · exact h.same ⟨rfl, rfl, rfl, rfl⟩

theorem Reached.saveComplete (h : Reached a b) : Reached a (saveComplete b) := by
  unfold Machine.saveComplete
  split
  · exact h
  · refine Reached.notice (h.same ?_) _ _
    exact ⟨rfl, rfl, rfl, rfl⟩

/-- What a request of the mode controller answers: the block it gives, or the block as it was. -/
theorem Reached.request {o : Option Block} {f : Block → ReplyBody} {r : ReplyBody} (h : Reached a b)
    (ho : ∀ c, o = some c → Reached a c) :
    Reached a (match o with
      | some c => (c, f c)
      | none => (b, r)).1 := by
  cases o with
  | none => exact h
  | some c => exact ho c rfl

theorem Reached.applyCommand (h : Reached a b) (m : MgmtCommand) : Reached a (applyCommand m b).1 := by
  cases m with
  | openStore => exact h.request fun _ => h.openRequest
  | closeStore => exact h.request fun _ => h.closeRequest
  | closeNow => exact h.request fun _ => h.closeNowRequest
  | windowOpen => exact h.request fun _ => h.windowOpenRequest
  | windowClose => exact h.request fun _ => h.windowCloseRequest
  | setClock v => exact h.quiet (by apply Touches.applySetClock v (.refl _ _); decide)
  | release code => exact h.applyRelease code
  | forceLabel id => exact h.applyForce id
  | qualifyLine n k => exact h.quiet (by apply Touches.applyQualify n k (.refl _ _) <;> decide)
  | loopback l d => exact h.applyLoopback l d
  | endGuest hw => exact h.quiet (by apply Touches.applyEndGuest hw (.refl _ _); decide)
  | clearNotices => exact h.clearNotices List.nil_suffix
  | saveSettings => exact h.applySave
  | _ => exact h

theorem Reached.writeAt (h : Reached a b) (t : TableName) (n : Nat) (r : WriteRecord) : Reached a (writeAt t n r b).1 := by
  cases t with
  | items =>
    cases r with
    | price p => exact h.applyPrice p
    | description code text => exact h.applyDescription code text
    | withdraw code => exact h.applyWithdraw code
    | _ => exact h
  | labels =>
    cases r with
    | label id k => exact h.applyLabel id k
    | bind id code template => exact h.applyBind id code template
    | unbind id => exact h.applyUnbindRecord id
    | templateChange id template => exact h.applyTemplateRecord id template
    | _ => exact h
  | ports => exact h.writePorts n r
  | policy =>
    simp only [Machine.writeAt, writePolicy, applyPolicyWrite]
    (repeat' split)
    · exact h
    · exact h
    · exact h.same ⟨rfl, rfl, rfl, rfl⟩
    · exact h
    · exact h
  | templates =>
    simp only [Machine.writeAt, writeTemplates, applyTemplateWrite]
    (repeat' split)
    · exact h
    · exact h.same ⟨rfl, rfl, rfl, rfl⟩
    · exact h
    · exact h
    · exact h
  | schedule => exact h.quiet (by apply Touches.writeSchedule n r (.refl _ _); decide)
  | priceSettings => exact h.quiet (by apply Touches.writePriceSettings n r (.refl _ _) <;> decide)
  | glyphs => exact h.quiet (by apply Touches.writeGlyphs n r (.refl _ _); decide)
  | radioSettings => exact h.quiet (by apply Touches.writeRadio n r (.refl _ _); decide)
  | guestProfile => exact h.quiet (by apply Touches.writeGuest n r (.refl _ _); decide)
  | _ => exact h

theorem Reached.setWindow (h : Reached a b) (src : MgmtSource) (w : TableWindow) : Reached a (setWindow src w b) := by
  cases src <;> exact h.same ⟨rfl, rfl, rfl, rfl⟩

theorem Reached.setWrites (h : Reached a b) (l : List WriteProgress) : Reached a (setWrites l b) :=
  h.same ⟨rfl, rfl, rfl, rfl⟩

theorem Reached.answerMgmt (h : Reached a b) (src : MgmtSource) (tag : Nat) (r : ReplyBody) :
    Reached a (answerMgmt src tag r b) := h.quiet (by apply Touches.answerMgmt src tag r (.refl _ _) <;> decide)

theorem Reached.writeFrom (h : Reached a b) (src : MgmtSource) (index : Nat) (rs : List WriteRecord) :
    Reached a (writeFrom src index rs b).1 := by
  induction rs generalizing index b with
  | nil =>
    unfold Machine.writeFrom
    split <;> exact h
  | cons r rest ih =>
    unfold Machine.writeFrom
    (repeat' split)
    · exact h
    · exact h.writeAt _ _ _
    · exact ih ((h.writeAt _ _ _).setWindow _ _) _

theorem Reached.applyWrite (h : Reached a b) (src : MgmtSource) (rs : List WriteRecord) :
    Reached a (applyWrite src rs b).1 := by
  have hrecords := h.writeFrom src 1 rs
  unfold Machine.applyWrite
  (repeat' split) <;> assumption

/-- R186: one record of a WRITE taken record by record, and what is due with it. -/
theorem Reached.answerPart (h : Reached a b) (g : MgmtHeader) (index count : Nat) (r : WriteRecord)
    (others : List WriteProgress) (w : TableWindow) : Reached a (answerWrite g (writePart g index count r others w b)) := by
  have hrecord := h.writeAt w.table w.cursor r
  rcases writePart_cases g index count r others w b with ⟨_, _, e⟩ | ⟨_, _, e⟩ | ⟨_, _, e⟩ <;> rw [e]
  · exact (hrecord.setWrites _).answerMgmt _ _ _
  · exact ((hrecord.setWindow _ _).setWrites _).answerMgmt _ _ _
  · exact (hrecord.setWindow _ _).setWrites _

theorem Reached.partOfWrite (h : Reached a b) (g : MgmtHeader) (index count : Nat) (r : WriteRecord) :
    Reached a (partOfWrite g index count r b) := by
  rcases partOfWrite_cases g index count r b with e | e | ⟨-, e⟩ | ⟨-, e⟩ <;> rw [e]
  · exact h
  · exact h.bump _
  · unfold writeFirst
    (repeat' split)
    · exact h.answerMgmt _ _ _
    · exact h.answerMgmt _ _ _
    · exact h.answerPart _ _ _ _ _ _
    · exact h.answerMgmt _ _ _
  · unfold writeLater
    (repeat' split)
    · exact h.setWrites _
    · exact h.answerPart _ _ _ _ _ _
    · exact h.setWrites _

/-! ## Messages and frames (R129 to R139, R159, R167, R168, R184) -/

theorem Reached.message (h : Reached a b) (g : MgmtHeader) {f : Block → Block × ReplyBody} (hf : Reached a (f b).1) :
    Reached a (message g f b) := by
  rcases message_cases g f b with e | e | e <;> rw [e]
  · exact h
  · exact h.bump _
  · exact hf.answerMgmt _ _ _

theorem Reached.silentMessage (h : Reached a b) (g : MgmtHeader) {f : Block → Block} (hf : Reached a (f b)) :
    Reached a (silentMessage g f b) := by
  rcases silentMessage_cases g f b with e | e | e <;> rw [e]
  · exact h
  · exact h.bump _
  · exact hf

theorem Reached.writeBy (h : Reached a b) (via : Via) (t : TableName) (r : WriteRecord) : Reached a (writeBy via t r b) := by
  cases via with
  | message g => exact h.message g (h.applyWrite _ _)
  | part g index count => exact h.partOfWrite _ _ _ _
  | event n => exact (h.writeAt t n r).emit _

theorem Reached.applyWindow (h : Reached a b) (src : MgmtSource) (t : Coded TableName) (first last : Nat)
    (d : Coded Direction) : Reached a (applyWindow src t first last d b).1 := by
  unfold Machine.applyWindow
  (repeat' split)
  · exact h
  · exact h
  · exact h
  · exact h.setWindow _ _

theorem Reached.applyRead (h : Reached a b) (src : MgmtSource) (n : Nat) : Reached a (applyRead src n b).1 := by
  unfold Machine.applyRead
  (repeat' split)
  · exact h
  · exact h.setWindow _ _
  · exact h

theorem Reached.takeMessage (h : Reached a b) (src : MgmtSource) (m : MgmtMessage) : Reached a (takeMessage src m b) := by
  unfold Machine.takeMessage forStation
  split
  · cases m.body with
    | window t first last d => exact (h.applyWindow src t first last d).answerMgmt _ _ _
    | write rs => exact (h.applyWrite src rs).answerMgmt _ _ _
    | read n => exact (h.applyRead src n).answerMgmt _ _ _
    | command k =>
      cases k with
      | warmRestart => exact h.warmRestart
      | coldRestart => exact h.coldRestart
      | _ => exact (h.applyCommand _).answerMgmt _ _ _
    | _ => exact h.answerMgmt _ _ _
  · exact h.bump _

theorem Reached.lanFrame (h : Reached a b) (p : Port) (f : LanFrame) : Reached a (lanFrame p f b) := by
  have hforwarded := h.forwardFrame p f
  unfold Machine.lanFrame serve
  split
  · exact hforwarded
  · exact hforwarded.tillFrame _ _
  · exact hforwarded.takeMessage _ _

theorem Reached.takeAck (h : Reached a b) (n : Nat) : Reached a (takeAck n b) :=
  h.quiet (by apply Touches.takeAck n (.refl _ _) <;> decide)

theorem Reached.takeTestLoop (h : Reached a b) : Reached a (takeTestLoop b) :=
  h.quiet (by apply Touches.takeTestLoop (.refl _ _); decide)

theorem Reached.passOn (h : Reached a b) (k : LineContent) : Reached a (passOn k b) := by
  cases k with
  | alive => exact h
  | data src dst content => exact h.quiet (by apply Touches.fromUplink src dst content (.refl _ _) <;> decide)
  | management m => exact h.takeMessage _ _
  | exchange f => exact h.takeExchange f
  | journalAck n => exact h.takeAck n
  | testLoop => exact h.takeTestLoop
  | testPattern number bits =>
    simp only [Machine.passOn]
    split
    · exact h.takePattern number bits
    · exact h.bump _
  | _ => exact h.bump _

theorem Reached.arriveFromLine (h : Reached a b) (f : LineInput) : Reached a (arriveFromLine f b) := by
  have hcrc := h.bump .crcError
  have hecho : Reached a (Machine.bump .remoteEchoed (Machine.emit (.lineEcho f) b)) := (h.emit _).bump _
  unfold Machine.arriveFromLine receiveFrame damagedFrame validFrame echoFrame checkRemote
  (repeat' split)
  · exact h.bump _
  · exact hcrc.examine _ _ _
  · exact hcrc
  · exact hcrc
  · exact h.receiveValid.passOn _
  · exact h.receiveValid.bump _
  · exact h
  · exact hecho.bump _
  · exact hecho.bump _
  · exact hecho.receiveValid
  · exact hecho.receiveValid.bump _

theorem Reached.arriveReturned (h : Reached a b) : Reached a (arriveReturned b) := by
  unfold Machine.arriveReturned
  split
  · next f rest _ _ =>
    have htaken : Reached a { b with line := { b.line with returning := rest } } := h.same ⟨rfl, rfl, rfl, rfl⟩
    have hvalid := htaken.receiveValid
    unfold takeReturned sortReturned
    (repeat' split)
    · exact htaken.bump _
    · exact hvalid.takeTestLoop
    · exact hvalid.bump _
    · exact hvalid.takePattern _ _
    · exact hvalid.bump _
    · exact hvalid.bump _
    · exact (hvalid.bump _).bump _
  · exact h

theorem Reached.noticeSend (h : Reached a b) : Reached a (noticeSend b) := by
  have hdropped {d : Block} (hd : Reached a d) : Reached a (dropHead d) := hd.clearNotices (List.drop_suffix 1 _)
  refine keeps_getD h fun c hc => ?_
  unfold noticeSend? at hc
  split at hc
  · next x e _ _ _ =>
    unfold sendHead at hc
    (repeat' split at hc)
    · obtain ⟨p, -, rfl⟩ := Option.map_eq_some_iff.1 hc
      exact hdropped (h.quiet (by apply Touches.noticeToOffice x p e (.refl _ _); decide))
    · cases hc
    · cases hc
      exact hdropped (h.same ⟨rfl, rfl, rfl, rfl⟩)
    · cases hc
  · cases hc

/-! ## The step -/

theorem Reached.effect (h : Reached a b) (i : Instr) : Reached a (effect i b) := by
  cases i with
  | openCmd g => exact h.message g (h.applyCommand .openStore)
  | closeCmd g => exact h.message g (h.applyCommand .closeStore)
  | closeNow g => exact h.message g (h.applyCommand .closeNow)
  | windowOpen g => exact h.message g (h.applyCommand .windowOpen)
  | windowClose g => exact h.message g (h.applyCommand .windowClose)
  | setClock g v => exact h.message g (h.applyCommand (.setClock v))
  | release g code => exact h.message g (h.applyCommand (.release code))
  | forceLabel g id => exact h.message g (h.applyCommand (.forceLabel id))
  | qualifyLine g n k => exact h.message g (h.applyCommand (.qualifyLine n k))
  | loopback g l d => exact h.message g (h.applyCommand (.loopback l d))
  | endGuest g hw => exact h.message g (h.applyCommand (.endGuest hw))
  | clearNotices g => exact h.message g (h.applyCommand .clearNotices)
  | saveSettings g => exact h.message g (h.applyCommand .saveSettings)
  | window g t first last d => exact h.message g (h.applyWindow _ t first last d)
  | read g n => exact h.message g (h.applyRead _ n)
  | status g => exact h.message g h
  | readOnlyWrite g rs => exact h.message g (h.applyWrite _ rs)
  | warmRestart g => exact h.silentMessage g h.warmRestart
  | coldRestart g => exact h.silentMessage g h.coldRestart
  | resetLine retain =>
    have hpins : Reached a { b with pins := { b.pins with retain := retain } } := h.same ⟨rfl, rfl, rfl, rfl⟩
    simp only [Machine.effect, resetBy]
    split
    · exact hpins.warmRestart
    · exact hpins.coldRestart
  | powerUp => exact h.coldRestart
  | drainTimerExpiry => exact h.drainExpiry
  | clockAdvance => exact h.clockAdvance
  | itemRetarget => exact h.itemRetarget
  | templateRetarget => exact h.templateRetarget
  | sweepVisit => exact h.sweepVisit
  | beacon => exact h.beacon
  | replyWindowClose => exact h.replyWindowClose
  | checkIn k => exact h.radioCheckIn k
  | lanFrame p f => exact h.lanFrame p f
  | lineFrame x =>
    cases x with
    | fromLine f => exact h.arriveFromLine f
    | returned => exact h.arriveReturned
  | exchangeOpen => exact h.fromLine .exchangeOpen
  | batchStart n k => exact h.fromLine (.batchStart n k)
  | exchangeRecords rs => exact h.fromLine (.exchangeRecords rs)
  | batchEnd check => exact h.fromLine (.batchEnd check)
  | journalAck n =>
    simp only [Machine.effect]
    split
    · exact h.takeAck n
    · exact h
  | hello s n => exact h.tillFrame s (.hello n)
  | priceQuery s n k => exact h.tillFrame s (.priceQuery n k)
  | saleRecord s n q t l => exact h.tillFrame s (.saleRecord n q t l)
  | silenceTimerExpiry n => exact h.silenceExpiry n
  | lossTimerExpiry => exact h.lossExpiry
  | loopbackTimerExpiry => exact h.loopbackExpiry
  | qualifyTimeout => exact h.qualifyTimeout
  | noticeSend => exact h.noticeSend
  | saveComplete => exact h.saveComplete
  | linkUp p => exact h.same ⟨rfl, rfl, rfl, rfl⟩
  | linkDown p =>
    have hport : Reached a (setPort p { b.fwd.ports.get p with up := false } b) := h.same ⟨rfl, rfl, rfl, rfl⟩
    exact hport.keepAddresses _
  | addressAgingExpiry s hw => exact h.keepAddresses _
  | transmitStart => exact h.quiet (by apply Touches.transmitStart (.refl _ _) <;> decide)
  | timeLimitExpiry hw => exact h.quiet (by apply Touches.timeLimitExpiry hw (.refl _ _); decide)
  | idleLimitExpiry hw => exact h.quiet (by apply Touches.idleLimitExpiry hw (.refl _ _); decide)
  | cooldownEnd hw => exact h.quiet (by apply Touches.cooldownEnd hw (.refl _ _); decide)
  | governorReading => exact h.quiet (by apply Touches.governorReading (.refl _ _) <;> decide)
  | labelReply t => exact h.quiet (by apply Touches.labelReply t (.refl _ _) <;> decide)
  | journalBlock => exact h.quiet (by apply Touches.journalBlock (.refl _ _) <;> decide)
  | acknowledgementTimerExpiry => exact h.quiet (by apply Touches.ackTimerExpiry (.refl _ _) <;> decide)
  | aliveTimerExpiry => exact h.quiet (by apply Touches.aliveExpiry (.refl _ _); decide)
  | reopenHoldExpiry => exact h.quiet (by apply Touches.stopHold (.refl _ _); decide)
  | _ => exact h.writeBy _ _ _

theorem Reached.tick (h : Reached a b) : Reached a (tick b) := h.same ⟨rfl, rfl, rfl, rfl⟩

/-- What a step does to the tables is a run of moves, and leaves the label states in order. -/
theorem reached_of_step {s t : State} (h : step s = .next t) : Reached s.block t.block :=
  step_keeps (P := Reached s.block) (fun i _ hb => hb.effect i) (fun _ hb => hb.tick) (.refl _) h

/-- An invariant that every move keeps is kept by a step. -/
theorem keeps_of_moves {P : Block → Prop} {s t : State}
    (hP : ∀ {b c}, TableMove (LabelStates s.block) b c → P b → P c) (hs : P s.block) (h : step s = .next t) :
    P t.block := by
  have hmoves := (reached_of_step h).moves
  generalize t.block = c at hmoves
  induction hmoves with
  | refl => exact hs
  | tail _ hm ih => exact hP hm ih

end TableMovesOfMessages

end Sys2Proof.Machine

namespace Sys2Proof.Machine

/-! # The notice queue and the keyed tables are kept by every step -/

section NoticesKept

variable {e x : NoticeEntry} {q r : List NoticeEntry} {b c : Block} {N : Prop}

/-! ## The notice queue (R189) -/

/-- No kind and subject is the key of both entries. -/
def KeysApart (x y : NoticeEntry) : Prop :=
  ∀ kind subject, entryHasKey kind subject x = true → entryHasKey kind subject y = false

theorem KeysApart.symm {y : NoticeEntry} (h : KeysApart x y) : KeysApart y x := fun k s hy => by
  cases hx : entryHasKey k s x with
  | false => rfl
  | true => exact absurd hy (by rw [h k s hx]; simp)

/-- The rules of the notice queue, of the list alone. -/
structure NoticesOk (q : List NoticeEntry) : Prop where
  room : (q.filter entryIsKeyed).length ≤ Config.maxNotices
  overflow : q.countP (fun e => !entryIsKeyed e) ≤ 1
  priority : q.Pairwise (fun x y => entryPriority x ≤ entryPriority y)
  keys : q.Pairwise KeysApart

theorem noticeRules_iff : NoticeRules b ↔ NoticesOk b.mgmt.notices :=
  ⟨fun ⟨h1, h2, h3, h4⟩ => ⟨h1, h2, h3, h4⟩, fun ⟨h1, h2, h3, h4⟩ => ⟨h1, h2, h3, h4⟩⟩

theorem NoticesOk.sublist (h : NoticesOk q) (hs : r.Sublist q) : NoticesOk r where
  room := (hs.filter _).length_le.trans h.room
  overflow := hs.countP_le.trans h.overflow
  priority := h.priority.sublist hs
  keys := h.keys.sublist hs

/-- Entries rewritten with their kinds and subjects. -/
theorem NoticesOk.map (h : NoticesOk q) {f : NoticeEntry → NoticeEntry} (hk : ∀ e, entryIsKeyed (f e) = entryIsKeyed e)
    (hp : ∀ e, entryPriority (f e) = entryPriority e)
    (hs : ∀ k s e, entryHasKey k s (f e) = entryHasKey k s e) : NoticesOk (q.map f) where
  room := by simpa [List.filter_map, Function.comp_def, hk] using h.room
  overflow := by simpa [List.countP_map, Function.comp_def, hk] using h.overflow
  priority := by simpa [List.pairwise_map, hp] using h.priority
  keys := List.pairwise_map.2 (h.keys.imp fun hxy k s hx => by rw [hs] at hx ⊢; exact hxy k s hx)

theorem noticeInsert_perm (e : NoticeEntry) (q : List NoticeEntry) : (noticeInsert e q).Perm (e :: q) := by
  induction q with
  | nil => exact .refl _
  | cons x rest ih =>
    unfold noticeInsert
    split
    · exact .refl _
    · exact (ih.cons x).trans (.swap e x rest)

/-- R189: an entry put behind the last of its priority or of a lower number leaves the queue in order. -/
theorem noticeInsert_priority (h : q.Pairwise (fun x y => entryPriority x ≤ entryPriority y)) :
    (noticeInsert e q).Pairwise (fun x y => entryPriority x ≤ entryPriority y) := by
  induction q with
  | nil => simp [noticeInsert]
  | cons x rest ih =>
    obtain ⟨hx, hrest⟩ := List.pairwise_cons.1 h
    unfold noticeInsert
    split
    · next hlt =>
      refine List.pairwise_cons.2 ⟨fun y hy => ?_, h⟩
      rcases List.mem_cons.1 hy with rfl | hy
      · exact hlt.le
      · exact hlt.le.trans (hx y hy)
    · next hle =>
      refine List.pairwise_cons.2 ⟨fun y hy => ?_, ih hrest⟩
      rcases List.mem_cons.1 ((noticeInsert_perm e rest).subset hy) with rfl | hy
      · exact not_lt.1 hle
      · exact hx y hy

theorem NoticesOk.insert (h : NoticesOk q) (hk : ∀ y ∈ q, KeysApart e y)
    (hroom : ((e :: q).filter entryIsKeyed).length ≤ Config.maxNotices)
    (hone : (e :: q).countP (fun e => !entryIsKeyed e) ≤ 1) : NoticesOk (noticeInsert e q) where
  room := ((noticeInsert_perm e q).filter _).length_eq.trans_le hroom
  overflow := ((noticeInsert_perm e q).countP_eq _).trans_le hone
  priority := noticeInsert_priority h.priority
  keys := ((noticeInsert_perm e q).pairwise_iff KeysApart.symm).2 (List.pairwise_cons.2 ⟨hk, h.keys⟩)

theorem entryRepeat_spec (clock : Option Nat) (result : Option QualClass) (e : NoticeEntry) :
    entryIsKeyed (entryRepeat clock result e) = entryIsKeyed e ∧
      entryPriority (entryRepeat clock result e) = entryPriority e ∧
      ∀ k s, entryHasKey k s (entryRepeat clock result e) = entryHasKey k s e := by
  cases e <;> exact ⟨rfl, rfl, fun _ _ => rfl⟩

/-- R189: a notice that finds no room counts in the OVERFLOW entry. -/
theorem NoticesOk.fold (h : NoticesOk q) : NoticesOk (noticeFold q) := by
  unfold noticeFold
  split
  · refine h.map ?_ ?_ ?_ <;> intros <;> split <;> rfl
  · next hn =>
    have hkeyed : q.countP (fun e => !entryIsKeyed e) = 0 := List.countP_eq_zero.2 (by simpa using hn)
    refine h.insert (fun _ _ _ _ hk => by cases hk) h.room ?_
    rw [List.countP_cons, hkeyed]
    decide

/-- R189: the queue after a notice: a repeat, an entry in its place, or a count in the OVERFLOW entry. -/
theorem NoticesOk.queueAfter (h : NoticesOk q) (k : NoticeKind) (s : NoticeSubject) (result : Option QualClass)
    (clock : Option Nat) : NoticesOk (noticeQueueAfter k s result clock q) := by
  unfold noticeQueueAfter
  split
  · refine h.map ?_ ?_ ?_ <;> intros <;> split
    · exact (entryRepeat_spec ..).1
    · rfl
    · exact (entryRepeat_spec ..).2.1
    · rfl
    · exact (entryRepeat_spec ..).2.2 _ _
    · rfl
  · next hn =>
    split
    · next hroom =>
      refine h.insert (fun y hy k' s' hk => ?_) hroom h.overflow
      obtain ⟨rfl, rfl⟩ : k = k' ∧ s = s' := by simpa [entryHasKey] using hk
      simp only [List.any_eq_true, not_exists, not_and, Bool.not_eq_true] at hn
      exact hn y hy
    · exact h.fold

theorem noticeRules_of_move (m : TableMove N b c) (h : NoticeRules b) : NoticeRules c := by
  rw [noticeRules_iff] at *
  have same (hc : c.mgmt.notices = b.mgmt.notices) : NoticesOk c.mgmt.notices := hc ▸ h
  have touched (t : Touches [.items, .labels, .composer] b c) : NoticesOk c.mgmt.notices :=
    same (congrArg MgmtBlock.notices (t.keeps .mgmt (by decide)).symm)
  cases m with
  | same hs => exact same hs.notices
  | notice k s r => exact h.queueAfter k s r _
  | notices hq => exact h.sublist hq.sublist
  | relabel => exact h
  | addLabel => exact h
  | presence => exact h
  | release ws =>
    exact touched ((Touches.putLabel _ _ (.refl _ b) (by decide)).trans ((releaseAll_touches ws _).mono (by decide)))
  | unbind => exact touched (by apply Touches.giveUpBinding _ _ _ (.refl _ _) <;> decide)
  | rebind => exact touched (by apply Touches.bindToItem _ _ (Touches.giveUpBinding _ _ _ (.refl _ _) ?_ ?_ ?_) <;> decide)
  | select => exact touched (by apply Touches.putLabel _ _ (Touches.takeTarget _ (.refl _ _) ?_) <;> decide)
  | newItem => exact h
  | rewrite => exact h
  | withdraw => exact h
  | addresses _ _ hn _ => exact same hn
  | cold =>
    change NoticesOk (if _ then [] else [settingsDefaultedEntry])
    split
    · exact ⟨by decide, by decide, .nil, .nil⟩
    · exact ⟨by decide, by decide, List.pairwise_singleton _ _, List.pairwise_singleton _ _⟩

end NoticesKept

section TablesKeyed

variable {b c : Block} {id code : Nat} {i j : Item} {l m : Label} {N : Prop}

/-! ## What the release and take references leave of an item (R36) -/

theorem putItem_bound {k : Nat} (hi : getItem b code = some i) (hj : j.bound = i.bound) :
    (getItem (putItem code j b) k).map Item.bound = (getItem b k).map Item.bound := by
  by_cases hk : k = code
  · subst hk
    rw [getItem_putItem_self, hi]
    exact congrArg some hj
  · rw [getItem_putItem_other b j hk]

/-- R36: a release reference leaves every item's list of bound labels. -/
theorem releaseWhat_bound (w : RefWhat) (b : Block) (k : Nat) :
    (getItem (releaseWhat w b) k).map Item.bound = (getItem b k).map Item.bound := by
  cases w with
  | blank => rfl
  | version code s n t =>
    simp only [releaseWhat, releaseReference]
    split
    · next hi _ => exact putItem_bound hi rfl
    · rfl

theorem releaseAll_bound (ws : List RefWhat) (b : Block) (k : Nat) :
    (getItem (releaseAll ws b) k).map Item.bound = (getItem b k).map Item.bound := by
  induction ws generalizing b with
  | nil => rfl
  | cons w rest ih => exact (ih _).trans (releaseWhat_bound w b k)

/-- R38: the label leaves the list of its own item and no other. -/
theorem leaveItem_bound (id : Nat) (l : Label) (b : Block) (k : Nat) :
    (getItem (leaveItem id l b) k).map Item.bound =
      (getItem b k).map (fun i => if l.item = some k then listRemove i.bound id else i.bound) := by
  unfold leaveItem
  split
  · next old hold =>
    unfold unbindFromItem
    cases hi : getItem b old with
    | none =>
      by_cases hk : k = old
      · simp [hk, hi]
      · simp [hold, Ne.symm hk]
    | some i =>
      by_cases hk : k = old
      · subst hk
        simp [hi, hold]
      · simp [hold, getItem_putItem_other b _ hk, Ne.symm hk]
  · next hnone => simp [hnone]

/-- R60, R61: what giving up a binding leaves of the lists of bound labels. -/
theorem giveUpBinding_bound (item template : Option Nat) (hl : getLabel b id = some l) (k : Nat) :
    (getItem (giveUpBinding id item template b) k).map Item.bound =
      (getItem b k).map (fun i => if l.item = some k then listRemove i.bound id else i.bound) := by
  rw [giveUpBinding_of_some item template hl]
  change (getItem (leaveItem id l _) k).map Item.bound = _
  rw [leaveItem_bound]
  have hreleased := releaseAll_bound (labelRefs l) (putLabel id (unboundLabel item template l) b) k
  have hmap := congrArg (Option.map (fun s => if l.item = some k then listRemove s id else s)) hreleased
  simp only [Option.map_map] at hmap
  exact hmap

/-! ## The tables (R33, R38, R53, R132) -/

/-- The rules of the item table's records: keyed, within its room, at most 8 bound labels each. -/
structure ItemsKeyed (b : Block) : Prop where
  sorted : tableSorted b.items.table
  room : b.items.table.length ≤ Config.maxItems
  bound : ∀ code i, getItem b code = some i → i.bound.length ≤ Config.maxBound

/-- The rules of the label table's records: keyed, within its room. -/
structure LabelsKeyed (b : Block) : Prop where
  sorted : tableSorted b.labels.table
  room : b.labels.table.length ≤ Config.maxLabels

/-- The rules of the address table's entries: keyed, within its room. -/
structure AddressesKeyed (b : Block) : Prop where
  sorted : tableSorted b.fwd.addresses
  room : b.fwd.addresses.length ≤ Config.maxAddresses

theorem tablesKept_iff : TablesKept b ↔ ItemsKeyed b ∧ LabelsKeyed b ∧ AddressesKeyed b := by
  constructor
  · rintro ⟨his, hir, hls, hlr, has, har, hbound⟩
    exact ⟨⟨his, hir, fun code i hi => hbound _ (mem_of_tableFind hi)⟩, ⟨hls, hlr⟩, has, har⟩
  · rintro ⟨⟨his, hir, hbound⟩, ⟨hls, hlr⟩, has, har⟩
    exact ⟨his, hir, hls, hlr, has, har, fun p hp => hbound p.1 p.2 (tableFind_of_mem his hp)⟩

theorem ItemsKeyed.of_table (h : ItemsKeyed b) (hc : c.items.table = b.items.table) : ItemsKeyed c := by
  obtain ⟨hs, hr, hb⟩ := h
  exact ⟨hc ▸ hs, hc ▸ hr, fun code i hi => hb code i (by rwa [getItem, hc] at hi)⟩

theorem ItemsKeyed.of_touches (h : ItemsKeyed b) {ps : List Part} (t : Touches ps b c) (hp : Part.items ∉ ps) :
    ItemsKeyed c := h.of_table (congrArg ItemBlock.table (t.keeps .items hp).symm)

/-- A record in place of one of its code, or in a table with room. -/
theorem ItemsKeyed.putItem (h : ItemsKeyed b)
    (hroom : (getItem b code).isSome = true ∨ b.items.table.length < Config.maxItems)
    (hj : j.bound.length ≤ Config.maxBound) : ItemsKeyed (putItem code j b) where
  sorted := tableSorted_insert _ _ h.sorted
  room := by
    rw [putItem_items, length_tableInsert _ _ h.sorted]
    split
    · exact h.room
    · next hn => exact hroom.resolve_left hn
  bound := fun k i hi => by
    by_cases hk : k = code
    · subst hk
      rw [getItem_putItem_self] at hi
      cases hi
      exact hj
    · rw [getItem_putItem_other b j hk] at hi
      exact h.bound k i hi

theorem ItemsKeyed.rewrite (h : ItemsKeyed b) (hi : getItem b code = some i) (hj : j.bound.length ≤ i.bound.length) :
    ItemsKeyed (Machine.putItem code j b) :=
  h.putItem (Or.inl (Option.isSome_of_mem hi)) (hj.trans (h.bound code i hi))

theorem ItemsKeyed.releaseAll (h : ItemsKeyed b) (ws : List RefWhat) : ItemsKeyed (releaseAll ws b) := by
  induction ws generalizing b with
  | nil => exact h
  | cons w rest ih =>
    refine ih ?_
    cases w with
    | blank => exact h
    | version code k n t =>
      simp only [releaseWhat, releaseReference]
      split
      · next hi _ => exact h.rewrite hi le_rfl
      · exact h

theorem ItemsKeyed.takeTarget (h : ItemsKeyed b) (t : Target) : ItemsKeyed (takeTarget t b) := by
  cases t with
  | blank => exact h
  | version code k n =>
    simp only [Machine.takeTarget, takeReference]
    split
    · next hi _ => exact h.rewrite hi le_rfl
    · exact h

theorem ItemsKeyed.giveUpBinding (h : ItemsKeyed b) (item template : Option Nat) (hl : getLabel b id = some l) :
    ItemsKeyed (giveUpBinding id item template b) := by
  rw [giveUpBinding_of_some item template hl]
  have hreleased := (h.of_table (c := putLabel id (unboundLabel item template l) b) rfl).releaseAll (labelRefs l)
  have hleft : ItemsKeyed (leaveItem id l (Machine.releaseAll (labelRefs l) (putLabel id (unboundLabel item template l) b))) := by
    unfold leaveItem
    split
    · unfold unbindFromItem
      split
      · next o hi => exact hreleased.rewrite (j := { o with bound := _ }) hi (List.length_filter_le _ _)
      · exact hreleased
    · exact hreleased
  exact hleft.of_table rfl

/-- R60: a label joins the list of an item that it does not leave, and that has room. -/
theorem ItemsKeyed.rebind (h : ItemsKeyed b) (template : Option Nat) (hl : getLabel b id = some l)
    (hne : l.item ≠ some code) (hc : getItem b code = some i) (hroom : i.bound.length < Config.maxBound) :
    ItemsKeyed (bindToItem code id (Machine.giveUpBinding id (some code) template b)) := by
  have hgiven := h.giveUpBinding (some code) template hl
  have hbound := giveUpBinding_bound (some code) template hl code
  simp only [hc, hne, if_false, Option.map_some] at hbound
  obtain ⟨o, ho, hob⟩ := Option.map_eq_some_iff.1 hbound
  simp only [bindToItem, ho]
  refine hgiven.putItem (Or.inl (Option.isSome_of_mem ho)) ?_
  rw [hob, List.length_append]
  exact hroom

theorem LabelsKeyed.of_table (h : LabelsKeyed b) (hc : c.labels.table = b.labels.table) : LabelsKeyed c :=
  ⟨hc ▸ h.sorted, hc ▸ h.room⟩

theorem LabelsKeyed.of_touches (h : LabelsKeyed b) {ps : List Part} (t : Touches ps b c) (hp : Part.labels ∉ ps) :
    LabelsKeyed c := h.of_table (congrArg LabelBlock.table (t.keeps .labels hp).symm)

theorem LabelsKeyed.insert (h : LabelsKeyed b)
    (hroom : (getLabel b id).isSome = true ∨ b.labels.table.length < Config.maxLabels)
    (hc : c.labels.table = tableInsert b.labels.table id m) : LabelsKeyed c := by
  refine ⟨hc ▸ tableSorted_insert _ _ h.sorted, ?_⟩
  rw [hc, length_tableInsert _ _ h.sorted]
  split
  · exact h.room
  · next hn => exact hroom.resolve_left hn

theorem itemsKeyed_of_move (t : TableMove N b c) (h : ItemsKeyed b) : ItemsKeyed c := by
  cases t with
  | same hs => exact h.of_table hs.items
  | notice => exact h.of_table rfl
  | notices => exact h.of_table rfl
  | relabel => exact h.of_table rfl
  | addLabel => exact h.of_table rfl
  | presence => exact h.of_table rfl
  | release ws => exact (h.of_table (c := putLabel _ _ b) rfl).releaseAll ws
  | unbind hl => exact h.giveUpBinding none none hl
  | rebind template hl hne hc hroom => exact h.rebind template hl hne hc hroom
  | select => exact (h.takeTarget _).of_table rfl
  | newItem hn hroom hb hr => exact h.putItem (Or.inr hroom) (by rw [hb]; exact Nat.zero_le _)
  | rewrite hi hb hs => exact h.rewrite hi (by rw [hb])
  | @withdraw _ code i hi hb =>
    refine ⟨tableSorted_erase code h.sorted, (List.length_filter_le _ _).trans h.room, fun k i hk => ?_⟩
    by_cases hkc : k = code
    · subst hkc
      cases (tableFind_erase_self b.items.table k).symm.trans hk
    · exact h.bound k i ((tableFind_erase_other b.items.table hkc).symm.trans hk)
  | addresses hi => exact h.of_table hi
  | cold => exact ⟨.nil, Nat.zero_le _, fun _ _ hi => nomatch hi⟩

theorem labelsKeyed_of_move (t : TableMove N b c) (h : LabelsKeyed b) : LabelsKeyed c := by
  cases t with
  | same hs => exact h.of_table hs.labels
  | notice => exact h.of_table rfl
  | notices => exact h.of_table rfl
  | relabel hl => exact h.insert (Or.inl (Option.isSome_of_mem hl)) rfl
  | addLabel cls hn hroom => exact h.insert (Or.inr hroom) rfl
  | presence cycle =>
    have hs := tableSorted_mapValues (fun l : Label => { l with heard := some cycle, candidate := none }) h.sorted
    exact ⟨hs, by simpa [restartPresence, tableMapValues] using h.room⟩
  | release ws hl => exact h.insert (Or.inl (Option.isSome_of_mem hl)) (by rw [releaseAll_labels]; rfl)
  | unbind hl => exact h.insert (Or.inl (Option.isSome_of_mem hl)) (giveUpBinding_table none none hl)
  | rebind template hl =>
    exact (h.insert (Or.inl (Option.isSome_of_mem hl)) (giveUpBinding_table _ template hl)).of_touches
      (Touches.bindToItem _ _ (.refl [.items] _) (by decide)) (by decide)
  | @select _ _ _ t u hl =>
    have htable : (takeTarget t b).labels = b.labels :=
      ((Touches.takeTarget t (.refl [.items] b) (by decide)).keeps .labels (by decide)).symm
    exact h.insert (Or.inl (Option.isSome_of_mem hl))
      (congrArg (fun d : LabelBlock => tableInsert d.table _ _) htable)
  | newItem => exact h.of_table rfl
  | rewrite => exact h.of_table rfl
  | withdraw => exact h.of_table rfl
  | addresses _ hl => exact h.of_table hl
  | cold => exact ⟨.nil, Nat.zero_le _⟩

theorem addressesKeyed_of_move (t : TableMove N b c) (h : AddressesKeyed b) : AddressesKeyed c := by
  have same (hc : c.fwd.addresses = b.fwd.addresses) : AddressesKeyed c := ⟨hc ▸ h.sorted, hc ▸ h.room⟩
  have touched (t : Touches [.items, .labels, .composer] b c) : AddressesKeyed c :=
    same (congrArg ForwarderBlock.addresses (t.keeps .fwd (by decide)).symm)
  cases t with
  | same hs => exact same hs.addresses
  | notice => exact same rfl
  | notices => exact same rfl
  | relabel => exact same rfl
  | addLabel => exact same rfl
  | presence => exact same rfl
  | release ws =>
    exact touched ((Touches.putLabel _ _ (.refl _ b) (by decide)).trans ((releaseAll_touches ws _).mono (by decide)))
  | unbind => exact touched (by apply Touches.giveUpBinding _ _ _ (.refl _ _) <;> decide)
  | rebind => exact touched (by apply Touches.bindToItem _ _ (Touches.giveUpBinding _ _ _ (.refl _ _) ?_ ?_ ?_) <;> decide)
  | select => exact touched (by apply Touches.putLabel _ _ (Touches.takeTarget _ (.refl _ _) ?_) <;> decide)
  | newItem => exact same rfl
  | rewrite => exact same rfl
  | withdraw => exact same rfl
  | addresses _ _ _ ha => obtain ⟨hs, hr⟩ := ha h.sorted h.room; exact ⟨hs, hr⟩
  | cold => exact ⟨.nil, Nat.zero_le _⟩

theorem tablesKept_of_move (t : TableMove N b c) (h : TablesKept b) : TablesKept c := by
  rw [tablesKept_iff] at *
  obtain ⟨hi, hl, ha⟩ := h
  exact ⟨itemsKeyed_of_move t hi, labelsKeyed_of_move t hl, addressesKeyed_of_move t ha⟩

/-- Settles O9: each move of a step keeps the tables keyed and the notice queue within its rules. -/
theorem everyStepKeepsTheTablesKeyed : Obligations.EveryStepKeepsTheTablesKeyed := by
  unfold Obligations.EveryStepKeepsTheTablesKeyed
  exact ⟨fun _ _ hs h => keeps_of_moves tablesKept_of_move hs h,
    fun _ _ hs h => keeps_of_moves noticeRules_of_move hs h⟩

end TablesKeyed

end Sys2Proof.Machine

namespace Sys2Proof.Machine

/-! # Reference counts and bound lists are kept by every step

The references of the labels are one side of a ledger, the counts of the versions the other; `ws` is what has been taken
from the labels (or counted for them) and not yet released. -/

section ReferencesKept

variable {a b c : Block} {id code : Nat} {i j : Item} {k : Slot} {l m : Label} {n : Nat} {v : Version} {w : RefWhat}
  {ws xs : List RefWhat} {N : Prop}

/-! ## What the ledger reads of the tables -/

/-- The version in slot `k` of item `code`. -/
def slotAt (b : Block) (code : Nat) (k : Slot) : Option Version := (getItem b code).bind (fun i => slotOf i k)

/-- The bound list of item `code`. -/
def boundOf (b : Block) (code : Nat) : Option (List Nat) := (getItem b code).map Item.bound

/-- The item of label `id`. -/
def homeOf (b : Block) (id : Nat) : Option Nat := (getLabel b id).bind Label.item

/-- The references of label `id`. -/
def refsOf (b : Block) (id : Nat) : List RefWhat := ((getLabel b id).map labelRefs).getD []

/-- R36: how many references of the labels of a table name version `n` in slot `k` of item `code`. -/
def refCount (t : Table Label) (code : Nat) (k : Slot) (n : Nat) : Nat :=
  (t.map (fun q => (labelRefs q.2).countP (namesVersion code k n))).sum

/-- A reference names a version that stands in the item `home`. -/
def StandsIn (b : Block) (home : Option Nat) : RefWhat → Prop
  | .blank => True
  | .version code k n _ => home = some code ∧ ∃ v, slotAt b code k = some v ∧ v.number = n

theorem namesVersion_iff : namesVersion code k n w = true ↔ ∃ t, w = .version code k n t := by
  cases w with
  | blank => simp [namesVersion]
  | version d x y t =>
    simp only [namesVersion, Bool.and_eq_true, decide_eq_true_eq, RefWhat.version.injEq]
    exact ⟨fun ⟨⟨hd, hx⟩, hy⟩ => ⟨t, hd, hx, hy, rfl⟩, fun ⟨_, hd, hx, hy, _⟩ => ⟨⟨hd, hx⟩, hy⟩⟩

theorem slotAt_of_item (hi : getItem b code = some i) : slotAt b code k = slotOf i k := by simp [slotAt, hi]

theorem slotAt_some (h : slotAt b code k = some v) : ∃ i, getItem b code = some i ∧ slotOf i k = some v :=
  Option.bind_eq_some_iff.1 h

theorem homeOf_of_label (hl : getLabel b id = some l) : homeOf b id = l.item := by simp [homeOf, hl]

theorem refsOf_of_label (hl : getLabel b id = some l) : refsOf b id = labelRefs l := by simp [refsOf, hl]

theorem mem_refsOf (h : w ∈ refsOf b id) : ∃ l, getLabel b id = some l ∧ w ∈ labelRefs l := by
  cases hl : getLabel b id with
  | none => simp [refsOf, hl] at h
  | some l => exact ⟨l, rfl, by simpa [refsOf, hl] using h⟩

theorem slotAt_setSlot (hi : getItem b code = some i) (o : Option Version) (d : Nat) (x : Slot) :
    slotAt (putItem code (setSlot i k o) b) d x = if d = code ∧ x = k then o else slotAt b d x := by
  by_cases hd : d = code
  · subst hd
    rw [slotAt_of_item (getItem_putItem_self _ _ _), slotAt_of_item hi]
    by_cases hx : x = k
    · subst hx; simp
    · simp [hx]
  · simp [slotAt, hd]

theorem namedVersion_iff : namedVersion b code k n = some v ↔ slotAt b code k = some v ∧ v.number = n := by
  unfold namedVersion slotAt
  cases getItem b code with
  | none => simp
  | some i =>
    simp only [Option.bind_some]
    cases slotOf i k with
    | none => simp
    | some w =>
      simp only [Option.ite_none_right_eq_some, Option.some.injEq]
      exact ⟨fun ⟨hn, hw⟩ => ⟨hw, hw ▸ hn⟩, fun ⟨hw, hn⟩ => ⟨hw ▸ hn, hw⟩⟩

theorem referenceStands_iff : referenceStands b l w = true ↔ StandsIn b l.item w := by
  cases w with
  | blank => simp [referenceStands, StandsIn]
  | version code k n t =>
    simp only [referenceStands, StandsIn, Bool.and_eq_true, decide_eq_true_eq, Option.isSome_iff_exists,
      namedVersion_iff]

/-! ## Counting -/

/-- The sum over a table when a record is put. -/
theorem sum_tableInsert {α : Type} {t : Table α} (f : α → Nat) (id : Nat) (m : α) (hs : tableSorted t) :
    ((tableInsert t id m).map (fun q => f q.2)).sum + ((tableFind t id).map f).getD 0 =
      (t.map (fun q => f q.2)).sum + f m := by
  induction t with
  | nil => simp [tableInsert, tableFind]
  | cons p rest ih =>
    obtain ⟨d, y⟩ := p
    have hrest : tableSorted rest := (List.pairwise_cons.1 hs).2
    simp only [tableInsert]
    split
    · next hlt =>
      have hnone : tableFind ((d, y) :: rest) id = none := by
        cases hf : tableFind ((d, y) :: rest) id with
        | none => rfl
        | some z =>
          have hmem := List.mem_map_of_mem (f := Prod.fst) (mem_of_tableFind hf)
          rcases List.mem_cons.1 hmem with h | h
          · exact absurd h (Nat.ne_of_lt hlt)
          · exact absurd ((List.pairwise_cons.1 hs).1 _ h) (Nat.lt_asymm hlt)
      rw [hnone]
      simp
      omega
    · split
      · next heq =>
        subst heq
        simp [tableFind]
        omega
      · next hne =>
        have := ih hrest
        simp only [tableFind, Ne.symm hne, if_false, List.map_cons, List.sum_cons]
        omega

theorem refCount_insert (hs : tableSorted b.labels.table) (id : Nat) (m : Label) (code : Nat) (k : Slot) (n : Nat) :
    refCount (tableInsert b.labels.table id m) code k n + (refsOf b id).countP (namesVersion code k n) =
      refCount b.labels.table code k n + (labelRefs m).countP (namesVersion code k n) := by
  rw [refCount, refCount, ← sum_tableInsert (fun l => (labelRefs l).countP (namesVersion code k n)) id m hs]
  unfold refsOf getLabel
  cases tableFind b.labels.table id <;> rfl

theorem exists_of_refCount (hs : tableSorted b.labels.table) (h : refCount b.labels.table code k n ≠ 0) :
    ∃ id t, RefWhat.version code k n t ∈ refsOf b id := by
  obtain ⟨x, hx, hne⟩ : ∃ x ∈ b.labels.table, (labelRefs x.2).countP (namesVersion code k n) ≠ 0 := by
    by_contra hno
    push Not at hno
    refine h (List.sum_eq_zero fun x hx => ?_)
    obtain ⟨q, hq, rfl⟩ := List.mem_map.1 hx
    exact hno q hq
  obtain ⟨w, hw, hn⟩ := List.countP_pos_iff.1 (Nat.pos_of_ne_zero hne)
  obtain ⟨t, rfl⟩ := namesVersion_iff.1 hn
  exact ⟨x.1, t, by rwa [refsOf_of_label (tableFind_of_mem hs hx)]⟩

theorem refCount_pos {t : Nat} (h : RefWhat.version code k n t ∈ refsOf b id) :
    0 < refCount b.labels.table code k n := by
  obtain ⟨l, hl, hw⟩ := mem_refsOf h
  have hmem := mem_of_tableFind hl
  have hpos : 0 < (labelRefs l).countP (namesVersion code k n) :=
    List.countP_pos_iff.2 ⟨_, hw, namesVersion_iff.2 ⟨t, rfl⟩⟩
  exact hpos.trans_le (List.single_le_sum (fun _ _ => Nat.zero_le _) _ (List.mem_map_of_mem hmem))

/-! ## The ledger (R35, R36, R45) -/

/-- Each version counts the references of labels that name it and those still to be released; and each reference of a
label stands. -/
structure Ledger (ws : List RefWhat) (b : Block) : Prop where
  sorted : tableSorted b.labels.table
  counts : ∀ code k v, slotAt b code k = some v →
    v.refs = refCount b.labels.table code k v.number + ws.countP (namesVersion code k v.number)
  stands : ∀ id, ∀ w ∈ refsOf b id, StandsIn b (homeOf b id) w

theorem refsOf_of_labels (h : c.labels = b.labels) : refsOf c id = refsOf b id := by rw [refsOf, refsOf, getLabel, getLabel, h]

theorem homeOf_of_labels (h : c.labels = b.labels) : homeOf c id = homeOf b id := by rw [homeOf, homeOf, getLabel, getLabel, h]

theorem StandsIn.mono {home : Option Nat} (h : StandsIn b home w)
    (hs : ∀ code k v t, w = .version code k v.number t → slotAt b code k = some v →
      ∃ u, slotAt c code k = some u ∧ u.number = v.number) : StandsIn c home w := by
  cases w with
  | blank => exact trivial
  | version code k n t =>
    obtain ⟨hc, v, hv, rfl⟩ := h
    exact ⟨hc, hs code k v t rfl hv⟩

/-- A version without references is named by no label. -/
theorem Ledger.refs_pos (h : Ledger [] b) {t : Nat} (hw : RefWhat.version code k v.number t ∈ refsOf b id)
    (hv : slotAt b code k = some v) : v.refs ≠ 0 := by
  have hpos := refCount_pos hw
  have hcount := h.counts code k v hv
  simp only [List.countP_nil] at hcount
  omega

/-- R36: the items change so that each slot keeps its number and its count, or has no references before and after. -/
theorem Ledger.items (h : Ledger [] b) (hl : c.labels.table = b.labels.table)
    (hs : ∀ code k, RefsAgree (slotAt b code k) (slotAt c code k)) : Ledger [] c := by
  have hrefs (id : Nat) : refsOf c id = refsOf b id := by rw [refsOf, refsOf, getLabel, getLabel, hl]
  have hhome (id : Nat) : homeOf c id = homeOf b id := by rw [homeOf, homeOf, getLabel, getLabel, hl]
  refine ⟨hl ▸ h.sorted, fun code k v hv => ?_, fun id w hw => ?_⟩
  · rw [hl]
    rcases hs code k with hsame | ⟨hold, hnew⟩
    · rw [hv] at hsame
      obtain ⟨u, hu, hpair⟩ := Option.map_eq_some_iff.1 hsame.symm
      injection hpair with hnumber hcount
      rw [← hnumber, ← hcount]
      exact h.counts code k u hu
    · rw [hnew v hv]
      by_contra hne
      obtain ⟨id, t, hw⟩ := exists_of_refCount h.sorted (n := v.number) (code := code) (k := k) (by simpa using Ne.symm hne)
      obtain ⟨-, u, hu, hnumber⟩ := h.stands id _ hw
      exact h.refs_pos (hnumber ▸ hw) hu (hold u hu)
  · rw [hhome]
    rw [hrefs] at hw
    refine (h.stands id w hw).mono fun code k v t hwv hv => ?_
    rcases hs code k with hsame | ⟨hold, -⟩
    · rw [hv] at hsame
      obtain ⟨u, hu, hpair⟩ := Option.map_eq_some_iff.1 hsame
      injection hpair with hnumber
      exact ⟨u, hu, hnumber⟩
    · exact absurd (hold v hv) (h.refs_pos (hwv ▸ hw) hv)

/-- R60, R65: the record of a label changes: what it no longer holds is owed, and what it holds stands. -/
theorem Ledger.relabel (h : Ledger ws b) (hi : c.items.table = b.items.table)
    (hl : c.labels.table = tableInsert b.labels.table id m) (hp : (refsOf b id ++ ws).Perm (labelRefs m ++ xs))
    (hm : ∀ w ∈ labelRefs m, StandsIn b m.item w) : Ledger xs c := by
  have hslot (code : Nat) (k : Slot) : slotAt c code k = slotAt b code k := by
    rw [slotAt, slotAt, getItem, getItem, hi]
  refine ⟨hl ▸ tableSorted_insert _ _ h.sorted, fun code k v hv => ?_, fun x w hw => ?_⟩
  · rw [hslot] at hv
    have hcount := h.counts code k v hv
    have hsum := refCount_insert h.sorted id m code k v.number
    have hperm := hp.countP_eq (namesVersion code k v.number)
    simp only [List.countP_append] at hperm
    rw [hl]
    omega
  · have hstand : StandsIn b (homeOf c x) w := by
      by_cases hx : x = id
      · subst hx
        have hfound : getLabel c x = some m := by rw [getLabel, hl, tableFind_insert_self]
        rw [homeOf_of_label hfound]
        rw [refsOf_of_label hfound] at hw
        exact hm w hw
      · have hfound : getLabel c x = getLabel b x := by rw [getLabel, hl, tableFind_insert_other _ _ hx, getLabel]
        rw [homeOf, hfound]
        rw [refsOf, hfound] at hw
        exact h.stands x w hw
    exact hstand.mono fun code k v _ _ hv => ⟨v, (hslot code k).trans hv, rfl⟩

/-- The record of a label changes to one with fewer references of the same item. -/
theorem Ledger.drop (h : Ledger [] b) (hi : c.items.table = b.items.table)
    (hl : c.labels.table = tableInsert b.labels.table id m) (hp : (refsOf b id).Perm (xs ++ labelRefs m))
    (hm : m.item = homeOf b id ∨ labelRefs m = []) : Ledger xs c := by
  refine h.relabel hi hl (by simpa using hp.trans List.perm_append_comm) fun w hw => ?_
  rcases hm with hm | hm
  · rw [hm]
    exact h.stands id w (hp.mem_iff.2 (List.mem_append_right _ hw))
  · rw [hm] at hw
    cases hw

/-- R45: an owed reference is released. -/
theorem Ledger.releaseWhat (h : Ledger (w :: ws) b) : Ledger ws (releaseWhat w b) := by
  cases w with
  | blank => exact ⟨h.sorted, h.counts, h.stands⟩
  | version code k n t =>
    simp only [Machine.releaseWhat, releaseReference]
    split
    · next i v hi hnamed =>
      obtain ⟨hv, hn⟩ := namedVersion_iff.1 hnamed
      subst hn
      have hcount := h.counts code k v hv
      rw [List.countP_cons_of_pos (namesVersion_iff.2 ⟨t, rfl⟩)] at hcount
      refine ⟨h.sorted, fun d x u hu => ?_, fun id w hw => (h.stands id w hw).mono fun d x u t' hwu hu => ?_⟩
      · rw [slotAt_setSlot hi] at hu
        split at hu
        · next hdx =>
          obtain ⟨rfl, rfl⟩ := hdx
          obtain ⟨rfl, -⟩ := releasedSlot_some hu
          simp only [putItem]
          omega
        · next hdx =>
          have hother := h.counts d x u hu
          rwa [List.countP_cons_of_neg] at hother
          rw [namesVersion_iff]
          rintro ⟨t', heq⟩
          injection heq with hd hx
          exact hdx ⟨hd.symm, hx.symm⟩
      · rw [slotAt_setSlot hi]
        split
        · next hdx =>
          obtain ⟨rfl, rfl⟩ := hdx
          obtain rfl : v = u := Option.some.inj (hv.symm.trans hu)
          have hcounted : 0 < refCount b.labels.table d x v.number := refCount_pos (id := id) (hwu ▸ hw)
          have hkept : ¬ (v.refs - 1 = 0 ∧ v.role = .retired) := by omega
          exact ⟨_, if_neg hkept, rfl⟩
        · exact ⟨u, hu, rfl⟩
    · next hno =>
      refine ⟨h.sorted, fun d x u hu => ?_, h.stands⟩
      have hcount := h.counts d x u hu
      rwa [List.countP_cons_of_neg] at hcount
      rw [namesVersion_iff]
      rintro ⟨t', heq⟩
      injection heq with hd hx hn
      subst hd hx hn
      obtain ⟨i, hi, -⟩ := slotAt_some hu
      exact hno i u hi (namedVersion_iff.2 ⟨hu, rfl⟩)

theorem Ledger.releaseAll (h : Ledger ws b) : Ledger [] (releaseAll ws b) := by
  induction ws generalizing b with
  | nil => exact h
  | cons w rest ih => exact ih h.releaseWhat

/-- The reference that a target becomes, with the template of a label. -/
theorem refOfTarget_names {t : Target} : refOfTarget l t = w → (namesVersion code k n w = true ↔ t = .version code k n) := by
  rintro rfl
  cases t <;> simp [refOfTarget, namesVersion, and_assoc]

theorem takeTarget_numbers (t : Target) (b : Block) (code : Nat) (k : Slot) :
    (slotAt (takeTarget t b) code k).map Version.number = (slotAt b code k).map Version.number := by
  cases t with
  | blank => rfl
  | version d x n =>
    simp only [takeTarget, takeReference]
    split
    · next i v hi hv =>
      rw [slotAt_setSlot hi]
      split
      · next h =>
        obtain ⟨rfl, rfl⟩ := h
        rw [(namedVersion_iff.1 hv).1]
        rfl
      · rfl
    · rfl

theorem StandsIn.takeTarget {home : Option Nat} (t : Target) (h : StandsIn b home w) :
    StandsIn (takeTarget t b) home w := by
  refine h.mono fun code k v _ _ hv => ?_
  have hnumber := takeTarget_numbers t b code k
  rw [hv] at hnumber
  exact Option.map_eq_some_iff.1 hnumber

/-- R45, R65: a reference is counted before the label holds it. -/
theorem Ledger.takeTarget (h : Ledger [] b) (t : Target) (l : Label) :
    Ledger [refOfTarget l t] (takeTarget t b) := by
  have hlabels : (Machine.takeTarget t b).labels = b.labels :=
    ((Touches.takeTarget t (.refl [.items] b) (by decide)).keeps .labels (by decide)).symm
  refine ⟨hlabels ▸ h.sorted, fun d x u hu => ?_, fun id w hw => ?_⟩
  · rw [hlabels]
    have hone : [refOfTarget l t].countP (namesVersion d x u.number) = if t = .version d x u.number then 1 else 0 := by
      simp only [List.countP_singleton, refOfTarget_names rfl]
    rw [hone]
    cases t with
    | blank => simpa using h.counts d x u hu
    | version code k n =>
      simp only [Machine.takeTarget, takeReference] at hu
      split at hu
      · next i v hi hnamed =>
        obtain ⟨hv, hn⟩ := namedVersion_iff.1 hnamed
        subst hn
        rw [slotAt_setSlot hi] at hu
        split at hu
        · next hdx =>
          obtain ⟨rfl, rfl⟩ := hdx
          cases hu
          simpa using h.counts d x v hv
        · next hdx =>
          rw [if_neg fun heq => (Target.version.inj heq).elim fun hd hx => hdx ⟨hd.symm, hx.1.symm⟩]
          simpa using h.counts d x u hu
      · next hno =>
        obtain ⟨i, hi, -⟩ := slotAt_some hu
        rw [if_neg fun heq => by cases heq; exact hno i u hi (namedVersion_iff.2 ⟨hu, rfl⟩)]
        simpa using h.counts d x u hu
  · rw [refsOf_of_labels hlabels] at hw
    rw [homeOf_of_labels hlabels]
    exact (h.stands id w hw).takeTarget t

/-! ## The bound lists (R33, R38) -/

/-- R33, R38: a label's item exists; and an item's bound list holds, once each, exactly the labels of that item. -/
structure BoundLists (b : Block) : Prop where
  homed : ∀ id code, homeOf b id = some code → (boundOf b code).isSome = true
  nodup : ∀ code s, boundOf b code = some s → s.Nodup
  lists : ∀ code s, boundOf b code = some s → ∀ id, id ∈ s ↔ homeOf b id = some code

/-- An item is absent, or its bound list is empty. -/
def NoneBound (o : Option (List Nat)) : Prop := ∀ s, o = some s → s = []

/-- Each bound list stays, or is absent or empty before and after. -/
theorem BoundLists.items (h : BoundLists b) (hh : ∀ id, homeOf c id = homeOf b id)
    (hb : ∀ code, boundOf c code = boundOf b code ∨ NoneBound (boundOf b code) ∧ NoneBound (boundOf c code)) :
    BoundLists c := by
  have hnobody {code : Nat} (hnone : NoneBound (boundOf b code)) (id : Nat) : homeOf b id ≠ some code := fun hid => by
    obtain ⟨s, hs⟩ := Option.isSome_iff_exists.1 (h.homed id code hid)
    have hmem := (h.lists code s hs id).2 hid
    rw [hnone s hs] at hmem
    cases hmem
  refine ⟨fun id code hid => ?_, fun code s hs => ?_, fun code s hs id => ?_⟩
  · rw [hh] at hid
    rcases hb code with hsame | ⟨hold, -⟩
    · exact hsame ▸ h.homed id code hid
    · exact absurd hid (hnobody hold id)
  · rcases hb code with hsame | ⟨-, hnew⟩
    · exact h.nodup code s (hsame ▸ hs)
    · exact hnew s hs ▸ List.nodup_nil
  · rw [hh]
    rcases hb code with hsame | ⟨hold, hnew⟩
    · exact h.lists code s (hsame ▸ hs) id
    · rw [hnew s hs]
      exact ⟨fun hmem => (List.not_mem_nil hmem).elim, fun hid => absurd hid (hnobody hold id)⟩

/-- R60, R61: what a bound list becomes when label `id` leaves the item `old` for `new`. -/
def movedBound (id : Nat) (old new : Option Nat) (code : Nat) (s : List Nat) : List Nat :=
  (if old = some code then listRemove s id else s) ++ (if new = some code then [id] else [])

theorem mem_movedBound {old new : Option Nat} {s : List Nat} {x : Nat} :
    x ∈ movedBound id old new code s ↔
      (x ∈ s ∧ ¬ (x = id ∧ old = some code)) ∨ (x = id ∧ new = some code) := by
  unfold movedBound
  rw [List.mem_append]
  refine or_congr ?_ ?_
  · split
    · next ho => simp [ho]
    · next ho => simp [ho]
  · split
    · next hn => simp [hn]
    · next hn => simp [hn]

/-- R60, R61: a label leaves its item's list and joins another's end. -/
theorem BoundLists.move (h : BoundLists b) {new : Option Nat}
    (hh : ∀ x, homeOf c x = if x = id then new else homeOf b x)
    (hb : ∀ code, boundOf c code = (boundOf b code).map (movedBound id (homeOf b id) new code))
    (hnew : ∀ code, new = some code → homeOf b id ≠ some code ∧ (boundOf b code).isSome = true) : BoundLists c := by
  refine ⟨fun x code hx => ?_, fun code s hs => ?_, fun code s hs x => ?_⟩
  · rw [hb, Option.isSome_map]
    rw [hh] at hx
    split at hx
    · exact (hnew code hx).2
    · exact h.homed x code hx
  · rw [hb] at hs
    obtain ⟨s, hold, rfl⟩ := Option.map_eq_some_iff.1 hs
    have hnodup := h.nodup code s hold
    have hleft : (if homeOf b id = some code then listRemove s id else s).Nodup := by
      split
      · exact nodup_listRemove id hnodup
      · exact hnodup
    refine hleft.append (by split <;> simp) ?_
    by_cases hcode : new = some code
    · have hapart := (hnew code hcode).1
      simpa [hcode, hapart] using fun hmem => hapart ((h.lists code s hold id).1 hmem)
    · simp [hcode]
  · rw [hb] at hs
    obtain ⟨s, hold, rfl⟩ := Option.map_eq_some_iff.1 hs
    rw [mem_movedBound, hh, h.lists code s hold x]
    by_cases hx : x = id
    · subst hx
      simp
    · simp [hx]

/-! ## The rule of the references, in these terms -/

theorem references_iff : References b ↔ tableSorted b.items.table ∧ Ledger [] b ∧ BoundLists b := by
  have hitem (hi : tableSorted b.items.table) {p : Nat × Item} : p ∈ b.items.table ↔ getItem b p.1 = some p.2 :=
    ⟨tableFind_of_mem hi, mem_of_tableFind⟩
  have hlabel (hl : tableSorted b.labels.table) {q : Nat × Label} : q ∈ b.labels.table ↔ getLabel b q.1 = some q.2 :=
    ⟨tableFind_of_mem hl, mem_of_tableFind⟩
  constructor
  · rintro ⟨hi, hl, hcounts, hstands, hhomed, hbound⟩
    refine ⟨hi, ⟨hl, fun code k v hv => ?_, fun id w hw => ?_⟩, fun id code hid => ?_, fun code s hs => ?_,
      fun code s hs id => ?_⟩
    · obtain ⟨i, hcode, hslot⟩ := slotAt_some hv
      simpa [refCount] using hcounts (code, i) ((hitem hi).2 hcode) k v hslot
    · obtain ⟨l, hid, hw⟩ := mem_refsOf hw
      rw [homeOf_of_label hid]
      exact referenceStands_iff.1 (hstands (id, l) ((hlabel hl).2 hid) w hw)
    · obtain ⟨l, hid, hhome⟩ := Option.bind_eq_some_iff.1 hid
      obtain ⟨p, hp, rfl⟩ := hhomed (id, l) ((hlabel hl).2 hid) code hhome
      simp [boundOf, (hitem hi).1 hp]
    · obtain ⟨i, hcode, rfl⟩ := Option.map_eq_some_iff.1 hs
      exact (hbound (code, i) ((hitem hi).2 hcode)).1
    · obtain ⟨i, hcode, rfl⟩ := Option.map_eq_some_iff.1 hs
      obtain ⟨-, hmem, hall⟩ := hbound (code, i) ((hitem hi).2 hcode)
      constructor
      · intro hid
        obtain ⟨q, hq, rfl, hhome⟩ := hmem id hid
        rw [homeOf_of_label ((hlabel hl).1 hq), hhome]
      · intro hid
        obtain ⟨l, hid, hhome⟩ := Option.bind_eq_some_iff.1 hid
        exact hall (id, l) ((hlabel hl).2 hid) hhome
  · rintro ⟨hi, ⟨hl, hcounts, hstands⟩, hhomed, hnodup, hlists⟩
    refine ⟨hi, hl, fun p hp k v hv => ?_, fun q hq w hw => ?_, fun q hq code hcode => ?_, fun p hp => ?_⟩
    · have hcount := hcounts p.1 k v ((slotAt_of_item ((hitem hi).1 hp)).trans hv)
      simpa [refCount] using hcount
    · have hid := (hlabel hl).1 hq
      exact referenceStands_iff.2 (homeOf_of_label hid ▸ hstands q.1 w (refsOf_of_label hid ▸ hw))
    · have hsome := hhomed q.1 code ((homeOf_of_label ((hlabel hl).1 hq)).trans hcode)
      obtain ⟨i, hfound⟩ := Option.isSome_iff_exists.1 (Option.isSome_map ▸ hsome)
      exact ⟨(code, i), (hitem hi).2 hfound, rfl⟩
    · have hbound : boundOf b p.1 = some p.2.bound := by rw [boundOf, (hitem hi).1 hp]; rfl
      refine ⟨hnodup _ _ hbound, fun id hid => ?_, fun q hq hhome => ?_⟩
      · obtain ⟨l, hid, hhome⟩ := Option.bind_eq_some_iff.1 ((hlists _ _ hbound id).1 hid)
        exact ⟨(id, l), (hlabel hl).2 hid, rfl, hhome⟩
      · exact (hlists _ _ hbound q.1).2 ((homeOf_of_label ((hlabel hl).1 hq)).trans hhome)

/-! ## The item table stays sorted -/

theorem releaseAll_sorted (ws : List RefWhat) (h : tableSorted b.items.table) :
    tableSorted (releaseAll ws b).items.table := by
  induction ws generalizing b with
  | nil => exact h
  | cons w rest ih =>
    refine ih ?_
    cases w with
    | blank => exact h
    | version code k n t =>
      simp only [releaseWhat, releaseReference]
      split
      · exact tableSorted_insert _ _ h
      · exact h

theorem takeTarget_sorted (t : Target) (h : tableSorted b.items.table) :
    tableSorted (takeTarget t b).items.table := by
  cases t with
  | blank => exact h
  | version code k n =>
    simp only [takeTarget, takeReference]
    split
    · exact tableSorted_insert _ _ h
    · exact h

theorem leaveItem_sorted (id : Nat) (l : Label) (h : tableSorted b.items.table) :
    tableSorted (leaveItem id l b).items.table := by
  unfold leaveItem unbindFromItem
  split
  · split
    · exact tableSorted_insert _ _ h
    · exact h
  · exact h

theorem bindToItem_sorted (code id : Nat) (h : tableSorted b.items.table) :
    tableSorted (bindToItem code id b).items.table := by
  unfold bindToItem
  split
  · exact tableSorted_insert _ _ h
  · exact h

/-! ## A binding changes (R38, R60, R61) -/

theorem putItem_slots {d : Nat} (hi : getItem b code = some i) (hj : j.slots = i.slots) :
    (getItem (putItem code j b) d).map Item.slots = (getItem b d).map Item.slots := by
  by_cases hd : d = code
  · subst hd
    rw [getItem_putItem_self, hi]
    exact congrArg some hj
  · rw [getItem_putItem_other b j hd]

theorem slotAt_of_slots {d : Nat} (h : (getItem c d).map Item.slots = (getItem b d).map Item.slots) (x : Slot) :
    slotAt c d x = slotAt b d x := by
  have hread (o : Option Item) : o.bind (fun i => slotOf i x) = (o.map Item.slots).bind (fun v => v.get x) := by
    cases o <;> rfl
  rw [slotAt, slotAt, hread, hread, h]

theorem leaveItem_slots (id : Nat) (l : Label) (b : Block) (d : Nat) :
    (getItem (leaveItem id l b) d).map Item.slots = (getItem b d).map Item.slots := by
  unfold leaveItem unbindFromItem
  split
  · split
    · next i hi => exact putItem_slots (j := { i with bound := listRemove i.bound id }) hi rfl
    · rfl
  · rfl

theorem bindToItem_slots (code id : Nat) (b : Block) (d : Nat) :
    (getItem (bindToItem code id b) d).map Item.slots = (getItem b d).map Item.slots := by
  unfold bindToItem
  split
  · next i hi => exact putItem_slots (j := { i with bound := i.bound ++ [id] }) hi rfl
  · rfl

theorem bindToItem_bound (code id : Nat) (b : Block) (d : Nat) :
    boundOf (bindToItem code id b) d = (boundOf b d).map (fun s => s ++ if code = d then [id] else []) := by
  unfold boundOf bindToItem
  by_cases hd : d = code
  · subst hd
    split
    · next hi => simp [hi]
    · next hi => simp [hi]
  · split <;> simp [hd, Ne.symm hd, Function.comp_def]

theorem Ledger.congr (h : Ledger [] b) (hl : c.labels.table = b.labels.table)
    (hs : ∀ code k, slotAt c code k = slotAt b code k) : Ledger [] c :=
  h.items hl fun code k => hs code k ▸ RefsAgree.refl _

theorem Ledger.giveUpBinding (h : Ledger [] b) (item template : Option Nat) (hl : getLabel b id = some l) :
    Ledger [] (giveUpBinding id item template b) := by
  have hput : Ledger (labelRefs l) (putLabel id (unboundLabel item template l) b) :=
    h.drop (m := unboundLabel item template l) rfl rfl (by simp [refsOf_of_label hl, unboundLabel, labelRefs]) (Or.inr rfl)
  have hreleased := hput.releaseAll
  rw [giveUpBinding_of_some item template hl]
  refine hreleased.congr (congrArg LabelBlock.table (leaveItem_labels id l _)) fun d x => ?_
  exact slotAt_of_slots (leaveItem_slots id l _ d) x

theorem giveUpBinding_home (item template : Option Nat) (hl : getLabel b id = some l) (x : Nat) :
    homeOf (giveUpBinding id item template b) x = if x = id then item else homeOf b x := by
  unfold homeOf getLabel
  rw [giveUpBinding_table item template hl, tableFind_insert]
  split <;> rfl

theorem giveUpBinding_sorted (item template : Option Nat) (hl : getLabel b id = some l)
    (h : tableSorted b.items.table) : tableSorted (giveUpBinding id item template b).items.table := by
  rw [giveUpBinding_of_some item template hl]
  exact leaveItem_sorted id l (releaseAll_sorted (b := putLabel id (unboundLabel item template l) b) _ h)

theorem boundLists_unbind (h : BoundLists b) (hl : getLabel b id = some l) :
    BoundLists (giveUpBinding id none none b) := by
  refine h.move (giveUpBinding_home none none hl) (fun d => ?_) (fun _ hnew => nomatch hnew)
  rw [boundOf, giveUpBinding_bound none none hl, homeOf_of_label hl]
  simp [boundOf, movedBound, Function.comp_def]

theorem boundLists_rebind (h : BoundLists b) (template : Option Nat) (hl : getLabel b id = some l)
    (hne : l.item ≠ some code) (hc : getItem b code = some i) :
    BoundLists (bindToItem code id (giveUpBinding id (some code) template b)) := by
  have hlabels (d : Block) : (bindToItem code id d).labels = d.labels :=
    ((Touches.bindToItem code id (.refl [.items] d) (by decide)).keeps .labels (by decide)).symm
  refine h.move (id := id) (new := some code) (fun x => ?_) (fun d => ?_) (fun d hd => ?_)
  · rw [homeOf_of_labels (hlabels _)]
    exact giveUpBinding_home _ template hl x
  · rw [bindToItem_bound, boundOf, giveUpBinding_bound _ template hl, homeOf_of_label hl]
    simp [boundOf, movedBound, Function.comp_def]
  · cases hd
    exact ⟨homeOf_of_label hl ▸ hne, by simp [boundOf, hc]⟩

/-! ## A label is selected (R63, R65) -/

theorem validTarget_some {o : Option Slot} {t : Target} (h : validTarget code i o = some t) :
    ∃ k v, slotOf i k = some v ∧ t = .version code k v.number := by
  unfold validTarget at h
  split at h
  · cases h
  · next k =>
    split at h
    · cases h
    · next v hv =>
      split at h
      · exact ⟨k, v, hv, (Option.some.inj h).symm⟩
      · cases h

theorem boundTarget_some {mode : Mode} {t : Target} (h : boundTarget mode code i = some t) :
    ∃ k v, slotOf i k = some v ∧ t = .version code k v.number := by
  unfold boundTarget at h
  split at h
  · split at h
    · next ht => exact Option.some.inj h ▸ validTarget_some ht
    · exact validTarget_some h
  · exact validTarget_some h
  · exact validTarget_some h

/-- R56: the target of a label names a version that stands in the label's item. -/
theorem targetOf_stands {t : Target} (h : targetOf b l = some t) : StandsIn b l.item (refOfTarget l t) := by
  unfold targetOf at h
  split at h
  · split at h
    · cases h; exact trivial
    · cases h
  · next code hitem =>
    split at h
    · cases h
    · next i hi =>
      obtain ⟨k, v, hv, rfl⟩ := boundTarget_some h
      exact ⟨hitem, v, (slotAt_of_item hi).trans hv, rfl⟩

/-- R45, R65: the selected label holds the reference counted for it besides the one it held. -/
theorem Ledger.select (h : Ledger [] b) (u : Composed) {t : Target} (hl : getLabel b id = some l)
    (hf : l.inFlight = none) (ht : targetOf b l = some t) :
    Ledger [] (putLabel id (selectedLabel u t l) (Machine.takeTarget t b)) := by
  have hlabels : (Machine.takeTarget t b).labels = b.labels :=
    ((Touches.takeTarget t (.refl [.items] b) (by decide)).keeps .labels (by decide)).symm
  have hrefs : labelRefs (selectedLabel u t l) = labelRefs l ++ [refOfTarget l t] := by
    simp [labelRefs_eq, confirmedRefs, inFlightRefs, selectedLabel, hf]
  refine (h.takeTarget t l).relabel rfl rfl ?_ fun w hw => ?_
  · rw [refsOf_of_labels hlabels, refsOf_of_label hl, hrefs, List.append_nil]
  · rw [hrefs, List.mem_append, List.mem_singleton] at hw
    have hstands : StandsIn b l.item w := by
      rcases hw with hw | rfl
      · exact homeOf_of_label hl ▸ h.stands id w (refsOf_of_label hl ▸ hw)
      · exact targetOf_stands ht
    exact hstands.takeTarget t

/-! ## Each move keeps the references -/

/-- The rule of the references, in the terms of the ledger and the bound lists. -/
structure RefsKept (b : Block) : Prop where
  sorted : tableSorted b.items.table
  ledger : Ledger [] b
  lists : BoundLists b

theorem RefsKept.same (h : RefsKept b) (hi : c.items.table = b.items.table) (hl : c.labels.table = b.labels.table) :
    RefsKept c where
  sorted := hi ▸ h.sorted
  ledger := h.ledger.congr hl fun code k => by rw [slotAt, slotAt, getItem, getItem, hi]
  lists := h.lists.items (fun id => by rw [homeOf, homeOf, getLabel, getLabel, hl])
    fun code => Or.inl (by rw [boundOf, boundOf, getItem, getItem, hi])

/-- A change of the one item `code`. -/
theorem RefsKept.oneItem (h : RefsKept b) (hs : tableSorted c.items.table) (hl : c.labels.table = b.labels.table)
    (ho : ∀ d, d ≠ code → getItem c d = getItem b d)
    (hr : ∀ k, RefsAgree (slotAt b code k) (slotAt c code k))
    (hb : boundOf c code = boundOf b code ∨ NoneBound (boundOf b code) ∧ NoneBound (boundOf c code)) : RefsKept c where
  sorted := hs
  ledger := h.ledger.items hl fun d k => by
    by_cases hd : d = code
    · exact hd ▸ hr k
    · rw [slotAt, slotAt, ho d hd]
      exact RefsAgree.refl _
  lists := h.lists.items (fun id => by rw [homeOf, homeOf, getLabel, getLabel, hl]) fun d => by
    by_cases hd : d = code
    · exact hd ▸ hb
    · rw [boundOf, boundOf, ho d hd]
      exact Or.inl rfl

/-- A label's record changes and leaves its item. -/
theorem BoundLists.relabel (h : BoundLists b) (hm : m.item = homeOf b id)
    (hl : c.labels.table = tableInsert b.labels.table id m) (hb : ∀ code, boundOf c code = boundOf b code) :
    BoundLists c := by
  refine h.items (fun x => ?_) fun code => Or.inl (hb code)
  rw [homeOf, getLabel, hl, tableFind_insert]
  split
  · next hx => exact hx ▸ hm
  · rfl

/-- R38: a version that no label's reference can name has none. -/
theorem RefsKept.unreferenced (h : RefsKept b) (hb : NoneBound (boundOf b code)) (hv : slotAt b code k = some v) :
    v.refs = 0 := by
  by_contra hne
  have hcount := h.ledger.counts code k v hv
  simp only [List.countP_nil, Nat.add_zero] at hcount
  obtain ⟨id, t, hw⟩ := exists_of_refCount h.ledger.sorted (hcount ▸ hne)
  obtain ⟨hhome, -⟩ := h.ledger.stands id _ hw
  obtain ⟨s, hs⟩ := Option.isSome_iff_exists.1 (h.lists.homed id code hhome)
  have hmem := (h.lists.lists code s hs id).2 hhome
  rw [hb s hs] at hmem
  cases hmem

theorem refsKept_presence (cycle : Nat) (h : RefsKept b) : RefsKept (restartPresence cycle b) := by
  have hrefs (id : Nat) : refsOf (restartPresence cycle b) id = refsOf b id := by
    rw [refsOf, restartPresence_getLabel, refsOf, Option.map_map]
    rfl
  have hhome (id : Nat) : homeOf (restartPresence cycle b) id = homeOf b id := by
    rw [homeOf, restartPresence_getLabel, homeOf]
    cases getLabel b id <;> rfl
  have hcount (code : Nat) (k : Slot) (n : Nat) :
      refCount (restartPresence cycle b).labels.table code k n = refCount b.labels.table code k n := by
    simp only [refCount, restartPresence, tableMapValues, List.map_map]
    rfl
  refine ⟨h.sorted, ⟨?_, fun code k v hv => ?_, fun id w hw => ?_⟩, h.lists.items hhome fun code => Or.inl rfl⟩
  · exact tableSorted_mapValues (fun l : Label => { l with heard := some cycle, candidate := none }) h.ledger.sorted
  · rw [hcount]
    exact h.ledger.counts code k v hv
  · rw [hhome]
    rw [hrefs] at hw
    exact (h.ledger.stands id w hw).mono fun code k v _ _ hv => ⟨v, hv, rfl⟩

theorem refsKept_release (h : RefsKept b) (ws : List RefWhat) (hl : getLabel b id = some l)
    (hr : (labelRefs l).Perm (ws ++ labelRefs m)) (hi : m.item = l.item) :
    RefsKept (releaseAll ws (putLabel id m b)) where
  sorted := releaseAll_sorted (b := putLabel id m b) ws h.sorted
  ledger := (h.ledger.drop (c := putLabel id m b) rfl rfl (refsOf_of_label hl ▸ hr)
    (Or.inl (hi.trans (homeOf_of_label hl).symm))).releaseAll
  lists := h.lists.relabel (hi.trans (homeOf_of_label hl).symm)
    (congrArg LabelBlock.table (releaseAll_labels ws (putLabel id m b))) fun code => releaseAll_bound ws _ code

theorem refsKept_select (h : RefsKept b) (u : Composed) {t : Target} (hl : getLabel b id = some l)
    (hf : l.inFlight = none) (ht : targetOf b l = some t) :
    RefsKept (putLabel id (selectedLabel u t l) (takeTarget t b)) where
  sorted := takeTarget_sorted t h.sorted
  ledger := h.ledger.select u hl hf ht
  lists := by
    have hlabels : (takeTarget t b).labels = b.labels :=
      ((Touches.takeTarget t (.refl [.items] b) (by decide)).keeps .labels (by decide)).symm
    refine h.lists.relabel (m := selectedLabel u t l) (homeOf_of_label hl).symm
      (congrArg (fun d : LabelBlock => tableInsert d.table id _) hlabels) fun code => ?_
    cases t with
    | blank => rfl
    | version d x n =>
      change (getItem (takeReference d x n b) code).map Item.bound = _
      unfold takeReference
      split
      · next hi _ => exact putItem_bound hi rfl
      · rfl

theorem refsKept_of_move (t : TableMove N b c) (hN : N) (h : RefsKept b) : RefsKept c := by
  cases t with
  | same hs => exact h.same hs.items hs.labels
  | notice => exact h.same rfl rfl
  | notices => exact h.same rfl rfl
  | relabel hl hr hi =>
    exact refsKept_release h [] hl (hr ▸ List.Perm.refl _) hi
  | @addLabel _ id cls hn hroom =>
    have hhome : homeOf b id = none := by rw [homeOf, hn]; rfl
    have hrefs : refsOf b id = [] := by rw [refsOf, hn]; rfl
    exact ⟨h.sorted, h.ledger.drop (m := newLabel cls) rfl rfl (by rw [hrefs]; exact List.Perm.nil) (Or.inr rfl),
      h.lists.relabel (m := newLabel cls) hhome.symm rfl fun _ => rfl⟩
  | presence cycle => exact refsKept_presence cycle h
  | release ws hl hr hi => exact refsKept_release h ws hl hr hi
  | unbind hl =>
    exact ⟨giveUpBinding_sorted none none hl h.sorted, h.ledger.giveUpBinding none none hl,
      boundLists_unbind h.lists hl⟩
  | rebind template hl hne hc hroom =>
    refine ⟨bindToItem_sorted _ _ (giveUpBinding_sorted _ template hl h.sorted),
      (h.ledger.giveUpBinding _ template hl).congr ?_ fun d x => slotAt_of_slots (bindToItem_slots _ _ _ d) x,
      boundLists_rebind h.lists template hl hne hc⟩
    exact congrArg LabelBlock.table
      ((Touches.bindToItem _ _ (.refl [.items] _) (by decide)).keeps .labels (by decide)).symm
  | select u hl hf ht => exact refsKept_select h u hl (hf hN) ht
  | @newItem _ code j hn hroom hb hr =>
    refine h.oneItem (code := code) (tableSorted_insert _ _ h.sorted) rfl
      (fun d hd => getItem_putItem_other b j hd) (fun k => Or.inr ⟨?_, ?_⟩) (Or.inr ⟨?_, ?_⟩)
    · simp [slotAt, hn]
    · rw [slotAt_of_item (getItem_putItem_self b code j)]
      exact hr k
    · simp [NoneBound, boundOf, hn]
    · simp [NoneBound, boundOf, hb]
  | @rewrite _ code i j hi hb hs =>
    refine h.oneItem (code := code) (tableSorted_insert _ _ h.sorted) rfl
      (fun d hd => getItem_putItem_other b j hd) (fun k => ?_) (Or.inl (putItem_bound hi hb))
    rw [slotAt_of_item (getItem_putItem_self b code j), slotAt_of_item hi]
    exact hs k
  | @withdraw _ code i hi hb =>
    have hbound : NoneBound (boundOf b code) := by simp [NoneBound, boundOf, hi, hb]
    refine h.oneItem (code := code) (tableSorted_erase code h.sorted) rfl
      (fun d hd => tableFind_erase_other b.items.table hd) (fun k => Or.inr ⟨fun v hv => h.unreferenced hbound hv, ?_⟩)
      (Or.inr ⟨hbound, ?_⟩)
    · simp [slotAt, getItem]
    · simp [NoneBound, boundOf, getItem]
  | addresses hi hl => exact h.same hi hl
  | cold =>
    exact ⟨.nil, ⟨.nil, fun _ _ _ hv => (nomatch hv), fun _ _ hw => (nomatch hw)⟩,
      ⟨fun _ _ hid => (nomatch hid), fun _ _ hs => (nomatch hs), fun _ _ hs => (nomatch hs)⟩⟩

theorem references_iff_refsKept : References b ↔ RefsKept b :=
  references_iff.trans ⟨fun ⟨hi, hl, hb⟩ => ⟨hi, hl, hb⟩, fun ⟨hi, hl, hb⟩ => ⟨hi, hl, hb⟩⟩

/-- Settles O10: the walk of a step carries the label states along, and each of its moves keeps the ledger of references
and the bound lists. -/
theorem everyStepKeepsLabelsQueuedByState : Obligations.EveryStepKeepsLabelsQueuedByState := by
  unfold Obligations.EveryStepKeepsLabelsQueuedByState
  refine ⟨fun s t hs h => (reached_of_step h).states hs, fun s t hs hr h => ?_⟩
  exact references_iff_refsKept.2
    (keeps_of_moves (fun hmove => refsKept_of_move hmove hs) (references_iff_refsKept.1 hr) h)

end ReferencesKept

end Sys2Proof.Machine

namespace Sys2Proof.Machine

/-! # The slots of an item: placement, reference requests and activation -/

section SlotsOfAnItem

variable {b c : Block} {code : Nat} {i j : Item} {k l : Slot} {v w : Version} {m : PriceMasks} {inputs : PriceInputs}
  {n : Nat}

/-! ## The lowest EMPTY slot (R41) -/

theorem lowestEmpty_eq (he : slotOf i k = none) (hlow : ∀ l, l < k → slotOf i l ≠ none) : lowestEmpty i = some k := by
  cases h : lowestEmpty i with
  | none => simpa [he] using List.find?_eq_none.1 h k (mem_slotNumbers k)
  | some e =>
    obtain ⟨-, xs, ys, hsplit, hbefore⟩ := List.find?_eq_some_iff_append.1 h
    have hsorted : (xs ++ e :: ys).Pairwise (· < ·) := hsplit ▸ by decide
    have hk : k ∈ xs ++ e :: ys := hsplit ▸ mem_slotNumbers k
    rcases List.mem_append.1 hk with hk | hk
    · simpa [he] using hbefore k hk
    · rcases List.mem_cons.1 hk with rfl | hk
      · rfl
      · have hlt : e < k := (List.pairwise_cons.1 (List.pairwise_append.1 hsorted).2.1).1 k hk
        exact absurd (lowestEmpty_some h) (hlow e hlt)

theorem lowestEmpty_none (h : ∀ k, slotOf i k ≠ none) : lowestEmpty i = none := by
  refine List.find?_eq_none.2 fun k _ => ?_
  simpa using h k

/-! ## The PENDING role given up (R41) -/

/-- R41: what becomes of a version that gives the PENDING role up. -/
def retiredPending (v : Version) : Version := if v.role = .pending then { v with role := .retired } else v

theorem retirePending_none (h : slotWithRole i .pending = none) : retirePending i = i := by simp [retirePending, h]

theorem slotOf_retirePending (hi : OneOfEach i) (k : Slot) :
    slotOf (retirePending i) k = (slotOf i k).map retiredPending := by
  cases h : slotWithRole i .pending with
  | none =>
    rw [retirePending_none h]
    cases hk : slotOf i k with
    | none => rfl
    | some v => simp [retiredPending, slotWithRole_none h hk]
  | some l =>
    obtain ⟨v, hv, hr⟩ := slotWithRole_some h
    rw [retirePending_some hi hv hr]
    by_cases hk : k = l
    · subst hk
      simp [hv, retiredPending, hr]
    · rw [slotOf_setSlot_other _ _ hk]
      cases hw : slotOf i k with
      | none => rfl
      | some w =>
        have hne : w.role ≠ .pending := fun e => hk (hi k l w v hw hv (by rw [e, hr]) (by simp [e]))
        simp [retiredPending, hne]

theorem retirePending_last (i : Item) : (retirePending i).last = i.last := by
  unfold retirePending
  split
  · rfl
  · split <;> rfl

theorem retirePending_boundList (i : Item) : (retirePending i).bound = i.bound := by
  unfold retirePending
  split
  · rfl
  · split <;> rfl

theorem retireActive_boundList (i : Item) : (retireActive i).bound = i.bound := by
  unfold retireActive
  split
  · rfl
  · split <;> rfl

/-! ## Placement (R35, R41 to R44) -/

/-- The version numbers that a slot role given up leaves where they were. -/
theorem FreshNumber.of_numbers (h : FreshNumber j k n) (hl : j.last = i.last)
    (hs : ∀ l, (slotOf j l).map Version.number = (slotOf i l).map Version.number) : FreshNumber i k n := by
  have heldIff (x : Nat) : HeldElsewhere j k x ↔ HeldElsewhere i k x := by
    have hone (l : Slot) : (∃ v, slotOf j l = some v ∧ v.number = x) ↔ ∃ v, slotOf i l = some v ∧ v.number = x := by
      rw [← Option.map_eq_some_iff, hs l, Option.map_eq_some_iff]
    constructor <;> rintro ⟨l, v, hne, hv⟩
    · obtain ⟨u, hu⟩ := (hone l).1 ⟨v, hv⟩
      exact ⟨l, u, hne, hu⟩
    · obtain ⟨u, hu⟩ := (hone l).2 ⟨v, hv⟩
      exact ⟨l, u, hne, hu⟩
  obtain ⟨d, hn, hfree, hheld⟩ := h
  rw [hl] at hn hheld
  exact ⟨d, hn, fun hx => hfree ((heldIff _).2 hx), fun e he => (heldIff _).1 (hheld e he)⟩

theorem placed_fillSlot (m : PriceMasks) (r : Role) (inputs : PriceInputs) (i : Item) (k : Slot) :
    Placed m r inputs i (fillSlot m r inputs k i) k :=
  ⟨nextNumber i k, nextNumber_fresh i k, rfl, rfl, slotOf_fillSlot_self m r inputs k i⟩

theorem slotOf_fillSlot_other (m : PriceMasks) (r : Role) (inputs : PriceInputs) (i : Item) (h : l ≠ k) :
    slotOf (fillSlot m r inputs k i) l = slotOf i l := slotOf_setSlot_other i _ h

theorem placed_fillSlot_retirePending (hi : OneOfEach i) (k : Slot) :
    Placed m .pending inputs i (fillSlot m .pending inputs k (retirePending i)) k := by
  obtain ⟨n, hfresh, hlast, hbound, hslot⟩ := placed_fillSlot m .pending inputs (retirePending i) k
  refine ⟨n, hfresh.of_numbers (retirePending_last i) fun l => ?_, hlast, hbound.trans (retirePending_boundList i), hslot⟩
  rw [slotOf_retirePending hi, Option.map_map]
  congr 1
  funext v
  simp only [Function.comp_apply, retiredPending]
  split <;> rfl

theorem placeNextOpen_unreferenced (hi : OneOfEach i) (hv : slotOf i k = some v) (hr : v.role = .pending)
    (hz : v.refs = 0) : placeNextOpen m inputs i = some (fillSlot m .pending inputs k i) := by
  have hk : slotWithRole i .pending = some k := hr ▸ slotWithRole_eq hi hv (by simp [hr])
  simp [placeNextOpen, hk, pendingVersion_eq hk, hv, hz]

/-- R41: where no PENDING version is without references the lowest EMPTY slot is needed. -/
theorem placeNextOpen_referenced (h : ∀ k v, slotOf i k = some v → v.role = .pending → 0 < v.refs) :
    placeNextOpen m inputs i =
      (lowestEmpty i).map (fun e => fillSlot m .pending inputs e (retirePending i)) := by
  unfold placeNextOpen
  cases hk : slotWithRole i .pending with
  | none => simp [retirePending_none hk]
  | some k =>
    obtain ⟨v, hv, hr⟩ := slotWithRole_some hk
    simp [pendingVersion_eq hk, hv, Nat.ne_of_gt (h k v hv hr)]

/-! ## The reference requests (R36, R45) -/

theorem takeReference_none (h : namedVersion b code k n = none) : takeReference code k n b = b := by
  simp [takeReference, h]

theorem releaseReference_none (h : namedVersion b code k n = none) : releaseReference code k n b = b := by
  simp [releaseReference, h]

theorem namedVersion_of_slot (hi : getItem b code = some i) (hv : slotOf i k = some v) :
    namedVersion b code k v.number = some v := by simp [namedVersion, hi, hv]

theorem takeReference_some (hi : getItem b code = some i) (hv : slotOf i k = some v) :
    takeReference code k v.number b = putItem code (setSlot i k (some { v with refs := v.refs + 1 })) b := by
  simp [takeReference, hi, namedVersion_of_slot hi hv]

theorem releaseReference_some (hi : getItem b code = some i) (hv : slotOf i k = some v) :
    releaseReference code k v.number b = putItem code (setSlot i k (releasedSlot v)) b := by
  simp [releaseReference, hi, namedVersion_of_slot hi hv]

theorem releasedSlot_eq (v : Version) :
    releasedSlot v = if v.role = .retired ∧ v.refs ≤ 1 then none else some { v with refs := v.refs - 1 } := by
  have hiff : v.refs - 1 = 0 ∧ v.role = .retired ↔ v.role = .retired ∧ v.refs ≤ 1 := by
    rw [and_comm, Nat.sub_eq_zero_iff_le]
  simp only [releasedSlot, hiff]

/-- Settles O21: the slot is the PENDING one where nothing references it, and the lowest EMPTY one otherwise; and each
reference request writes the one slot it names. -/
theorem slotsAreTakenAndReferencesCounted : Obligations.SlotsAreTakenAndReferencesCounted := by
  unfold Obligations.SlotsAreTakenAndReferencesCounted
  refine ⟨fun m inputs i hi => ⟨fun k v hv hr hz => ?_, fun href => ⟨fun e he hlow => ?_, fun hfull => ?_⟩,
    fun e he hlow => ?_, fun hfull => ?_⟩, fun b code k number => ⟨fun hnone => ?_, fun i v hi hv hn => ?_⟩⟩
  · exact ⟨_, placeNextOpen_unreferenced hi hv hr hz, placed_fillSlot m .pending inputs i k,
      fun l hl => slotOf_fillSlot_other m .pending inputs i hl⟩
  · refine ⟨_, (placeNextOpen_referenced href).trans (congrArg (Option.map _) (lowestEmpty_eq he hlow)),
      placed_fillSlot_retirePending hi e, fun l hl => ?_⟩
    rw [slotOf_fillSlot_other _ _ _ _ hl, slotOf_retirePending hi]
    rfl
  · exact (placeNextOpen_referenced href).trans (congrArg (Option.map _) (lowestEmpty_none hfull))
  · refine ⟨_, congrArg (Option.map _) (lowestEmpty_eq he hlow), ⟨nextNumber i e, nextNumber_fresh i e, rfl,
      retireActive_boundList i, slotOf_setSlot_self _ _ _⟩, fun l hl => ?_⟩
    exact (slotOf_setSlot_other _ _ hl).trans (slotOf_retireActive hi l)
  · exact congrArg (Option.map _) (lowestEmpty_none hfull)
  · exact ⟨takeReference_none hnone, releaseReference_none hnone⟩
  · subst hn
    rw [takeReference_some hi hv, releaseReference_some hi hv]
    refine ⟨Touches.putItem _ _ (.refl _ b) (by decide), Touches.putItem _ _ (.refl _ b) (by decide),
      ⟨_, getItem_putItem_self .., rfl, rfl, slotOf_setSlot_self .., fun l hl => slotOf_setSlot_other _ _ hl⟩,
      ⟨_, getItem_putItem_self .., rfl, rfl, (slotOf_setSlot_self ..).trans (releasedSlot_eq v),
        fun l hl => slotOf_setSlot_other _ _ hl⟩,
      fun d hd => ⟨getItem_putItem_other _ _ hd, getItem_putItem_other _ _ hd⟩⟩

end SlotsOfAnItem

section Activation

variable {b c : Block} {code : Nat} {i j : Item} {k l : Slot} {v w : Version}

/-! ## Activation (R48, R72) -/

theorem retireActive_last (i : Item) : (retireActive i).last = i.last := by
  unfold retireActive
  split
  · rfl
  · split <;> rfl

/-- R48: what the activation makes of an item of the pending list. -/
def activatedItem (i : Item) : Item :=
  match slotWithRole i .pending, pendingVersion i with
  | some k, some v =>
    match v.status with
    | .valid => activateItem i k v
    | .held => i
  | _, _ => i

theorem activatedItem_held (hp : pendingVersion i = some v) (hs : v.status = .held) : activatedItem i = i := by
  unfold activatedItem
  cases slotWithRole i .pending <;> simp [hp, hs]

theorem activatedItem_valid (hi : OneOfEach i) (hv : slotOf i k = some v) (hr : v.role = .pending)
    (hs : v.status = .valid) : activatedItem i = activateItem i k v := by
  have hk : slotWithRole i .pending = some k := hr ▸ slotWithRole_eq hi hv (by simp [hr])
  simp [activatedItem, hk, pendingVersion_eq hk, hv, hs]

theorem pendingHeld_of_item (hi : getItem b code = some i) :
    pendingHeld b code = true ↔ ∃ v, pendingVersion i = some v ∧ v.status = .held := by
  unfold pendingHeld
  cases hp : pendingVersion i <;> simp [hi, hp]

theorem pendingHeld_congr (h : getItem c code = getItem b code) : pendingHeld c code = pendingHeld b code := by
  rw [pendingHeld, pendingHeld, h]

/-- R48: an item whose PENDING version is HELD keeps its place and is noticed; another gives its place up, and its VALID
version takes the ACTIVE role. -/
theorem activateOne_cases (code : Nat) (b : Block) :
    (pendingHeld b code = true ∧ activateOne code b = notice .itemHeld (.item code) b) ∨
    (pendingHeld b code = false ∧ (activateOne code b = leavePending code b ∧
        (getItem b code).map activatedItem = getItem b code ∨
      ∃ i, getItem b code = some i ∧ activateOne code b = leavePending code (putItem code (activatedItem i) b))) := by
  unfold activateOne
  cases hi : getItem b code with
  | none => simp [pendingHeld, hi]
  | some i =>
    rw [← Bool.not_eq_true, pendingHeld_of_item hi]
    cases hk : slotWithRole i .pending with
    | none => simp [pendingVersion, hk, activatedItem]
    | some k =>
      cases hp : pendingVersion i with
      | none => simp [hp, activatedItem, hk]
      | some v =>
        cases hs : v.status with
        | held => simp [hs, hk, hp]
        | valid => simp [hs, activatedItem, hk, hp]

theorem activateOne_getItem_self (code : Nat) (b : Block) :
    getItem (activateOne code b) code = (getItem b code).map activatedItem := by
  rcases activateOne_cases code b with ⟨hheld, h⟩ | ⟨-, ⟨h, hsame⟩ | ⟨i, hi, h⟩⟩
  · rw [h]
    cases hi : getItem b code with
    | none => exact hi
    | some i =>
      obtain ⟨v, hp, hs⟩ := (pendingHeld_of_item hi).1 hheld
      rw [Option.map_some, activatedItem_held hp hs]
      exact hi
  · rw [h, hsame]
    rfl
  · rw [h, hi]
    exact getItem_putItem_self b code _

theorem activateOne_getItem_other {d : Nat} (hd : d ≠ code) : getItem (activateOne code b) d = getItem b d := by
  rcases activateOne_cases code b with ⟨-, h⟩ | ⟨-, ⟨h, -⟩ | ⟨i, -, h⟩⟩ <;> rw [h]
  · rfl
  · rfl
  · exact getItem_putItem_other b _ hd

theorem activateOne_pending (code : Nat) (b : Block) : (activateOne code b).items.pending =
    b.items.pending.filter (fun d => decide (d ≠ code) || pendingHeld b d) := by
  rcases activateOne_cases code b with ⟨hheld, h⟩ | ⟨hheld, ⟨h, -⟩ | ⟨i, -, h⟩⟩ <;> rw [h]
  · refine (List.filter_eq_self.2 fun d _ => ?_).symm
    by_cases hd : d = code
    · subst hd; simp [hheld]
    · simp [hd]
  all_goals
    refine List.filter_congr fun d _ => ?_
    by_cases hd : d = code
    · subst hd; simp [hheld]
    · simp [hd]

/-- R48: the queue after the ITEM_HELD notices of a list of codes. -/
def heldNotices (clock : Option Nat) (codes : List Nat) (q : List NoticeEntry) : List NoticeEntry :=
  codes.foldl (fun q code => noticeQueueAfter .itemHeld (.item code) none clock q) q

theorem activateOne_mgmt (code : Nat) (b : Block) : (activateOne code b).mgmt = { b.mgmt with
    notices := heldNotices b.mode.clock ([code].filter (pendingHeld b)) b.mgmt.notices } := by
  rcases activateOne_cases code b with ⟨hheld, h⟩ | ⟨hheld, ⟨h, -⟩ | ⟨i, -, h⟩⟩ <;> rw [h] <;>
    simp [heldNotices, hheld]

theorem activateOne_mode (code : Nat) (b : Block) : (activateOne code b).mode = b.mode :=
  ((Touches.activateOne code (.refl [.items, .mgmt] b) (by decide) (by decide)).keeps .mode (by decide)).symm

/-- R48: what the walk leaves, once the codes differ: each is visited as it stood before the walk. -/
theorem activateAll_effect {codes : List Nat} (h : codes.Nodup) (b : Block) :
    (∀ d, getItem (activateAll codes b) d = if d ∈ codes then (getItem b d).map activatedItem else getItem b d) ∧
    (activateAll codes b).items.pending =
      b.items.pending.filter (fun d => decide (d ∉ codes) || pendingHeld b d) ∧
    (activateAll codes b).mgmt = { b.mgmt with
      notices := heldNotices b.mode.clock (codes.filter (pendingHeld b)) b.mgmt.notices } := by
  induction codes generalizing b with
  | nil => exact ⟨fun d => by simp [activateAll], by simp [activateAll], rfl⟩
  | cons x rest ih =>
    obtain ⟨hx, hrest⟩ := List.nodup_cons.1 h
    obtain ⟨hget, hpending, hmgmt⟩ := ih hrest (activateOne x b)
    have hheld (d : Nat) (hd : d ≠ x) : pendingHeld (activateOne x b) d = pendingHeld b d :=
      pendingHeld_congr (activateOne_getItem_other hd)
    change (∀ d, getItem (activateAll rest (activateOne x b)) d = _) ∧
      (activateAll rest (activateOne x b)).items.pending = _ ∧ (activateAll rest (activateOne x b)).mgmt = _
    refine ⟨fun d => ?_, ?_, ?_⟩
    · rw [hget]
      by_cases hd : d = x
      · subst hd
        simp [hx, activateOne_getItem_self]
      · simp [hd, activateOne_getItem_other hd]
    · rw [hpending, activateOne_pending, List.filter_filter]
      refine List.filter_congr fun d _ => ?_
      by_cases hd : d = x
      · subst hd
        simp [hx]
      · simp [hd, hheld d hd]
    · have hfilter : rest.filter (pendingHeld (activateOne x b)) = rest.filter (pendingHeld b) :=
        List.filter_congr fun d hd => hheld d fun e => hx (e ▸ hd)
      rw [hmgmt, hfilter, activateOne_mgmt, activateOne_mode]
      simp only [heldNotices, ← List.foldl_append, ← List.filter_append, List.singleton_append]

/-- Settles O22: the walk visits each code of the pending list as it stood, and the sweep takes that list. -/
theorem activationTakesEachValidPendingVersion : Obligations.ActivationTakesEachValidPendingVersion := by
  unfold Obligations.ActivationTakesEachValidPendingVersion
  intro b hnodup hone
  obtain ⟨hget, hpending, hmgmt⟩ := activateAll_effect hnodup b
  have hlabels : (activateAll b.items.pending b).labels = b.labels :=
    ((Touches.activateAll _ (.refl [.items, .mgmt] b) (by decide) (by decide)).keeps .labels (by decide)).symm
  refine ⟨Touches.activate (.refl _ b) (by decide) (by decide) (by decide), ?_, fun code hcode => ?_,
    fun code hcode i k v hi hv hr hs => ?_, ?_, hmgmt⟩
  · refine hpending.trans (List.filter_congr fun d hd => ?_)
    simp [hd]
  · refine (hget code).trans ?_
    split
    · next hmem =>
      cases hi : getItem b code with
      | none => rfl
      | some i =>
        obtain ⟨v, hp, hs⟩ := (pendingHeld_of_item hi).1 (hcode.resolve_left (not_not_intro hmem))
        rw [Option.map_some, activatedItem_held hp hs]
    · rfl
  · refine ⟨activateItem i k v, ?_, retireActive_last i, retireActive_boundList i, slotOf_setSlot_self _ _ _,
      fun l hl => (slotOf_setSlot_other _ _ hl).trans (slotOf_retireActive (hone code i hi) l)⟩
    refine (hget code).trans ?_
    rw [if_pos hcode, hi, Option.map_some, activatedItem_valid (hone code i hi) hv hr hs]
  · rw [activate, beginSweep_labels, hlabels]
    simp [List.isEmpty_iff]

end Activation

end Sys2Proof.Machine

namespace Sys2Proof.Machine

/-! # DESCRIPTION, WITHDRAW and the bindings as their owners' events -/

section DescriptionAndWithdraw

variable {b c : Block} {code n : Nat} {i j : Item} {k : Slot} {v : Version} {text : Text} {s : State} {v' : Verdict}

/-! ## DESCRIPTION (R46) -/

theorem exec_description (n code : Nat) (text : Text) (s : State) : exec (.description (.event n) code text) s =
    s.reports (applyDescription code text s.block).2 (applyDescription code text s.block).1 := by
  rw [exec_eq_effect]
  rfl

theorem exec_withdraw (n code : Nat) (s : State) : exec (.withdraw (.event n) code) s =
    s.reports (applyWithdraw code s.block).2 (applyWithdraw code s.block).1 := by
  rw [exec_eq_effect]
  rfl

theorem exec_description_of (h : applyDescription code text s.block = (b, v')) :
    exec (.description (.event n) code text) s = s.reports v' b := by rw [exec_description, h]

theorem exec_withdraw_of (h : applyWithdraw code s.block = (b, v')) :
    exec (.withdraw (.event n) code) s = s.reports v' b := by rw [exec_withdraw, h]

/-- R46: the text of a version that is not RETIRED is replaced. -/
theorem describeVersion_eq (text : Text) (v : Version) : describeVersion text v =
    if v.role = .retired then v else { v with inputs := { v.inputs with description := text } } := by
  unfold describeVersion
  cases hr : v.role <;> simp

theorem mem_describedSlots : k ∈ describedSlots i ↔ ∃ v, slotOf i k = some v ∧ v.role ≠ .retired := by
  simp only [describedSlots, List.mem_filter, mem_slotNumbers, true_and]
  cases hv : slotOf i k with
  | none => simp
  | some v => cases hr : v.role <;> simp [hr]

theorem applyDescription_described (hc : checkDescription text = true) (hi : getItem b code = some i)
    (hk : describedSlots i ≠ []) : applyDescription code text b =
      (handOn (Handoff.mk code (describedSlots i)) (putItem code (describeItem text i) b), none) := by
  simp [applyDescription, hc, hi, hk]

theorem applyDescription_nothing (hc : checkDescription text = true) (hi : getItem b code = some i)
    (hk : describedSlots i = []) : applyDescription code text b = (b, none) := by
  simp [applyDescription, hc, hi, hk]

theorem slotOf_describeItem (text : Text) (i : Item) (k : Slot) : slotOf (describeItem text i) k =
    (slotOf i k).map (fun v =>
      if v.role = .retired then v else { v with inputs := { v.inputs with description := text } }) := by
  simp only [← describeVersion_eq]
  exact slotOf_map i _ k

/-- R46: an item whose slots are all RETIRED or EMPTY is left as it is. -/
theorem slotOf_undescribed (hk : describedSlots i = []) (k : Slot) : slotOf i k = (slotOf i k).map (fun v =>
    if v.role = .retired then v else { v with inputs := { v.inputs with description := text } }) := by
  cases hv : slotOf i k with
  | none => rfl
  | some v =>
    have hretired : v.role = .retired := by
      by_contra hne
      exact List.not_mem_nil (hk ▸ mem_describedSlots.2 ⟨v, hv, hne⟩)
    simp [hretired]

/-- R47: a record goes with its place in the pending list. -/
theorem applyWithdraw_unbound (hi : getItem b code = some i) (hb : i.bound = []) : applyWithdraw code b =
    ({ b with items := { b.items with
        table := tableErase b.items.table code
        pending := listRemove b.items.pending code } }, none) := by
  simp [applyWithdraw, hi, hb]

/-- Settles O23: DESCRIPTION rewrites the slots it names and hands them on, and WITHDRAW takes the record out. -/
theorem descriptionAndWithdrawChangeOneItem : Obligations.DescriptionAndWithdrawChangeOneItem := by
  unfold Obligations.DescriptionAndWithdrawChangeOneItem
  refine ⟨fun n code text s => ⟨fun hbad => ?_, fun hlen hchars => ?_⟩, fun n code s => ⟨fun hnone => ?_, fun i hi =>
    ⟨fun hb => ?_, fun hb => ?_⟩⟩⟩
  · have hc : ¬ checkDescription text = true := by
      rw [checkDescription_iff]
      rintro ⟨hlen, hchars⟩
      rcases hbad with hlong | ⟨c, hmem, hc⟩
      · omega
      · have := hchars c hmem
        omega
    exact exec_description_of (by simp [applyDescription, hc])
  · have hc : checkDescription text = true := (checkDescription_iff text).2 ⟨hlen, hchars⟩
    refine ⟨fun hnone => exec_description_of (by simp [applyDescription, hc, hnone]), fun i hi => ?_⟩
    by_cases hk : describedSlots i = []
    · exact ⟨s.block, i, exec_description_of (applyDescription_nothing hc hi hk), .refl _ _, hi, rfl, rfl,
        slotOf_undescribed hk, fun _ _ => rfl, rfl, describedSlots i, fun _ => mem_describedSlots, by simp [hk]⟩
    · exact ⟨_, describeItem text i, exec_description_of (applyDescription_described hc hi hk),
        Touches.handOn _ (Touches.putItem _ _ (.refl _ _) (by decide)) (by decide), getItem_putItem_self _ _ _, rfl, rfl,
        slotOf_describeItem text i, fun d hd => getItem_putItem_other s.block _ hd, rfl, describedSlots i,
        fun _ => mem_describedSlots, by rw [if_neg hk]; rfl⟩
  · exact exec_withdraw_of (by simp [applyWithdraw, hnone])
  · exact exec_withdraw_of (by simp [applyWithdraw, hi, hb])
  · exact ⟨_, exec_withdraw_of (applyWithdraw_unbound hi hb), Touches.items (.refl _ _) (by decide),
      tableFind_erase_self _ _, fun d hd => tableFind_erase_other _ hd, rfl⟩

end DescriptionAndWithdraw

section Bindings

variable {b c : Block} {id code n t : Nat} {i : Item} {l m : Label} {s : State}

/-! ## A label is settled (R57, R59) -/

/-- R59: a label joins the queue of its class. -/
theorem enqueue_class (hl : getLabel b id = some l) :
    ∃ q, getLabel (enqueue id b) id = some { l with queued := some q } ∧ q.cls = classOf b l := by
  rw [enqueue, withLabel_of_some hl]
  split
  · split
    · exact ⟨_, getLabel_putLabel_self b id _, rfl⟩
    · exact ⟨_, getLabel_putLabel_self b id _, rfl⟩
  · exact ⟨_, getLabel_putLabel_self b id _, rfl⟩

theorem targetOf_congr (hm : c.mode = b.mode) (hi : c.items = b.items) (l : Label) : targetOf c l = targetOf b l := by
  unfold targetOf getItem
  rw [hm, hi]

theorem classOf_urgent (h : isUrgent l = true) : classOf b l = .urgent := by simp [classOf, h]

theorem isUrgent_of_foreign (h : l.binding = .foreign) : isUrgent l = true := by simp [isUrgent, h]

/-- R57, R59: the record that settling a label leaves: target, state and queue place as its item and the mode give them. -/
theorem settle_getLabel (hl : getLabel b id = some l) : ∃ o,
    getLabel (settle id b) id = some { settledLabel b l with queued := o } ∧
      SettledIn (settle id b) { settledLabel b l with queued := o } ∧
      (l.binding = .foreign → ∀ q, o = some q → q.cls = .urgent) := by
  have htouches : Touches [.labels] b (settle id b) := Touches.settle id (.refl _ b) (by decide)
  have htarget (x : Label) : targetOf (settle id b) x = targetOf b x :=
    targetOf_congr (htouches.keeps .mode (by decide)).symm (htouches.keeps .items (by decide)).symm x
  have hsettled (o : Option QueuePlace) (h : o.isSome = true ↔ (settledLabel b l).state = .stale) :
      SettledIn (settle id b) { settledLabel b l with queued := o } := ⟨(htarget _).symm, rfl, h⟩
  by_cases hs : (settledLabel b l).state = .stale
  · obtain ⟨q, hq, hcls⟩ := enqueue_class (getLabel_putLabel_self b id (settledLabel b l))
    refine ⟨some q, ?_, hsettled _ (iff_of_true rfl hs), fun hf x hx => ?_⟩
    · rw [settle, withLabel_of_some hl, if_pos hs]
      exact hq
    · cases hx
      exact hcls.trans (classOf_urgent (isUrgent_of_foreign hf))
  · refine ⟨none, ?_, hsettled _ (iff_of_false (by simp) hs), fun _ q hq => nomatch hq⟩
    rw [settle, withLabel_of_some hl, if_neg hs]
    exact getLabel_putLabel_self b id _

/-! ## A binding given up and taken (R60, R61) -/

theorem releaseAll_putLabel (ws : List RefWhat) (id : Nat) (m : Label) (b : Block) :
    releaseAll ws (putLabel id m b) = putLabel id m (releaseAll ws b) := by
  induction ws generalizing b with
  | nil => rfl
  | cons w rest ih =>
    have hone : releaseWhat w (putLabel id m b) = putLabel id m (releaseWhat w b) := by
      cases w with
      | blank => rfl
      | version code k n t =>
        have hitem : getItem (putLabel id m b) code = getItem b code := rfl
        have hname : namedVersion (putLabel id m b) code k n = namedVersion b code k n := rfl
        simp only [releaseWhat, releaseReference, hitem, hname]
        split <;> rfl
    change releaseAll rest (releaseWhat w (putLabel id m b)) = putLabel id m (releaseAll rest (releaseWhat w b))
    rw [hone, ih]

theorem leaveItem_touches (id : Nat) (l : Label) (b : Block) : Touches [.items] b (leaveItem id l b) := by
  unfold leaveItem
  split
  · exact Touches.unbindFromItem _ _ (.refl _ b) (by decide)
  · exact .refl _ b

theorem giveUpBinding_getLabel (item template : Option Nat) (hl : getLabel b id = some l) (j : Nat) :
    getLabel (giveUpBinding id item template b) j =
      if j = id then some (unboundLabel item template l) else getLabel b j := by
  rw [getLabel, giveUpBinding_table item template hl, tableFind_insert, getLabel]

theorem giveUpBinding_slots (item template : Option Nat) (hl : getLabel b id = some l) (d : Nat) :
    (getItem (giveUpBinding id item template b) d).map Item.slots =
      (getItem (releaseInFlight l (releaseConfirmed l b)) d).map Item.slots := by
  rw [giveUpBinding_of_some item template hl, releaseAll_putLabel, releaseBoth_eq]
  exact leaveItem_slots id l _ d

theorem giveUpBinding_composer (item template : Option Nat) (hl : getLabel b id = some l) :
    (giveUpBinding id item template b).composer = { b.composer with style := listRemove b.composer.style id } := by
  have hreleased := (releaseAll_touches (labelRefs l) (putLabel id (unboundLabel item template l) b)).trans
    (leaveItem_touches id l _)
  rw [giveUpBinding_of_some item template hl, leaveStyle, ← hreleased.keeps .composer (by decide)]
  rfl

/-- What a binding given up, and the other effects of a BIND or an UNBIND before the label is settled, leave. -/
structure GivenUp (id : Nat) (item template : Option Nat) (l : Label) (b c : Block) : Prop where
  touches : Touches [.labels, .items, .composer] b c
  own : getLabel c id = some (unboundLabel item template l)
  others : ∀ j, j ≠ id → getLabel c j = getLabel b j
  slots : ∀ d, (getItem c d).map Item.slots = (getItem (releaseInFlight l (releaseConfirmed l b)) d).map Item.slots
  composer : c.composer = { b.composer with style := listRemove b.composer.style id }

theorem givenUp_giveUpBinding (item template : Option Nat) (hl : getLabel b id = some l) :
    GivenUp id item template l b (giveUpBinding id item template b) where
  touches := Touches.giveUpBinding id item template (.refl _ b) (by decide) (by decide) (by decide)
  own := (giveUpBinding_getLabel item template hl id).trans (if_pos rfl)
  others := fun j hj => (giveUpBinding_getLabel item template hl j).trans (if_neg hj)
  slots := giveUpBinding_slots item template hl
  composer := giveUpBinding_composer item template hl

theorem GivenUp.bindToItem {item template : Option Nat} (h : GivenUp id item template l b c) (code j : Nat) :
    GivenUp id item template l b (bindToItem code j c) := by
  have hbound : Touches [.items] c (Machine.bindToItem code j c) := Touches.bindToItem code j (.refl _ c) (by decide)
  have hlabels : (Machine.bindToItem code j c).labels = c.labels := (hbound.keeps .labels (by decide)).symm
  have hget (x : Nat) : getLabel (Machine.bindToItem code j c) x = getLabel c x := by rw [getLabel, getLabel, hlabels]
  exact ⟨h.touches.trans (hbound.mono (by decide)), (hget id).trans h.own, fun x hx => (hget x).trans (h.others x hx),
    fun d => (bindToItem_slots code j c d).trans (h.slots d), (hbound.keeps .composer (by decide)).symm.trans h.composer⟩

/-- A settled label whose binding was given up: its record and its queue place, and what else changed. -/
theorem GivenUp.settle {item template : Option Nat} (h : GivenUp id item template l b c) : ∃ o,
    getLabel (settle id c) id = some { settledLabel c (unboundLabel item template l) with queued := o } ∧
      SettledIn (settle id c) { settledLabel c (unboundLabel item template l) with queued := o } ∧
      (∀ q, o = some q → q.cls = .urgent) ∧
      Touches [.labels, .items, .composer] b (settle id c) ∧
      (∀ j, j ≠ id → getLabel (settle id c) j = getLabel b j) ∧
      (settle id c).items = c.items ∧ (settle id c).composer = { b.composer with style := listRemove b.composer.style id } := by
  obtain ⟨o, hget, hsettled, hcls⟩ := settle_getLabel h.own
  have htouches : Touches [.labels] c (Machine.settle id c) := Touches.settle id (.refl _ c) (by decide)
  exact ⟨o, hget, hsettled, hcls rfl, h.touches.trans (htouches.mono (by decide)),
    fun j hj => ((LabelStep.settle id c).others j hj).trans (h.others j hj), (htouches.keeps .items (by decide)).symm,
    (htouches.keeps .composer (by decide)).symm.trans h.composer⟩

/-- R57: a label without references is STALE wherever it has a target, and an item without one leaves it CURRENT. -/
theorem settledState_unreferenced (hc : l.confirmed = none) (hi : l.item.isSome = true) :
    settledState l = if l.target = none then .current else .stale := by
  unfold settledState
  cases ht : l.target with
  | none => simp [Option.isSome_iff_ne_none.1 hi]
  | some t => cases t <;> simp [mustDraw, hc]

/-! ## The outcomes of BIND and UNBIND -/

theorem exec_bind_of {v : Verdict} (h : applyBind id code t s.block = (b, v)) :
    exec (.bind (.event n) id code t) s = s.reports v b := by
  have hexec : exec (.bind (.event n) id code t) s =
      s.reports (applyBind id code t s.block).2 (applyBind id code t s.block).1 := by rw [exec_eq_effect]; rfl
  rw [hexec, h]

theorem exec_unbind_of {v : Verdict} (h : applyUnbindRecord id s.block = (b, v)) :
    exec (.unbind (.event n) id) s = s.reports v b := by
  have hexec : exec (.unbind (.event n) id) s =
      s.reports (applyUnbindRecord id s.block).2 (applyUnbindRecord id s.block).1 := by rw [exec_eq_effect]; rfl
  rw [hexec, h]

theorem exec_template_of {v : Verdict} (h : applyTemplateRecord id t s.block = (b, v)) :
    exec (.templateRecord (.event n) id t) s = s.reports v b := by
  have hexec : exec (.templateRecord (.event n) id t) s =
      s.reports (applyTemplateRecord id t s.block).2 (applyTemplateRecord id t s.block).1 := by rw [exec_eq_effect]; rfl
  rw [hexec, h]

theorem templateFits_iff {cls : DisplayClass} : templateFits b t cls = true ↔
    ∃ (x : Fin 32) (d : Template), x.val = t ∧ b.composer.templates.get x = some d ∧ d.cls = cls := by
  unfold templateFits
  split
  · next ht =>
    constructor
    · intro h
      split at h
      · next d hd => exact ⟨⟨t, ht⟩, d, rfl, hd, of_decide_eq_true h⟩
      · cases h
    · rintro ⟨x, d, rfl, hd, rfl⟩
      simp [hd]
  · next ht =>
    refine iff_of_false (by simp) ?_
    rintro ⟨x, d, rfl, -⟩
    exact ht x.isLt

theorem applyBind_checked (hl : getLabel b id = some l) (hf : templateFits b t l.cls = true)
    (hi : getItem b code = some i) : applyBind id code t b = bindChecked id code t l i b := by
  simp [applyBind, hl, hf, hi]

theorem bindChecked_same (hs : l.state ≠ .inFlight) (hc : l.item = some code) :
    bindChecked id code t l i b = (applySameItem id t l b, none) := by simp [bindChecked, hs, hc]

theorem bindChecked_full (hs : l.state ≠ .inFlight) (hc : l.item ≠ some code) (h8 : 8 ≤ i.bound.length) :
    bindChecked id code t l i b = (b, some .labelLimit) := by
  simp [bindChecked, hs, hc, Config.maxBound, Nat.not_lt.2 h8]

theorem bindChecked_rebind (hs : l.state ≠ .inFlight) (hc : l.item ≠ some code) (h8 : i.bound.length < 8) :
    bindChecked id code t l i b = (applyRebind id code t b, none) := by
  simp [bindChecked, hs, hc, Config.maxBound, h8]

/-- R38: the bound lists after a label has left its item for another. -/
theorem rebind_bound (template : Option Nat) (hl : getLabel b id = some l) (hne : l.item ≠ some code) (d : Nat) :
    (getItem (bindToItem code id (giveUpBinding id (some code) template b)) d).map Item.bound =
      (getItem b d).map (fun o => if d = code then o.bound ++ [id] else if l.item = some d then listRemove o.bound id
        else o.bound) := by
  change boundOf _ d = _
  rw [bindToItem_bound, boundOf, giveUpBinding_bound _ template hl, Option.map_map]
  congr 1
  funext o
  by_cases hd : d = code
  · subst hd
    simp [hne]
  · simp [hd, Ne.symm hd]

/-- Settles O27: a binding that takes effect gives the old one up, joins the new item's list and settles the label. -/
theorem bindingsTakeEffectAtOnceOnALabelNotInFlight : Obligations.BindingsTakeEffectAtOnceOnALabelNotInFlight := by
  unfold Obligations.BindingsTakeEffectAtOnceOnALabelNotInFlight
  refine ⟨fun n id code t s => ⟨fun hnone => exec_bind_of (by simp [applyBind, hnone]), fun l hl => ⟨fun hbad => ?_,
    fun x d hx hd hcls => ?_⟩⟩, fun n id s => ⟨fun hnone => exec_unbind_of (by simp [applyUnbindRecord, hnone]),
    fun l hl hs => ⟨fun hfree => ?_, fun old hold => ?_⟩⟩⟩
  · have hf : ¬ templateFits s.block t l.cls = true := by
      rw [templateFits_iff]
      rintro ⟨x, d, hx, hd, hcls⟩
      exact hbad x d hx hd hcls
    exact exec_bind_of (by simp [applyBind, hl, hf])
  · have hf : templateFits s.block t l.cls = true := templateFits_iff.2 ⟨x, d, hx, hd, hcls⟩
    refine ⟨fun hnone => exec_bind_of (by simp [applyBind, hl, hf, hnone]), fun i hi hs hc => ⟨fun ht => ?_, fun ht => ?_⟩,
      fun i hi hs hc => ⟨fun h8 => ?_, fun h8 => ?_⟩⟩
    · refine exec_bind_of ((applyBind_checked hl hf hi).trans ((bindChecked_same hs hc).trans ?_))
      simp [applySameItem, ht]
    · have htemplate : applyTemplateRecord id t s.block = (applyTemplate id t s.block, none) := by
        simp [applyTemplateRecord, hl, hc, hf]
      rw [exec_template_of htemplate]
      refine exec_bind_of ((applyBind_checked hl hf hi).trans ((bindChecked_same hs hc).trans ?_))
      simp [applySameItem, ht]
    · exact exec_bind_of ((applyBind_checked hl hf hi).trans (bindChecked_full hs hc h8))
    · have hgiven := (givenUp_giveUpBinding (some code) (some t) hl).bindToItem code id
      obtain ⟨o, hget, hsettled, hurgent, htouches, hothers, hitems, hcomposer⟩ := hgiven.settle
      have hitem (d : Nat) : getItem (applyRebind id code t s.block) d =
          getItem (bindToItem code id (giveUpBinding id (some code) (some t) s.block)) d := by
        rw [getItem, applyRebind, hitems, getItem]
      refine ⟨_, _, exec_bind_of ((applyBind_checked hl hf hi).trans (bindChecked_rebind hs hc h8)), htouches, hget, hsettled,
        hothers, rfl, settledState_unreferenced rfl rfl, hurgent, fun d => ?_, fun d => ?_, hcomposer⟩
      · rw [hitem]
        exact rebind_bound (some t) hl hc d
      · rw [hitem]
        exact hgiven.slots d
  · refine exec_unbind_of (b := s.block) ?_
    simp [applyUnbindRecord, hl, hs, applyUnbind, withLabel_of_some hl, hfree]
  · have hgiven := givenUp_giveUpBinding none none hl
    obtain ⟨o, hget, ⟨-, -, hqueued⟩, hurgent, htouches, hothers, hitems, hcomposer⟩ := hgiven.settle
    obtain ⟨q, rfl⟩ := Option.isSome_iff_exists.1 (hqueued.2 rfl)
    have hunbind : applyUnbindRecord id s.block = (settle id (giveUpBinding id none none s.block), none) := by
      simp [applyUnbindRecord, hl, hs, applyUnbind, withLabel_of_some hl, hold]
    have hitem (d : Nat) : getItem (settle id (giveUpBinding id none none s.block)) d =
        getItem (giveUpBinding id none none s.block) d := by rw [getItem, hitems, getItem]
    refine ⟨_, _, q, exec_unbind_of hunbind, htouches, hget, hothers, rfl, hurgent q rfl, fun d => ?_, fun d => ?_, hcomposer⟩
    · rw [hitem, giveUpBinding_bound none none hl]
      simp only [hold, Option.some.injEq]
      rfl
    · rw [hitem]
      exact hgiven.slots d

end Bindings

end Sys2Proof.Machine

namespace Sys2Proof.Machine

/-! # The management interface: messages, windows, READ and STATUS -/

section MessagesAndWindows

variable {b c : Block} {h : MgmtHeader} {i : Instr} {s : State} {w : TableWindow} {src other : MgmtSource}

/-! ## Whose messages are taken (R159, R184) -/

/-- R184, R191: the row of a message is the message taken, answered or, for a restart, unanswered. -/
theorem messageRow_effect {m : MgmtBody} (hr : messageRow h m = some i) :
    (∃ f, effect i = message h f) ∨ ∃ f, effect i = silentMessage h f := by
  cases m with
  | window table first last direction => cases hr; exact Or.inl ⟨_, rfl⟩
  | write rs => cases hr; exact Or.inl ⟨_, rfl⟩
  | read count => cases hr; exact Or.inl ⟨_, rfl⟩
  | status => cases hr; exact Or.inl ⟨_, rfl⟩
  | unknownKind => cases hr
  | malformed => cases hr
  | command c =>
    cases c with
    | warmRestart => cases hr; exact Or.inr ⟨_, rfl⟩
    | coldRestart => cases hr; exact Or.inr ⟨_, rfl⟩
    | unknown => cases hr
    | _ => cases hr; exact Or.inl ⟨_, rfl⟩

theorem sourceTakes_iff : sourceTakes b src = true ↔
    (src = .headOffice → b.line.up = true ∧ b.line.loopback = .off) := by
  cases src with
  | storeServer hw net port => simp [sourceTakes]
  | headOffice => simp [sourceTakes, lineTakes_iff]

theorem effect_of_sourceNotTaken {m : MgmtBody} (hr : messageRow h m = some i) (hs : ¬ sourceTakes b h.source = true) :
    effect i b = b := by
  rcases messageRow_effect hr with ⟨f, hf⟩ | ⟨f, hf⟩ <;> rw [hf]
  · simp [message, hs]
  · simp [silentMessage, hs]

theorem effect_of_otherStation {m : MgmtBody} (hr : messageRow h m = some i) (hs : sourceTakes b h.source = true)
    (hst : h.station ≠ b.pins.straps.val) : effect i b = bump .mgmtIgnored b := by
  rcases messageRow_effect hr with ⟨f, hf⟩ | ⟨f, hf⟩ <;> rw [hf]
  · simp [message, forStation, hs, hst, ignoreMessage]
  · simp [silentMessage, forStation, hs, hst, ignoreMessage]

/-! ## The way of an answer (R184) -/

theorem portCarries_office (b : Block) (p : Port) : portCarries b p .office = true ↔
    (b.fwd.ports.get p).settings.role = .office ∧ (b.fwd.ports.get p).up = true := by
  have hrole (r : PortRole) : roleMember r .office = true ↔ r = .office := by cases r <;> decide
  rw [portCarries, Bool.and_eq_true, hrole]

/-! ## Windows (R185, R186) -/

theorem exec_window_of (ht : Taken h s.block) {table : Coded TableName} {first last : Nat} {direction : Coded Direction}
    {r : ReplyBody} (hw : applyWindow h.source table first last direction s.block = (b, r)) :
    exec (.window h table first last direction) s = s.answers h r b := by
  rw [exec_of_message (f := applyWindow h.source table first last direction) rfl ht, hw]

theorem applyWindow_inRange {t : TableName} {first last : Nat} (h1 : first ≤ last) (h2 : last < tableSize t)
    (direction : Coded Direction) : applyWindow src (some t) first last direction b =
      match direction with
      | none => (b, .refusal .fieldRange none)
      | some d => (setWindow src (TableWindow.mk t first last d (firstCursor first last d)) b,
          .cursor (firstCursor first last d)) := by
  have hrange : ¬ (last < first ∨ tableSize t ≤ last) := by omega
  exact if_neg hrange

theorem setWindow_touches (src : MgmtSource) (w : TableWindow) (b : Block) : Touches [.mgmt] b (setWindow src w b) := by
  cases src <;> exact Touches.mgmt (.refl _ b) (by decide)

@[simp] theorem windowOf_setWindow_self (src : MgmtSource) (w : TableWindow) (b : Block) :
    windowOf (setWindow src w b) src = some w := by
  cases src <;> rfl

theorem windowOf_setWindow_other (hs : src = .headOffice ↔ other ≠ .headOffice) (w : TableWindow) (b : Block) :
    windowOf (setWindow src w b) other = windowOf b other := by
  cases src with
  | storeServer hw net port =>
    cases other with
    | storeServer hw' net' port' => simp at hs
    | headOffice => rfl
  | headOffice =>
    cases other with
    | storeServer hw net port => rfl
    | headOffice => simp at hs

/-! ## READ (R187) -/

/-- R187: the first `n` records that a READ finds from a window's cursor on. -/
def recordsFrom (b : Block) (w : TableWindow) (n : Nat) : List ReadRecord :=
  (List.range n).map (fun i => readAt w.table (stepWindow^[i] w).cursor b)

theorem recordsFrom_succ (b : Block) (w : TableWindow) (n : Nat) :
    recordsFrom b w (n + 1) = readAt w.table w.cursor b :: recordsFrom b (stepWindow w) n := by
  simp only [recordsFrom, List.range_succ_eq_map, List.map_cons, List.map_map]
  rfl

/-- R187: a body of the records read before and the next `n` keeps within its longest. -/
def ReadFits (b : Block) (acc : List ReadRecord) (w : TableWindow) (n : Nat) : Prop :=
  Config.bodyBytes ReplyBody (.records (acc ++ recordsFrom b w n) (stepWindow^[n] w).cursor) ≤ 4096

theorem readFits_succ (b : Block) (acc : List ReadRecord) (w : TableWindow) (n : Nat) :
    ReadFits b acc w (n + 1) ↔ ReadFits b (acc ++ [readAt w.table w.cursor b]) (stepWindow w) n := by
  rw [ReadFits, ReadFits, recordsFrom_succ, List.append_assoc]
  rfl

/-- R187: the reading takes records while the body has room, and at most the count asked. -/
theorem readFrom_spec (b : Block) (count : Nat) (acc : List ReadRecord) (w : TableWindow) : ∃ k, k ≤ count ∧
    readFrom b count acc w = (acc ++ recordsFrom b w k, stepWindow^[k] w) ∧
    (∀ j, j < k → ReadFits b acc w (j + 1)) ∧ (k < count → ¬ ReadFits b acc w (k + 1)) := by
  induction count generalizing acc w with
  | zero => exact ⟨0, le_rfl, by simp [readFrom, recordsFrom], by simp, by simp⟩
  | succ count ih =>
    have hroom : bodyFits (acc ++ [readAt w.table w.cursor b]) (nextCursor w) = true ↔ ReadFits b acc w 1 := by
      exact decide_eq_true_iff
    by_cases hfit : ReadFits b acc w 1
    · obtain ⟨k, hk, hread, hin, hout⟩ := ih (acc ++ [readAt w.table w.cursor b]) (stepWindow w)
      refine ⟨k + 1, by omega, ?_, fun j hj => ?_, fun hlt => ?_⟩
      · rw [readFrom, if_pos (hroom.2 hfit), hread, recordsFrom_succ, List.append_assoc]
        rfl
      · cases j with
        | zero => exact hfit
        | succ j => exact (readFits_succ b acc w (j + 1)).2 (hin j (by omega))
      · exact fun hnext => hout (by omega) ((readFits_succ b acc w (k + 1)).1 hnext)
    · refine ⟨0, Nat.zero_le _, ?_, by simp, fun _ => hfit⟩
      rw [readFrom, if_neg fun hyes => hfit (hroom.1 hyes)]
      simp [recordsFrom]

theorem exec_read_of (ht : Taken h s.block) {count : Nat} {r : ReplyBody}
    (hr : applyRead h.source count s.block = (b, r)) : exec (.read h count) s = s.answers h r b := by
  rw [exec_of_message (f := applyRead h.source count) rfl ht, hr]



/-- R187: a READ over a window answers the records that fit, and steps the cursor over them. -/
theorem applyRead_window {count : Nat} (h1 : 1 ≤ count) (h2 : count ≤ 64) (hw : windowOf b src = some w) :
    applyRead src count b = (setWindow src (readFrom b count [] w).2 b,
      .records (readFrom b count [] w).1 (readFrom b count [] w).2.cursor) := by
  simp [applyRead, (within_iff _ _ _).2 ⟨h1, h2⟩, hw]

/-! ## STATUS (R187) -/

theorem isRegistered_eq (r : TillRecord) : isRegistered r = decide (r.state ≠ .unregistered) := by
  unfold isRegistered
  cases r.state <;> rfl

theorem statusReport_eq (b : Block) : statusReport b =
    StatusReport.mk [66, 73, 80, 79, 82, 65, 32, 52, 56, 54, 48] Config.revision b.mode.mode b.line.up
      b.exch.state b.mode.window b.mode.clock b.items.table.length b.labels.table.length
      (b.till.records.toList.filter (fun r => decide (r.state ≠ .unregistered))).length
      b.guest.sessions.length b.till.journal.length := by
  have hregistered : isRegistered = fun r => decide (r.state ≠ .unregistered) := funext isRegistered_eq
  rw [statusReport, registeredTills, hregistered]
  rfl

end MessagesAndWindows

section ReadPositions

variable {b : Block} {n : Nat}

/-! ## What a READ finds (R185, R187) -/

/-- In a table whose keys rise a record stands behind those of lower keys. -/
theorem tableAt_countP {α : Type} {t : Table α} {k : Nat} {v : α} (hs : tableSorted t) (h : tableFind t k = some v) :
    tableAt t (t.countP (fun p => decide (p.1 < k))) = some (k, v) := by
  induction t with
  | nil => cases h
  | cons p rest ih =>
    obtain ⟨j, w⟩ := p
    obtain ⟨hlow, hrest⟩ := List.pairwise_cons.1 hs
    by_cases hj : j = k
    · subst hj
      have hnone : rest.countP (fun p => decide (p.1 < j)) = 0 := by
        refine List.countP_eq_zero.2 fun q hq => ?_
        have := hlow q.1 (List.mem_map_of_mem (f := Prod.fst) hq)
        simpa using Nat.le_of_lt this
      simp only [tableFind, if_pos] at h
      cases h
      simp [hnone, tableAt]
    · have hfound : tableFind rest k = some v := by simpa [tableFind, hj] using h
      have hlt : j < k := hlow k (List.mem_map_of_mem (f := Prod.fst) (mem_of_tableFind hfound))
      have hnext := ih hrest hfound
      simpa [hlt, tableAt] using hnext

theorem tableAt_past {α : Type} {t : Table α} (h : t.length ≤ n) : tableAt t n = none := List.getElem?_eq_none h

@[simp] theorem keyHw_addressKey (seg : Segment) (hw : HwAddr) : keyHw (addressKey seg hw) = hw.toNat := by
  have := hw.isLt
  unfold keyHw addressKey
  omega

theorem addressKey_lt_iff (seg : Segment) (hw : HwAddr) (seg' : Segment) (hw' : HwAddr) :
    addressKey seg hw < addressKey seg' hw' ↔
      (segmentIndex seg).val < (segmentIndex seg').val ∨ (seg = seg' ∧ hw.toNat < hw'.toNat) := by
  have h1 := hw.isLt
  have h2 := hw'.isLt
  have hseg : seg = seg' ↔ (segmentIndex seg).val = (segmentIndex seg').val := by
    cases seg <;> cases seg' <;> decide
  rw [hseg]
  unfold addressKey
  omega

theorem cooldownTime_eq (now : Nat) (x : Session) : cooldownTime now x =
    if x.state = .cooldown then some ((now - x.cooldownStart.getD now) / 1000) else none := by
  unfold cooldownTime
  cases x.state <;> rfl

theorem entryCost_eq (e : PlanEntry) : entryCost e = if e.kind = .query then 1 else e.fragments := by
  unfold entryCost
  cases e.kind <;> rfl

theorem radioStatus_eq (b : Block) : radioStatus b = RadioStatus.mk b.radio.slot b.radio.cycle b.radio.budget
    (b.radio.plan.map (fun e => if e.kind = .query then 1 else e.fragments)).sum b.radio.plan.length
    (b.radio.plan.countP (fun e => decide (e.kind = .query))) b.radio.plan := by
  have hcost : entryCost = fun e => if e.kind = .query then 1 else e.fragments := funext entryCost_eq
  rw [radioStatus, hcost, queryCount, List.countP_eq_length_filter]

theorem guestStatus_eq (b : Block) : guestStatus b =
    GuestStatus.mk b.guest.level (b.guest.profile.maximum * b.guest.level / 8)
      (b.guest.tokens / 8) (b.guest.sessions.countP (fun p => decide (p.2.state = .active)))
      (b.guest.sessions.countP (fun p => decide (p.2.state = .exhausted)))
      (b.guest.sessions.countP (fun p => decide (p.2.state = .cooldown))) b.guest.full := by
  simp only [List.countP_eq_length_filter]
  rfl

/-! ### The counters -/

theorem readCounter_index (k : Counter) : readCounter (counterIndex k).val b = .counter (counterValue b k) := by
  have hapart : (counterIndex k).val ≠ 52 ∧ (counterIndex k).val ≠ 53 ∧ (counterIndex k).val ≠ 54 := by
    cases k with
    | dropped c => cases c <;> decide
    | discarded c => cases c <;> decide
    | _ => decide
  obtain ⟨h52, h53, h54⟩ := hapart
  simp [readCounter, h52, h53, h54, counterValue]

theorem countersFrom0_index : countersFrom0.map (fun k => (counterIndex k).val) = List.range 52 := by decide

theorem countersFrom55_index : countersFrom55.map (fun k => (counterIndex k).val) = List.range' 55 6 := by decide

theorem readCounter_from0 {k : Counter} (h : countersFrom0[n]? = some k) :
    readCounter n b = .counter (counterValue b k) := by
  have hindex : (List.range 52)[n]? = some (counterIndex k).val := by
    rw [← countersFrom0_index, List.getElem?_map, h]
    rfl
  obtain ⟨hlt, heq⟩ := List.getElem?_eq_some_iff.1 hindex
  rw [List.getElem_range] at heq
  exact heq ▸ readCounter_index k

theorem readCounter_from55 {k : Counter} (h : countersFrom55[n]? = some k) :
    readCounter (55 + n) b = .counter (counterValue b k) := by
  have hindex : (List.range' 55 6)[n]? = some (counterIndex k).val := by
    rw [← countersFrom55_index, List.getElem?_map, h]
    rfl
  obtain ⟨hlt, heq⟩ := List.getElem?_eq_some_iff.1 hindex
  rw [List.getElem_range', Nat.one_mul] at heq
  exact heq ▸ readCounter_index k

/-! ### The positions of each table -/

theorem readAt_ports (b : Block) : (∀ k : Fin 8, readAt .ports k.val b = .port (b.fwd.ports.get k)) ∧
    (∀ k : Fin 4, readAt .ports (8 + k.val) b = .gateway (b.fwd.gateways.get k)) ∧
    readAt .ports 12 b = .forwarder b.fwd.aging b.fwd.hwAddress ∧ readAt .ports 13 b = .collector b.mgmt.collector := by
  refine ⟨fun k => dif_pos k.isLt, fun k => ?_, rfl, rfl⟩
  have hgateway : gatewayOf b (gatewaySegment (8 + k.val)) = b.fwd.gateways.get k := by
    fin_cases k <;> rfl
  have hrange : within 8 11 (8 + k.val) = true := (within_iff _ _ _).2 ⟨by omega, by omega⟩
  simp [readAt, readPorts, hrange, hgateway]

theorem readAt_glyphs (b : Block) : (∀ k : Fin 4, readAt .glyphs k.val b = .font (b.composer.fonts.get k)) ∧
    ∀ k : Fin 384, readAt .glyphs (4 + k.val) b = .glyph (b.composer.glyphs.get k) := by
  refine ⟨fun k => dif_pos k.isLt, fun k => ?_⟩
  simp [readAt, readGlyphs]

theorem readAt_tills (b : Block) (k : Fin 96) : readAt .tills k.val b = .till (b.till.records.get k) := by
  simp [readAt, tillRecord]

theorem readAt_items {code : Nat} {i : Item} (hs : tableSorted b.items.table) (hi : getItem b code = some i) :
    readAt .items (b.items.table.countP (fun p => decide (p.1 < code))) b =
      .item code i (decide (code ∈ b.items.pending)) := by
  simp [readAt, readItem, tableAt_countP hs hi]

theorem readAt_labels {id : Nat} {l : Label} (hs : tableSorted b.labels.table) (hl : getLabel b id = some l) :
    readAt .labels (b.labels.table.countP (fun p => decide (p.1 < id))) b = .label id (id % 64) l := by
  simp [readAt, readLabel, tableAt_countP hs hl, wakeGroup]

theorem readAt_addresses {seg : Segment} {hw : HwAddr} {e : AddressEntry} (hs : tableSorted b.fwd.addresses)
    (he : getAddress b seg hw = some e) :
    readAt .addresses (b.fwd.addresses.countP (fun p => decide (p.1 < addressKey seg hw))) b =
      .address seg hw.toNat e.port e.net ((b.time.now - e.heardAt) / 1000) := by
  simp [readAt, readAddress, tableAt_countP hs he, addressAge]

theorem readAt_sessions {hw : HwAddr} {x : Session} (hs : tableSorted b.guest.sessions)
    (hx : getSession b hw = some x) :
    readAt .guestSessions (b.guest.sessions.countP (fun p => decide (p.1 < hw.toNat))) b = .session
      (SessionView.mk hw.toNat x.state ((b.time.now - x.start) / 1000) x.used ((b.time.now - x.lastTraffic) / 1000)
        (if x.state = .cooldown then some ((b.time.now - x.cooldownStart.getD b.time.now) / 1000) else none)
        (x.tokens / 8)) := by
  simp [readAt, readSession, tableAt_countP hs hx, sessionView, cooldownTime_eq, since]

theorem readAt_past (b : Block) (n : Nat) : (b.items.table.length ≤ n → readAt .items n b = .empty) ∧
    (b.labels.table.length ≤ n → readAt .labels n b = .empty) ∧
    (b.fwd.addresses.length ≤ n → readAt .addresses n b = .empty) ∧
    (b.guest.sessions.length ≤ n → readAt .guestSessions n b = .empty) ∧
    (b.mgmt.notices.length ≤ n → readAt .notices n b = .empty) := by
  refine ⟨fun h => ?_, fun h => ?_, fun h => ?_, fun h => ?_, fun h => ?_⟩
  · simp [readAt, readItem, tableAt_past h]
  · simp [readAt, readLabel, tableAt_past h]
  · simp [readAt, readAddress, tableAt_past h]
  · simp [readAt, readSession, tableAt_past h]
  · simp [readAt, h]

theorem readAt_counters_past (b : Block) (n : Nat) : readAt .counters (61 + n) b = .empty := by
  have h52 : 61 + n ≠ 52 := by omega
  have h53 : 61 + n ≠ 53 := by omega
  have h54 : 61 + n ≠ 54 := by omega
  simp [readAt, readCounter, h52, h53, h54]

theorem readAt_result (b : Block) : (b.line.result = none → readAt .counters 53 b = .empty ∧ readAt .counters 54 b = .empty) ∧
    ∀ r, b.line.result = some r → readAt .counters 53 b = .counter r.bits ∧ readAt .counters 54 b = .counter r.errors := by
  refine ⟨fun h => ?_, fun r h => ?_⟩ <;> simp [readAt, readCounter, h]

/-- Settles O54: a message is taken or ignored as its source, its line and its station say; WINDOW, READ and STATUS answer
as their checks say; and each position of each table is read. -/
theorem messagesAreAnsweredAndWindowsRead : Obligations.MessagesAreAnsweredAndWindowsRead := by
  unfold Obligations.MessagesAreAnsweredAndWindowsRead
  refine ⟨fun h m i s hrow => ⟨fun hsrc hdown => ?_, fun hup hst => ?_⟩, fun tag body b => ⟨rfl, fun hw net port => ?_⟩,
    fun h table first last direction s ht => ⟨fun hnone => ?_, fun t htable => ?_⟩, by decide, fun src other w b => ?_,
    fun h count s ht => ⟨fun hbad => ?_, fun h1 h2 => ⟨fun hnone => ?_, fun w hw => ?_⟩⟩, fun h s ht => ?_, fun b => ?_⟩
  · have hs : ¬ sourceTakes s.block h.source = true := by
      rw [sourceTakes_iff]
      intro htakes
      obtain ⟨hu, hl⟩ := htakes hsrc
      rcases hdown with hdown | hdown
      · exact absurd hu (by simp [hdown])
      · exact hdown hl
    rw [exec_eq_effect, effect_of_sourceNotTaken hrow hs]
  · rw [exec_eq_effect, effect_of_otherStation hrow (sourceTakes_iff.2 hup) hst]
  · simp only [answerMgmt, portCarries_office]
    rfl
  · subst hnone
    exact exec_window_of ht rfl
  · subst htable
    refine ⟨fun hbad => exec_window_of ht (if_pos hbad), fun hlow hhigh => ⟨fun hnone => ?_, fun d c hd hc => ?_⟩⟩
    · exact exec_window_of ht (by rw [applyWindow_inRange hlow hhigh, hnone])
    · have hcursor : firstCursor first last d = c := hc ▸ by cases d <;> rfl
      exact exec_window_of ht (by rw [applyWindow_inRange hlow hhigh, hd, ← hcursor])
  · exact ⟨setWindow_touches src w b, windowOf_setWindow_self src w b,
      fun hs => windowOf_setWindow_other hs w b, rfl⟩
  · refine exec_read_of ht (if_neg fun hin => ?_)
    obtain ⟨hlow, hhigh⟩ := (within_iff _ _ _).1 hin
    omega
  · exact exec_read_of ht (by simp [applyRead, (within_iff _ _ _).2 ⟨h1, h2⟩, hnone])
  · obtain ⟨k, hk, hread, hin, hout⟩ := readFrom_spec s.block count [] w
    refine ⟨k, recordsFrom s.block w, hk, fun n => rfl, ?_, hin, fun hlt => Nat.lt_of_not_le (hout hlt)⟩
    refine exec_read_of ht ((applyRead_window h1 h2 hw).trans ?_)
    rw [hread]
    rfl
  · rw [← statusReport_eq]
    exact exec_of_message (f := fun c => (c, .status (statusReport c))) rfl ht
  · obtain ⟨hports, hgateways, hforwarder, hcollector⟩ := readAt_ports b
    obtain ⟨hfonts, hglyphs⟩ := readAt_glyphs b
    obtain ⟨hnoresult, hresult⟩ := readAt_result b
    refine ⟨⟨hports, hgateways, hforwarder, hcollector, fun k => dif_pos k.isLt, fun k => dif_pos k.isLt, rfl, rfl,
      fun k => dif_pos k.isLt, hfonts, hglyphs, readAt_tills b, rfl, rfl⟩, congrArg _ (radioStatus_eq b),
      congrArg _ (guestStatus_eq b), fun code i => readAt_items, fun id l => readAt_labels, fun seg hw e => readAt_addresses,
      addressKey_lt_iff, fun hw x => readAt_sessions, fun n => ?_, rfl, hnoresult, hresult⟩
    obtain ⟨hitems, hlabels, haddresses, hsessions, hnotices⟩ := readAt_past b n
    exact ⟨hitems, hlabels, haddresses, hsessions, hnotices, fun e he => by simp [readAt, he],
      fun k hk => readCounter_from0 hk, fun k hk => readCounter_from55 hk, readAt_counters_past b n⟩

end ReadPositions

end Sys2Proof.Machine

namespace Sys2Proof.Machine

/-! # The label directory: targets, settled states and priority classes (R56 to R58) -/

section TargetsAndClasses

variable {b : Block} {code : Nat} {i : Item} {k : Slot} {l : Label} {t : Target} {v : Version}

/-! ## Targets (R56) -/

theorem targetOf_unbound (hl : l.item = none) :
    targetOf b l = if l.binding = .foreign then some .blank else none := by
  cases hb : l.binding <;> simp [targetOf, hl, hb]

theorem targetOf_bound (hl : l.item = some code) (hi : getItem b code = some i) :
    targetOf b l = boundTarget b.mode.mode code i := by simp [targetOf, hl, hi]

/-- R56: outside CLOSED the target is the VALID ACTIVE version; in CLOSED the VALID PENDING one goes before it. -/
theorem boundTarget_eq (mode : Mode) : boundTarget mode code i =
    if mode = .closed then
      (validTarget code i (slotWithRole i .pending)).or (validTarget code i (slotWithRole i .active))
    else validTarget code i (slotWithRole i .active) := by
  cases mode with
  | closed => cases h : validTarget code i (slotWithRole i .pending) <;> simp [boundTarget, h]
  | trading => rfl
  | closing => rfl

theorem validTarget_of_valid (hv : slotOf i k = some v) (hs : v.status = .valid) :
    validTarget code i (some k) = some (.version code k v.number) := by simp [validTarget, hv, hs]

/-- R34, R56: the VALID version of a role is the target that role gives. -/
theorem validTarget_role (hone : OneOfEach i) (hv : slotOf i k = some v) (hs : v.status = .valid)
    (hr : v.role ≠ .retired) : validTarget code i (slotWithRole i v.role) = some (.version code k v.number) := by
  rw [slotWithRole_eq hone hv hr, validTarget_of_valid hv hs]

/-- R56: a role none of whose versions is VALID gives no target. -/
theorem validTarget_role_none {r : Role} (h : ∀ k v, slotOf i k = some v → v.role = r → v.status ≠ .valid) :
    validTarget code i (slotWithRole i r) = none := by
  cases hk : slotWithRole i r with
  | none => rfl
  | some k =>
    obtain ⟨v, hv, hr⟩ := slotWithRole_some hk
    cases hs : v.status with
    | valid => exact absurd hs (h k v hv hr)
    | held => simp [validTarget, hv, hs]

/-! ## Settled states (R57) -/

/-- R57: a label shows a version where its confirmed reference names it with the bound template, and nothing asks for a
redraw. -/
theorem mustDraw_false_iff {n : Nat} : mustDraw l code k n = false ↔ l.marks.redraw = false ∧ l.marks.force = false ∧
    ∃ r t, l.confirmed = some r ∧ r.what = .version code k n t ∧ l.template = some t := by
  unfold mustDraw
  cases hc : l.confirmed with
  | none => simp
  | some r =>
    cases hw : r.what with
    | blank => simp [hw]
    | version c j m t =>
      simp only [Bool.or_eq_false_iff, Bool.not_eq_false', Bool.and_eq_true, decide_eq_true_eq, Option.some.injEq,
        exists_eq_left', exists_and_left, hw, RefWhat.version.injEq]
      constructor
      · rintro ⟨⟨⟨⟨⟨rfl, rfl⟩, rfl⟩, ht⟩, hr⟩, hf⟩
        exact ⟨hr, hf, t, ⟨rfl, rfl, rfl, rfl⟩, ht⟩
      · rintro ⟨hr, hf, _, ⟨rfl, rfl, rfl, rfl⟩, ht⟩
        exact ⟨⟨⟨⟨⟨rfl, rfl⟩, rfl⟩, ht⟩, hr⟩, hf⟩

theorem settledState_version {n : Nat} (ht : l.target = some (.version code k n)) :
    settledState l = if mustDraw l code k n then .stale else .current := by simp [settledState, ht]

/-! ## Priority classes (R58) -/

theorem isUrgent_iff : isUrgent l = true ↔ l.marks.force = true ∨ l.displayKnown = false ∨ l.binding = .foreign ∨
    ∀ w ∈ labelRefs l, w = .blank := by
  have hrefs : (labelRefs l).any isVersionRef = false ↔ ∀ w ∈ labelRefs l, w = .blank := by
    rw [List.any_eq_false]
    refine forall₂_congr fun w _ => ?_
    cases w <;> simp [isVersionRef]
  simp only [isUrgent, Bool.or_eq_true, Bool.not_eq_true', decide_eq_true_eq, hrefs, or_assoc]

/-- R58: a label that is not URGENT has its class by the prices it may be showing against its target's. -/
theorem classOf_priced (hu : isUrgent l = false) (ht : l.target = some t) :
    classOf b l = if largestE b l < targetE b t then .increase
      else if targetE b t < largestE b l then .decrease else .cosmetic := by simp [classOf, hu, ht]

theorem classOf_urgent_iff : classOf b l = .urgent ↔ isUrgent l = true := by
  refine ⟨fun h => ?_, classOf_urgent⟩
  by_contra hu
  rw [Bool.not_eq_true] at hu
  cases ht : l.target with
  | none => simp [classOf, hu, ht] at h
  | some t =>
    rw [classOf_priced hu ht] at h
    split at h
    · cases h
    · split at h <;> cases h

/-- Settles O25: the target by the VALID versions of the roles, the settled state by what is left to draw, the class by the
prices. -/
theorem targetStateAndClassAreAsListed : Obligations.TargetStateAndClassAreAsListed := by
  unfold Obligations.TargetStateAndClassAreAsListed
  refine ⟨fun b l hl => targetOf_unbound hl, fun b l code i hl hi hone => ⟨fun k v hv hs hr hm => ?_,
    fun k v hv hs hr hheld => ?_, fun hnone => ?_⟩, fun l => ⟨fun ht => ?_, fun ht => ?_, fun code k n ht => ?_⟩,
    fun b l => ⟨classOf_urgent_iff.trans isUrgent_iff, fun hu => ?_⟩⟩
  · have hpending := validTarget_role (code := code) hone hv hs (by simp [hr])
    rw [hr] at hpending
    simp [targetOf_bound hl hi, boundTarget_eq, hm, hpending]
  · have hactive := validTarget_role (code := code) hone hv hs (by simp [hr])
    rw [hr] at hactive
    rw [targetOf_bound hl hi, boundTarget_eq, hactive]
    split
    · next hm =>
      rw [validTarget_role_none fun j w hw hp => by simp [hheld hm j w hw hp]]
      rfl
    · rfl
  · have hactive : validTarget code i (slotWithRole i .active) = none :=
      validTarget_role_none fun k v hv hr hs => by simpa [hr] using hnone k v hv hs
    rw [targetOf_bound hl hi, boundTarget_eq, hactive]
    split
    · next hm =>
      rw [validTarget_role_none fun k v hv hr hs => by simpa [hr, hm] using hnone k v hv hs]
      rfl
    · rfl
  · simp [settledState, ht, Option.isNone_iff_eq_none]
  · simp [settledState, ht]
  · rw [settledState_version ht, ← mustDraw_false_iff]
    cases mustDraw l code k n <;> simp
  · have hcalm : isUrgent l = false := Bool.eq_false_iff.2 (mt classOf_urgent_iff.2 hu)
    refine ⟨fun ht => by simp [classOf, hcalm, ht], fun t ht => ?_⟩
    rw [classOf_priced hcalm ht]
    rcases Nat.lt_trichotomy (largestE b l) (targetE b t) with h | h | h
    · simp [h, Nat.not_lt.2 h.le, h.ne']
    · simp [h]
    · simp [h, Nat.not_lt.2 h.le, h.ne]

end TargetsAndClasses

end Sys2Proof.Machine

namespace Sys2Proof.Machine

/-! # What the directory makes of one label's record (R57, R59, R68) -/

section LabelRequeued

variable {b c d : Block} {id n t : Nat} {l m : Label} {o : Option QueuePlace} {first last : Nat} {s : State}

/-! ## Queue places (R59) -/

/-- R59: a place got from the place `old`: one that joins anew takes an order from `first` up to `last`, any other keeps its
order. -/
def PlaceFrom (first last : Nat) (old new : Option QueuePlace) : Prop :=
  ∀ p, new = some p → (JoinsAnew old p.cls → first ≤ p.order ∧ p.order < last) ∧
    ∀ q, old = some q → classRank q.cls ≤ classRank p.cls → p.order = q.order

theorem PlaceFrom.kept (first last : Nat) (o : Option QueuePlace) : PlaceFrom first last o o := by
  rintro p rfl
  exact ⟨fun h => absurd (h p rfl) (Nat.lt_irrefl _), fun q hq _ => by cases hq; rfl⟩

theorem PlaceFrom.left (first last : Nat) (o : Option QueuePlace) : PlaceFrom first last o none := fun _ h => nomatch h

theorem PlaceFrom.mono {new : Option QueuePlace} {first' last' : Nat} (h : PlaceFrom first last o new) (hf : first' ≤ first)
    (hl : last ≤ last') : PlaceFrom first' last' o new := fun p hp =>
  ⟨fun hj => ⟨hf.trans ((h p hp).1 hj).1, ((h p hp).1 hj).2.trans_le hl⟩, (h p hp).2⟩

theorem PlaceFrom.queuedFrom {p : QueuePlace} {cls : PriorityClass} (h : PlaceFrom first last o (some p)) (hc : p.cls = cls) :
    QueuedFrom first o cls (some p) := by
  subst hc
  exact ⟨p, rfl, rfl, fun hj => ((h p rfl).1 hj).1, (h p rfl).2⟩

/-! ## A record put in place and queued -/

/-- From `b` to `c` nothing but the record of label `id` and the next joining order changed; the record is `m`, whose queue
place comes from `o`. -/
structure Requeued (id : Nat) (b c : Block) (o : Option QueuePlace) (m : Label) : Prop where
  touches : Touches [.labels] b c
  labels : c.labels = { b.labels with table := c.labels.table, nextJoin := c.labels.nextJoin }
  own : getLabel c id = some m
  others : ∀ j, j ≠ id → getLabel c j = getLabel b j
  joins : b.labels.nextJoin ≤ c.labels.nextJoin
  place : PlaceFrom b.labels.nextJoin c.labels.nextJoin o m.queued

theorem Requeued.putLabel (id : Nat) (m : Label) (b : Block) : Requeued id b (putLabel id m b) m.queued m where
  touches := Touches.putLabel id m (.refl _ b) (by decide)
  labels := rfl
  own := getLabel_putLabel_self b id m
  others := fun _ hj => getLabel_putLabel_other b m hj
  joins := Nat.le_refl _
  place := .kept _ _ _

theorem Requeued.after_put {x : Label} (h : Requeued id (Machine.putLabel id x b) c o m) : Requeued id b c o m where
  touches := (Touches.putLabel id x (.refl _ b) (by decide)).trans h.touches
  labels := h.labels
  own := h.own
  others := fun j hj => (h.others j hj).trans (getLabel_putLabel_other b x hj)
  joins := h.joins
  place := h.place

theorem Requeued.refl (hl : getLabel b id = some l) : Requeued id b b l.queued l where
  touches := .refl _ b
  labels := rfl
  own := hl
  others := fun _ _ => rfl
  joins := Nat.le_refl _
  place := .kept _ _ _

theorem Requeued.mode (h : Requeued id b c o m) : c.mode = b.mode := (h.touches.keeps .mode (by decide)).symm

theorem Requeued.items (h : Requeued id b c o m) : c.items = b.items := (h.touches.keeps .items (by decide)).symm

theorem Requeued.targetOf (h : Requeued id b c o m) (x : Label) : targetOf c x = targetOf b x :=
  targetOf_congr h.mode h.items x

theorem namedVersion_congr (hi : c.items = b.items) (code : Nat) (k : Slot) (n : Nat) :
    namedVersion c code k n = namedVersion b code k n := by rw [namedVersion, namedVersion, getItem, getItem, hi]

theorem classOf_congr (hi : c.items = b.items) (l : Label) : classOf c l = classOf b l := by
  have hversion (w : RefWhat) : refVersion c w = refVersion b w := by
    cases w <;> simp only [refVersion, namedVersion_congr hi]
  have hlargest : largestE c l = largestE b l := by simp only [largestE, hversion]
  have htarget (t : Target) : targetE c t = targetE b t := by cases t <;> simp only [targetE, namedVersion_congr hi]
  simp only [classOf, hlargest, htarget]

theorem Requeued.classOf (h : Requeued id b c o m) (x : Label) : classOf c x = classOf b x := classOf_congr h.items x

/-- R59: what joining a queue, or having one's class computed again, does. -/
theorem enqueue_cases (hl : getLabel b id = some l) :
    (JoinsAnew l.queued (classOf b l) ∧ enqueue id b =
      { putLabel id { l with queued := some (QueuePlace.mk (classOf b l) b.labels.nextJoin) } b with
        labels := { (putLabel id { l with queued := some (QueuePlace.mk (classOf b l) b.labels.nextJoin) } b).labels with
          nextJoin := b.labels.nextJoin + 1 } }) ∨
    ∃ q, l.queued = some q ∧ classRank q.cls ≤ classRank (classOf b l) ∧
      enqueue id b = putLabel id { l with queued := some (QueuePlace.mk (classOf b l) q.order) } b := by
  rw [enqueue, withLabel_of_some hl]
  split
  · next q hq =>
    split
    · next hr => exact .inl ⟨fun _ h => by rwa [← Option.some.inj (hq.symm.trans h)], rfl⟩
    · next hr => exact .inr ⟨q, hq, Nat.le_of_not_lt hr, rfl⟩
  · next hq => exact .inl ⟨fun _ h => (nomatch hq.symm.trans h), rfl⟩

theorem Requeued.enqueue (hl : getLabel b id = some l) : ∃ q, q.cls = Machine.classOf b l ∧
    Requeued id b (enqueue id b) l.queued { l with queued := some q } := by
  rcases enqueue_cases hl with ⟨hj, he⟩ | ⟨q, hq, hr, he⟩
  · rw [he]
    refine ⟨_, rfl, ⟨(Touches.putLabel id _ (.refl _ b) (by decide)).labels (by decide), rfl, getLabel_putLabel_self b id _,
      fun _ hj => getLabel_putLabel_other b _ hj, Nat.le_succ _, ?_⟩⟩
    rintro p ⟨⟩
    exact ⟨fun _ => ⟨Nat.le_refl _, Nat.lt_succ_self _⟩, fun q hq hle => absurd (hj q hq) (Nat.not_lt.2 hle)⟩
  · rw [he]
    refine ⟨_, rfl, { Requeued.putLabel id _ b with place := ?_ }⟩
    rw [hq]
    rintro p ⟨⟩
    exact ⟨fun hj => absurd (hj q rfl) (Nat.not_lt.2 hr), by rintro _ ⟨⟩ _; rfl⟩

/-- R57: what settling leaves of a label: target and state as listed, and a place in the queue of its class where it is
STALE. -/
theorem Requeued.settle (hl : getLabel b id = some l) : ∃ q,
    Requeued id b (settle id b) l.queued { settledLabel b l with queued := q } ∧
      (∀ p, q = some p → p.cls = Machine.classOf b (settledLabel b l)) ∧
      SettledIn (settle id b) { settledLabel b l with queued := q } := by
  have hsettled {c : Block} {q : Option QueuePlace}
      (h : Requeued id b c l.queued { settledLabel b l with queued := q })
      (hq : q.isSome = true ↔ (settledLabel b l).state = .stale) : SettledIn c { settledLabel b l with queued := q } :=
    ⟨(h.targetOf _).symm, rfl, hq⟩
  rw [Machine.settle, withLabel_of_some hl]
  split
  · next hs =>
    obtain ⟨q, hcls, hq⟩ := Requeued.enqueue (getLabel_putLabel_self b id (settledLabel b l))
    exact ⟨some q, hq.after_put, by rintro _ ⟨⟩; exact hcls, hsettled hq.after_put (iff_of_true rfl hs)⟩
  · next hs =>
    have hput : Requeued id b (Machine.putLabel id { settledLabel b l with queued := none } b) l.queued
        { settledLabel b l with queued := none } := { Requeued.putLabel id _ b with place := .left _ _ _ }
    exact ⟨none, hput, fun _ h => (nomatch h), hsettled hput (iff_of_false (by simp) hs)⟩

theorem Requeued.becomeUncertain (hl : getLabel b id = some l) : ∃ q, q.cls = Machine.classOf b l ∧
    Requeued id b (becomeUncertain id b) l.queued { l with state := .uncertain, queued := some q } := by
  rw [becomeUncertain_of_some hl]
  obtain ⟨q, hcls, hq⟩ := Requeued.enqueue (getLabel_putLabel_self b id { l with state := .uncertain })
  exact ⟨q, hcls, hq.after_put⟩

/-- R68: a FAILED label that returns, from `l` to `m`. -/
structure Returned (b : Block) (l m : Label) : Prop where
  record : m = { l with retry := 0, oversize := false, target := m.target, state := m.state, queued := m.queued }
  cls : ∀ q, m.queued = some q → q.cls = classOf b m
  free : l.inFlight = none → SettledIn b m
  held : l.inFlight ≠ none → m.state = .uncertain ∧ m.target = l.target ∧ m.queued ≠ none

theorem Requeued.returnFailed (hl : getLabel b id = some l) : ∃ m,
    Requeued id b (returnFailed id b) l.queued m ∧ Returned (returnFailed id b) l m := by
  have hput : getLabel (Machine.putLabel id { l with retry := 0, oversize := false } b) id = some _ :=
    getLabel_putLabel_self b id _
  rw [Machine.returnFailed, withLabel_of_some hl]
  split
  · next hf =>
    obtain ⟨q, hcls, hq⟩ := Requeued.becomeUncertain hput
    refine ⟨_, hq.after_put, rfl, ?_, fun h => by simp [h] at hf, fun _ => ⟨rfl, rfl, by simp⟩⟩
    rintro _ ⟨⟩
    exact hcls.trans (hq.classOf _).symm
  · next hf =>
    obtain ⟨q, hq, hcls, hs⟩ := Requeued.settle hput
    exact ⟨_, hq.after_put, rfl, fun p hp => (hcls p hp).trans (hq.classOf _).symm, fun _ => hs,
      fun h => absurd (Option.isSome_iff_ne_none.2 h) hf⟩

/-- R58: a label with the force mark is queued as URGENT. -/
theorem isUrgent_of_force (h : l.marks.force = true) : isUrgent l = true := by simp [isUrgent, h]

/-! ## LABEL and TEMPLATE records (R54, R61) -/

theorem exec_label_of {cls : Coded DisplayClass} {v : Verdict} (h : applyLabel id cls s.block = (b, v)) :
    exec (.label (.event n) id cls) s = s.reports v b := by
  have hexec : exec (.label (.event n) id cls) s =
      s.reports (applyLabel id cls s.block).2 (applyLabel id cls s.block).1 := by rw [exec_eq_effect]; rfl
  rw [hexec, h]

theorem labelId_in_range (h1 : 1 ≤ id) (h2 : id ≤ 4294967295) : ¬ (id = 0 ∨ Config.max32 < id) := by
  rw [Config.max32]
  omega

theorem applyLabel_in_range {cls : DisplayClass} (h1 : 1 ≤ id) (h2 : id ≤ 4294967295) :
    applyLabel id (some cls) b = if (getLabel b id).isSome then (b, some .labelExists)
      else if b.labels.table.length < 65536 then (putLabel id (newLabel cls) b, none) else (b, some .tableFull) := by
  rw [applyLabel, if_neg (labelId_in_range h1 h2)]
  rfl

/-- R61, R68: what a new template makes of a label, from `l` to `m`. -/
structure Retemplated (b : Block) (t : Nat) (l m : Label) : Prop where
  kept : l.state = .inFlight ∨ l.state = .uncertain ∨ (l.state = .failed ∧ (l.oversize = false ∨ l.template = some t)) →
    m = { l with template := some t }
  settled : l.state = .unbound ∨ l.state = .current ∨ l.state = .stale → SettledIn b m ∧
    m = { l with template := some t, target := m.target, state := m.state, queued := m.queued }
  returned : l.state = .failed ∧ l.oversize = true ∧ l.template ≠ some t → Returned b { l with template := some t } m

theorem Requeued.applyTemplate (t : Nat) (hl : getLabel b id = some l) : ∃ m,
    Requeued id b (applyTemplate id t b) l.queued m ∧ Retemplated (applyTemplate id t b) t l m := by
  have hput := getLabel_putLabel_self b id { l with template := some t }
  have hkept : Requeued id b (Machine.putLabel id { l with template := some t } b) l.queued { l with template := some t } :=
    .putLabel id _ b
  have hsettled : ∃ m, Requeued id b (Machine.settle id (Machine.putLabel id { l with template := some t } b)) l.queued m ∧
      SettledIn (Machine.settle id (Machine.putLabel id { l with template := some t } b)) m ∧
      m = { l with template := some t, target := m.target, state := m.state, queued := m.queued } := by
    obtain ⟨q, hq, -, hs⟩ := Requeued.settle hput
    exact ⟨_, hq.after_put, hs, rfl⟩
  rw [Machine.applyTemplate, withLabel_of_some hl]
  split
  · next hst =>
    split
    · next ho =>
      obtain ⟨m, hm, hr⟩ := Requeued.returnFailed hput
      exact ⟨m, hm.after_put, fun h => by simp [hst, ho] at h, fun h => by simp [hst] at h, fun _ => hr⟩
    · next ho => exact ⟨_, hkept, fun _ => rfl, fun h => by simp [hst] at h, fun h => absurd h.2 ho⟩
  · next hst => exact ⟨_, hkept, fun _ => rfl, fun h => by simp [hst] at h, fun h => by simp [hst] at h⟩
  · next hst => exact ⟨_, hkept, fun _ => rfl, fun h => by simp [hst] at h, fun h => by simp [hst] at h⟩
  all_goals
    next hst =>
    obtain ⟨m, hm, hs⟩ := hsettled
    exact ⟨m, hm, fun h => by simp [hst] at h, fun _ => hs, fun h => by simp [hst] at h⟩

/-- Settles O26: the checks of a record in their order, then a fresh record, or the label as its new template leaves it. -/
theorem labelAndTemplateRecordsChangeOneLabel : Obligations.LabelAndTemplateRecordsChangeOneLabel := by
  unfold Obligations.LabelAndTemplateRecordsChangeOneLabel
  refine ⟨fun n id cls s => ⟨fun hbad => exec_label_of ?_, fun c h1 h2 hc => ?_⟩, fun n id t s =>
    ⟨fun hnone => exec_template_of (by simp [applyTemplateRecord, hnone]), fun l hl => ⟨fun hfree => ?_, fun hbound =>
      ⟨fun hbad => ?_, fun x d hx hd hcls => ?_⟩⟩⟩⟩
  · rcases hbad with h | h | h
    · simp [applyLabel, h]
    · simp [applyLabel, Config.max32, h]
    · simp [applyLabel, h]
  · subst hc
    refine ⟨fun hsome => exec_label_of ?_, fun hnone hfull => exec_label_of ?_, fun hnone hroom =>
      ⟨putLabel id (newLabel c) s.block, exec_label_of ?_, (Requeued.putLabel id _ _).touches, getLabel_putLabel_self _ _ _,
        (Requeued.putLabel id _ _).others, rfl⟩⟩
    · rw [applyLabel_in_range h1 h2, if_pos (Option.isSome_iff_ne_none.2 hsome)]
    · simp [applyLabel_in_range h1 h2, hnone, Nat.not_lt.2 hfull]
    · simp [applyLabel_in_range h1 h2, hnone, hroom]
  · exact exec_template_of (by simp [applyTemplateRecord, hl, hfree])
  · have hf : ¬ templateFits s.block t l.cls = true := by
      rw [templateFits_iff]
      rintro ⟨x, d, hx, hd, hcls⟩
      exact hbad x d hx hd hcls
    exact exec_template_of (by simp [applyTemplateRecord, hl, hbound, hf])
  · have hf : templateFits s.block t l.cls = true := templateFits_iff.2 ⟨x, d, hx, hd, hcls⟩
    obtain ⟨m, hm, hkept, hsettled, hreturned⟩ := Requeued.applyTemplate t hl
    refine ⟨_, m, exec_template_of (by simp [applyTemplateRecord, hl, hbound, hf]), hm.touches, hm.own, hm.others, hkept,
      hsettled, fun h => ?_⟩
    obtain ⟨hrecord, -, hfree, hheld⟩ := hreturned h
    exact ⟨hrecord, hfree, fun hfl => ⟨(hheld hfl).1, (hheld hfl).2.2⟩⟩

end LabelRequeued

end Sys2Proof.Machine

namespace Sys2Proof.Machine

/-! # Bindings that wait, and FORCE_LABEL (R60, R61, R71) -/

section WaitingBindings

variable {b : Block} {code id t : Nat} {i : Item} {l : Label}

/-! ## The next binding stored (R60, R61) -/

theorem storeNext_of_some (n : NextBinding) (hl : getLabel b id = some l) :
    storeNext id n b = putLabel id { l with next := some n } b := modifyLabel_of_some _ hl

/-- R60: a BIND while IN_FLIGHT, of the item the label is or is to be bound to. -/
theorem bindChecked_waiting_same (hs : l.state = .inFlight) (he : effectiveItem l = some code) :
    bindChecked id code t l i b = (if l.next.isSome then storeNext id (.bind code t) b else applySameItem id t l b, none) := by
  simp only [bindChecked, if_pos hs, if_pos he]
  split <;> rfl

/-- R60: a BIND while IN_FLIGHT, of another item. -/
theorem bindChecked_waiting_other (hs : l.state = .inFlight) (he : effectiveItem l ≠ some code) :
    bindChecked id code t l i b = if (listRemove i.bound id).length < 8 then (storeNext id (.bind code t) b, none)
      else (b, some .labelLimit) := by
  rw [bindChecked, if_pos hs, if_neg he]
  rfl

theorem applyTemplate_inFlight (t : Nat) (hl : getLabel b id = some l) (hs : l.state = .inFlight) :
    applyTemplate id t b = putLabel id { l with template := some t } b := by
  rw [applyTemplate, withLabel_of_some hl]
  split
  · next h => simp [hs] at h
  · rfl
  all_goals next h => simp [hs] at h

/-- Settles O28: the item a BIND is checked against is the one the label is to be bound to; what serves is stored. -/
theorem bindAndUnbindWaitBehindATransaction : Obligations.BindAndUnbindWaitBehindATransaction := by
  unfold Obligations.BindAndUnbindWaitBehindATransaction
  refine fun n id s l hl hs => ⟨fun code x d i hd hcls hi => ?_, fun hitem hnext => exec_unbind_of ?_, fun h => exec_unbind_of ?_⟩
  · have hchecked := applyBind_checked hl (templateFits_iff.2 ⟨x, d, rfl, hd, hcls⟩) hi
    refine ⟨fun he hn ht => exec_bind_of ?_, fun he hn ht => exec_bind_of ?_, fun he h8 => exec_bind_of ?_,
      fun h => exec_bind_of ?_⟩
    · rw [hchecked, bindChecked_waiting_same hs he]
      simp [hn, applySameItem, ht]
    · rw [hchecked, bindChecked_waiting_same hs he]
      simp [hn, applySameItem, ht, applyTemplate_inFlight _ hl hs]
    · rw [hchecked, bindChecked_waiting_other hs he]
      exact if_neg (Nat.not_lt.2 h8)
    · rw [hchecked, ← storeNext_of_some _ hl]
      rcases h with ⟨he, hn⟩ | ⟨he, h8⟩
      · rw [bindChecked_waiting_same hs he, if_pos (Option.isSome_iff_ne_none.2 hn)]
      · rw [bindChecked_waiting_other hs he]
        exact if_pos h8
  · simp [applyUnbindRecord, hl, hs, hitem, hnext]
  · have hwaits : l.next.isSome = true ∨ l.item.isSome = true :=
      h.symm.imp Option.isSome_iff_ne_none.2 Option.isSome_iff_ne_none.2
    simp [applyUnbindRecord, hl, hs, hwaits, storeNext_of_some _ hl]

end WaitingBindings

section ForceLabel

variable {b : Block} {id : Nat} {l m : Label} {q : QueuePlace} {h : MgmtHeader} {s : State}

/-! ## FORCE_LABEL (R71) -/

theorem exec_forceLabel_of {r : ReplyBody} (ht : Taken h s.block) (hf : applyForce id s.block = (b, r)) :
    exec (.forceLabel h id) s = s.answers h r b := by
  have hmessage : effect (.forceLabel h id) s.block = answerMgmt h.source h.tag r b := by
    rw [effect, message_of_taken _ ht, hf]
  rw [exec_eq_effect, hmessage]
  rfl

theorem applyForce_in_range (h1 : 1 ≤ id) (h2 : id ≤ 4294967295) (hl : getLabel b id = some l) :
    applyForce id b = if l.item.isNone = true ∧ l.binding = .normal then (b, .refusal .notFound none)
      else (forceLabel id l b, .done) := by
  rw [applyForce, if_neg (labelId_in_range h1 h2), hl]

/-- R57, R71: a label with the force mark has something to draw wherever it has a target. -/
theorem settledState_forced (hf : m.marks.force = true) (ht : m.target ≠ none) : settledState m = .stale := by
  obtain ⟨t, ht⟩ := Option.ne_none_iff_exists'.1 ht
  cases t with
  | blank => simp [settledState, ht]
  | version code k n =>
    have hdraw : mustDraw m code k n = true := by
      rw [← Bool.not_eq_false, mustDraw_false_iff]
      simp [hf]
    rw [settledState_version ht, if_pos hdraw]

/-- R71: what FORCE_LABEL makes of a label that it serves, from `l` to `m`. -/
structure Forced (b : Block) (l m : Label) : Prop where
  record : m = { forcedLabel l with target := m.target, state := m.state, queued := m.queued }
  inFlight : l.state = .inFlight → m.state = .inFlight ∧ m.target = l.target ∧ m.queued = l.queued
  urgent : l.state ≠ .inFlight → ∀ q, m.queued = some q → q.cls = .urgent
  uncertain : l.state = .uncertain ∨ (l.state = .failed ∧ l.inFlight ≠ none) → m.state = .uncertain ∧ m.queued ≠ none
  settled : isSettledState l.state = true ∨ (l.state = .failed ∧ l.inFlight = none) → SettledIn b m

/-- R58: a forced label is URGENT, whatever its target and state. -/
theorem classOf_forced (hm : m = { forcedLabel l with target := m.target, state := m.state, queued := m.queued }) :
    classOf b m = .urgent := classOf_urgent (isUrgent_of_force (by rw [hm]; rfl))

theorem Requeued.forceLabel (id : Nat) (l : Label) (b : Block) : ∃ m,
    Requeued id b (forceLabel id l b) l.queued m ∧ Forced (forceLabel id l b) l m := by
  have hput := getLabel_putLabel_self b id (forcedLabel l)
  have hsettled : isSettledState l.state = true → ∃ m,
      Requeued id b (Machine.settle id (Machine.putLabel id (forcedLabel l) b)) l.queued m ∧
        Forced (Machine.settle id (Machine.putLabel id (forcedLabel l) b)) l m := fun hs => by
    obtain ⟨q, hq, hcls, hset⟩ := Requeued.settle hput
    refine ⟨_, hq.after_put, rfl, fun h => by simp [h, isSettledState] at hs, fun _ p hp => ?_, fun h => ?_, fun _ => hset⟩
    · exact (hcls p hp).trans (classOf_forced (l := l) rfl)
    · rcases h with h | h <;> simp [h, isSettledState] at hs
  unfold Machine.forceLabel
  split
  · next hs =>
    obtain ⟨m, hm, hrecord, hcls, hfree, hheld⟩ := Requeued.returnFailed hput
    refine ⟨m, hm.after_put, hrecord, fun h => by simp [hs] at h, fun _ q hq => ?_, fun h => ?_, fun h => ?_⟩
    · exact (hcls q hq).trans (classOf_forced (l := l) hrecord)
    · obtain ⟨-, hf⟩ := h.resolve_left (by simp [hs])
      exact ⟨(hheld hf).1, (hheld hf).2.2⟩
    · obtain ⟨-, hf⟩ := h.resolve_left (by simp [hs, isSettledState])
      exact hfree hf
  · next hs =>
    exact ⟨_, .putLabel id _ b, rfl, fun _ => ⟨hs, rfl, rfl⟩, fun h => absurd hs h, fun h => by simp [hs] at h,
      fun h => by simp [hs, isSettledState] at h⟩
  · next hs =>
    obtain ⟨q, hcls, hq⟩ := Requeued.enqueue hput
    refine ⟨_, hq.after_put, rfl, fun h => by simp [hs] at h, ?_, fun _ => ⟨hs, by simp⟩,
      fun h => by simp [hs, isSettledState] at h⟩
    rintro - _ ⟨⟩
    exact hcls.trans (classOf_forced (l := l) rfl)
  · next hs => exact hsettled (by rw [hs]; rfl)
  · next hs => exact hsettled (by rw [hs]; rfl)
  · next hs => exact hsettled (by rw [hs]; rfl)

/-- Settles O30: the checks in their order, then the forced record, settled or queued by its state. -/
theorem forceLabelAsksForAFullUrgentRedraw : Obligations.ForceLabelAsksForAFullUrgentRedraw := by
  unfold Obligations.ForceLabelAsksForAFullUrgentRedraw
  refine fun h id s ht => ⟨fun hout => exec_forceLabel_of ht ?_, fun h1 h2 => ⟨fun hnone => exec_forceLabel_of ht ?_,
    fun l hl => ⟨fun hi hb => exec_forceLabel_of ht ?_, fun hserved => ?_⟩⟩⟩
  · rw [applyForce, Config.max32, if_pos hout]
  · rw [applyForce, if_neg (labelId_in_range h1 h2), hnone]
  · simp [applyForce_in_range h1 h2 hl, hi, hb]
  · obtain ⟨m, hm, hrecord, hflight, hurgent, huncertain, hsettled⟩ := Requeued.forceLabel id l s.block
    have happly : applyForce id s.block = (forceLabel id l s.block, .done) := by
      rw [applyForce_in_range h1 h2 hl, if_neg]
      rintro ⟨hi, hb⟩
      rcases hserved with h | h
      · exact h (Option.isNone_iff_eq_none.1 hi)
      · rw [h] at hb
        cases hb
    refine ⟨_, m, exec_forceLabel_of ht happly, hm.touches, hm.own, hm.others, hrecord, hflight, hurgent, huncertain,
      fun hs => ⟨hsettled hs, fun hm => ?_⟩⟩
    rw [(hsettled hs).2.1]
    exact settledState_forced (by rw [hrecord]; rfl) hm

end ForceLabel

end Sys2Proof.Machine

namespace Sys2Proof.Machine

/-! # Labels retargeted: ITEM_RETARGET, TEMPLATE_RETARGET and SWEEP_VISIT (R62, R64, R72) -/

section LabelsInTurn

variable {a b c d : Block} {f : Nat → Block → Block} {id y : Nat} {ids rest : List Nat} {l m : Label} {o : Option QueuePlace}

/-! ## Effects on the labels of a list -/

/-- From `b` to `c` nothing but records of the labels `ids` and the next joining order changed. -/
structure LabelsOnly (ids : List Nat) (b c : Block) : Prop where
  touches : Touches [.labels] b c
  labels : c.labels = { b.labels with table := c.labels.table, nextJoin := c.labels.nextJoin }
  others : ∀ j, j ∉ ids → getLabel c j = getLabel b j
  joins : b.labels.nextJoin ≤ c.labels.nextJoin

theorem LabelsOnly.refl (ids : List Nat) (b : Block) : LabelsOnly ids b b :=
  ⟨.refl _ b, rfl, fun _ _ => rfl, Nat.le_refl _⟩

theorem LabelsOnly.trans {js : List Nat} (h : LabelsOnly ids b c) (g : LabelsOnly js c d) :
    LabelsOnly (ids ++ js) b d where
  touches := h.touches.trans g.touches
  labels := by rw [g.labels, h.labels]
  others := fun j hj => by
    rw [List.mem_append, not_or] at hj
    exact (g.others j hj.2).trans (h.others j hj.1)
  joins := h.joins.trans g.joins

theorem LabelsOnly.mono {js : List Nat} (h : LabelsOnly ids b c) (hs : ∀ j ∈ ids, j ∈ js) : LabelsOnly js b c :=
  ⟨h.touches, h.labels, fun j hj => h.others j fun hi => hj (hs j hi), h.joins⟩

theorem Requeued.labelsOnly (h : Requeued id b c o m) : LabelsOnly [id] b c :=
  ⟨h.touches, h.labels, fun j hj => h.others j (by simpa using hj), h.joins⟩

theorem LabelsOnly.mode (h : LabelsOnly ids b c) : c.mode = b.mode := (h.touches.keeps .mode (by decide)).symm

theorem LabelsOnly.items (h : LabelsOnly ids b c) : c.items = b.items := (h.touches.keeps .items (by decide)).symm

/-- An operation on one label: it changes that label's record, where there is one. -/
structure LabelEffect (f : Nat → Block → Block) : Prop where
  absent : ∀ id b, getLabel b id = none → f id b = b
  requeues : ∀ id b l, getLabel b id = some l → ∃ m, Requeued id b (f id b) l.queued m

theorem LabelEffect.only (hf : LabelEffect f) (id : Nat) (b : Block) : LabelsOnly [id] b (f id b) := by
  cases hl : getLabel b id with
  | none => rw [hf.absent id b hl]; exact .refl _ b
  | some l =>
    obtain ⟨m, hm⟩ := hf.requeues id b l hl
    exact hm.labelsOnly

theorem LabelEffect.foldl (hf : LabelEffect f) (ids : List Nat) (b : Block) :
    LabelsOnly ids b (ids.foldl (fun acc id => f id acc) b) := by
  induction ids generalizing b with
  | nil => exact .refl _ b
  | cons id rest ih => exact (hf.only id b).trans (ih (f id b))

/-- The moment at which a label of a list is first reached: no label before it is that one, and its record is as it was. -/
theorem LabelEffect.reached (hf : LabelEffect f) (hy : y ∈ ids) (b : Block) : ∃ (c : Block) (rest : List Nat), LabelsOnly ids b c ∧
    getLabel c y = getLabel b y ∧ ids.foldl (fun acc id => f id acc) b = rest.foldl (fun acc id => f id acc) (f y c) ∧
    (ids.Nodup → y ∉ rest) := by
  obtain ⟨pre, rest, rfl, hpre⟩ := List.eq_append_cons_of_mem hy
  have honly := hf.foldl pre b
  refine ⟨_, rest, honly.mono fun j hj => List.mem_append_left _ hj, honly.others y hpre, ?_, fun h => ?_⟩
  · rw [List.foldl_append, List.foldl_cons]
  · exact (List.nodup_cons.1 h.of_append_right).1

/-- R59: labels of a list without repeats that join anew do so in list order. -/
theorem LabelEffect.joinInOrder (hf : LabelEffect f) (hids : ids.Nodup) (b : Block) :
    JoinInOrder b (ids.foldl (fun acc id => f id acc) b) ids := by
  induction ids generalizing b with
  | nil => exact .nil
  | cons x rest ih =>
    obtain ⟨hx, hrest⟩ := List.nodup_cons.1 hids
    have hbefore (y : Nat) (hy : y ∈ rest) : getLabel (f x b) y = getLabel b y :=
      (hf.only x b).others y (by rintro h; rw [List.mem_singleton.1 h] at hy; exact hx hy)
    refine .cons (fun y hy l m p l' m' p' hl hm hp hj hl' hm' hp' hj' => ?_) ((ih hrest (f x b)).imp_of_mem ?_)
    · obtain ⟨m₁, hm₁⟩ := hf.requeues x b l hl
      obtain rfl : m₁ = m := Option.some.inj (hm₁.own.symm.trans (((hf.foldl rest (f x b)).others x hx).symm.trans hm))
      obtain ⟨c, post, hc, hyc, hfold, hpost⟩ := hf.reached hy (f x b)
      obtain ⟨m₂, hm₂⟩ := hf.requeues y c l' (hyc.trans ((hbefore y hy).trans hl'))
      rw [List.foldl_cons, hfold, (hf.foldl post (f y c)).others y (hpost hrest), hm₂.own] at hm'
      obtain rfl := Option.some.inj hm'
      calc p.order < (f x b).labels.nextJoin := ((hm₁.place p hp).1 hj).2
        _ ≤ c.labels.nextJoin := hc.joins
        _ ≤ p'.order := ((hm₂.place p' hp').1 hj').1
    · intro y z hy hz h l m p l' m' p' hl hm hp hj hl'
      exact h l m p l' m' p' ((hbefore y hy).trans hl) hm hp hj ((hbefore z hz).trans hl')

end LabelsInTurn

section Retargeting

variable {a b c d : Block} {id y n : Nat} {ids : List Nat} {l m : Label} {o : Option QueuePlace} {h : Handoff} {s : State}

/-! ## One label retargeted (R62) -/

theorem settledIn_congr (hm : c.mode = b.mode) (hi : c.items = b.items) (h : SettledIn b m) : SettledIn c m :=
  ⟨h.1.trans (targetOf_congr hm hi m).symm, h.2⟩

theorem Requeued.queuedFrom (h : Requeued id b c o m) (hcls : ∀ q, m.queued = some q → q.cls = Machine.classOf b m)
    (hq : m.queued ≠ none) : QueuedFrom b.labels.nextJoin o (Machine.classOf c m) m.queued := by
  obtain ⟨p, hp⟩ := Option.ne_none_iff_exists'.1 hq
  have hplace := h.place
  rw [hp] at hplace ⊢
  exact hplace.queuedFrom ((hcls p hp).trans (h.classOf m).symm)

/-- A label that retargeting leaves as it is: it has its target, and its state and place are those of it. -/
structure Standing (b : Block) (m : Label) : Prop where
  target : m.target = targetOf b m
  settled : isSettledState m.state = true → SettledIn b m
  cls : m.state = .stale ∨ m.state = .uncertain → ∃ q, m.queued = some q ∧ q.cls = classOf b m

theorem Standing.congr (h : Standing b m) (hm : c.mode = b.mode) (hi : c.items = b.items) : Standing c m where
  target := h.target.trans (targetOf_congr hm hi m).symm
  settled := fun hs => settledIn_congr hm hi (h.settled hs)
  cls := fun hs => by rw [classOf_congr hi]; exact h.cls hs

theorem SettledIn.settledState (h : SettledIn b m) : isSettledState m.state = true := by
  rw [h.2.1]
  exact isSettledState_settledState m

/-- R57: a settled label is queued only where it is STALE. -/
theorem SettledIn.queued_of_waiting (h : SettledIn b m) (hs : m.state = .stale ∨ m.state = .uncertain) :
    m.queued ≠ none := by
  have hsettled := h.settledState
  refine Option.isSome_iff_ne_none.1 (h.2.2.2 (hs.resolve_right fun hu => ?_))
  simp [hu, isSettledState] at hsettled

theorem SettledIn.standing (h : SettledIn b m) (hcls : ∀ q, m.queued = some q → q.cls = classOf b m) : Standing b m where
  target := h.1
  settled := fun _ => h
  cls := fun hs => by
    obtain ⟨q, hq⟩ := Option.ne_none_iff_exists'.1 (h.queued_of_waiting hs)
    exact ⟨q, hq, hcls q hq⟩

theorem targetOf_of_binding (hi : m.item = l.item) (hb : m.binding = l.binding) : targetOf b m = targetOf b l := by
  rw [targetOf, targetOf, hi, hb]

theorem Returned.standing (h : Returned b l m) (ht : l.target = targetOf b l) : Standing b m := by
  by_cases hf : l.inFlight = none
  · exact (h.free hf).standing h.cls
  · obtain ⟨hs, htarget, hq⟩ := h.held hf
    obtain ⟨q, hq⟩ := Option.ne_none_iff_exists'.1 hq
    refine ⟨?_, fun hset => by simp [hs, isSettledState] at hset, fun _ => ⟨q, hq, h.cls q hq⟩⟩
    rw [htarget, ht, targetOf_of_binding] <;> rw [h.record]

/-- R59: a queued label whose class stands keeps its place. -/
theorem enqueue_standing (hl : getLabel b id = some m) (hq : ∃ q, m.queued = some q ∧ q.cls = classOf b m) :
    getLabel (enqueue id b) id = some m := by
  obtain ⟨q, hq, hcls⟩ := hq
  rcases enqueue_cases hl with ⟨hj, -⟩ | ⟨p, hp, -, he⟩
  · exact absurd (hj q hq) (by rw [hcls]; exact Nat.lt_irrefl _)
  · obtain rfl : q = p := Option.some.inj (hq.symm.trans hp)
    rw [he, getLabel_putLabel_self, ← hcls, ← hq]

theorem settledLabel_standing (h : Standing b m) (hs : isSettledState m.state = true) : settledLabel b m = m := by
  obtain ⟨htarget, hstate, -⟩ := h.settled hs
  rw [settledLabel, ← htarget, ← hstate]

theorem settle_standing (hl : getLabel b id = some m) (h : Standing b m) (hs : isSettledState m.state = true) :
    getLabel (settle id b) id = some m := by
  rw [settle, withLabel_of_some hl, settledLabel_standing h hs]
  split
  · next hst => exact enqueue_standing (getLabel_putLabel_self b id m) (h.cls (Or.inl hst))
  · next hst =>
    have hnone : m.queued = none := by
      rw [← Option.not_isSome_iff_eq_none, (h.settled hs).2.2]
      exact hst
    rw [getLabel_putLabel_self, ← hnone]

theorem retargetLabel_standing (hl : getLabel b id = some m) (h : Standing b m) :
    getLabel (retargetLabel id b) id = some m := by
  have htarget : { m with target := targetOf b m } = m := by rw [← h.target]
  have hput : getLabel (putLabel id { m with target := targetOf b m } b) id = some m := by
    rw [htarget, getLabel_putLabel_self]
  rw [retargetLabel, withLabel_of_some hl]
  split
  · next hs => exact settle_standing hl h (by rw [hs]; rfl)
  · next hs => exact settle_standing hl h (by rw [hs]; rfl)
  · next hs => exact settle_standing hl h (by rw [hs]; rfl)
  · exact hput
  · next hs => exact enqueue_standing hput (h.cls (Or.inr hs))
  · rw [if_neg fun e => e.2 h.target.symm]
    exact hput

theorem Retargeted.congr (h : Retargeted b c l m) (ha : LabelsOnly ids a b) {js : List Nat} (hd : LabelsOnly js c d) :
    Retargeted a d l m := by
  obtain ⟨hrecord, hkept, hsettled, hflight, huncertain, hfailed, hqueued⟩ := h
  have htarget : targetOf b l = targetOf a l := targetOf_congr ha.mode ha.items l
  have hset : SettledIn c m → SettledIn d m := settledIn_congr hd.mode hd.items
  rw [htarget] at hrecord hfailed
  refine ⟨hrecord, hkept, fun hs => hset (hsettled hs), hflight, huncertain, fun hs => ⟨(hfailed hs).1, fun ho ht => ?_⟩,
    fun hs => ?_⟩
  · obtain ⟨hr, ho', hfree, hheld⟩ := (hfailed hs).2 ho ht
    exact ⟨hr, ho', fun hf => hset (hfree hf), hheld⟩
  · rw [classOf_congr hd.items]
    obtain ⟨p, hp, hcls, hnew, hold⟩ := hqueued hs
    exact ⟨p, hp, hcls, fun hj => ha.joins.trans (hnew hj), hold⟩

/-- R62: what retargeting makes of one label. -/
theorem Requeued.retargetLabel (hl : getLabel b id = some l) : ∃ m, Requeued id b (retargetLabel id b) l.queued m ∧
    Retargeted b (retargetLabel id b) l m ∧ m.marks = l.marks ∧ Standing b m := by
  have hsettled (hs : isSettledState l.state = true) : ∃ m, Requeued id b (Machine.settle id b) l.queued m ∧
      Retargeted b (Machine.settle id b) l m ∧ m.marks = l.marks ∧ Standing b m := by
    obtain ⟨q, hq, hcls, hset⟩ := Requeued.settle hl
    refine ⟨_, hq, ⟨rfl, fun _ => ⟨rfl, rfl⟩, fun _ => hset, fun h => ?_, fun h => ?_, fun h => ?_, fun hst => ?_⟩, rfl,
      (settledIn_congr hq.mode.symm hq.items.symm hset).standing hcls⟩
    · simp [h, isSettledState] at hs
    · simp [h, isSettledState] at hs
    · simp [h, isSettledState] at hs
    · exact hq.queuedFrom hcls (hset.queued_of_waiting hst)
  have hput := getLabel_putLabel_self b id { l with target := Machine.targetOf b l }
  have hkept : Requeued id b (Machine.putLabel id { l with target := Machine.targetOf b l } b) l.queued
      { l with target := Machine.targetOf b l } := .putLabel id _ b
  rw [Machine.retargetLabel, withLabel_of_some hl]
  split
  · next hs => exact hsettled (by rw [hs]; rfl)
  · next hs => exact hsettled (by rw [hs]; rfl)
  · next hs => exact hsettled (by rw [hs]; rfl)
  · next hs =>
    refine ⟨_, hkept, ⟨rfl, fun _ => ⟨rfl, rfl⟩, fun h => ?_, fun _ => ⟨hs, rfl⟩, fun h => ?_, fun h => ?_, fun h => ?_⟩, rfl,
      ⟨rfl, fun h => ?_, fun h => ?_⟩⟩ <;> simp [hs, isSettledState] at h
  · next hs =>
    obtain ⟨q, hcls, hq⟩ := Requeued.enqueue hput
    have hclass : ∀ p, some q = some p → p.cls = Machine.classOf b { l with target := Machine.targetOf b l } := by
      rintro _ ⟨⟩
      exact hcls
    refine ⟨_, hq.after_put, ⟨rfl, fun _ => ⟨rfl, rfl⟩, fun h => ?_, fun h => ?_, fun _ => ⟨hs, by simp⟩, fun h => ?_,
      fun _ => hq.after_put.queuedFrom hclass (by simp)⟩, rfl, ⟨rfl, fun h => ?_, fun _ => ⟨q, rfl, hcls⟩⟩⟩
    all_goals simp [hs, isSettledState] at h
  · next hs =>
    split
    · next ho =>
      obtain ⟨ho, ht⟩ := ho
      obtain ⟨m, hm, hr⟩ := Requeued.returnFailed hput
      have hq := hm.after_put
      have hstanding : Standing b m := (hr.standing (hm.targetOf _).symm).congr hq.mode.symm hq.items.symm
      have htarget : m.target = Machine.targetOf b l := by
        rw [hstanding.target, targetOf_of_binding] <;> rw [hr.record]
      have hcls (q : QueuePlace) (he : m.queued = some q) : q.cls = Machine.classOf b m :=
        (hr.cls q he).trans (hq.classOf m)
      refine ⟨m, hq, ⟨?_, fun h => absurd hs h, fun h => ?_, fun h => ?_, fun h => ?_, fun _ => ⟨fun h => ?_, fun _ _ =>
        ⟨by rw [hr.record], by rw [hr.record], hr.free, fun hf => ⟨(hr.held hf).1, (hr.held hf).2.2⟩⟩⟩, fun h => ?_⟩,
        by rw [hr.record], hstanding⟩
      · rw [← htarget, hr.record]
      · simp [hs, isSettledState] at h
      · simp [hs] at h
      · simp [hs] at h
      · simp [ho, ht] at h
      · obtain ⟨q, hqueued, -⟩ := hstanding.cls h
        exact hq.queuedFrom hcls (by simp [hqueued])
    · next ho =>
      refine ⟨_, hkept, ⟨rfl, fun h => absurd hs h, fun h => ?_, fun h => ?_, fun h => ?_, fun _ => ⟨fun _ => rfl, fun h1 h2 =>
        absurd ⟨h1, h2⟩ ho⟩, fun h => ?_⟩, rfl, ⟨rfl, fun h => ?_, fun h => ?_⟩⟩ <;> simp [hs, isSettledState] at h

/-! ## The labels of an item retargeted (R62, R72) -/

theorem labelEffect_retargetLabel : LabelEffect Machine.retargetLabel where
  absent := fun _ _ hl => withLabel_of_none hl _
  requeues := fun _ _ _ hl => by
    obtain ⟨m, hm, -⟩ := Requeued.retargetLabel hl
    exact ⟨m, hm⟩

/-- A label that stands as retargeting leaves it is left as it is, however often it is reached. -/
theorem retargetLabels_standing (ids : List Nat) (hl : getLabel b y = some m) (h : Standing b m) :
    getLabel (retargetLabels ids b) y = some m := by
  induction ids generalizing b with
  | nil => exact hl
  | cons id rest ih =>
    have honly := labelEffect_retargetLabel.only id b
    refine ih ?_ (h.congr honly.mode honly.items)
    by_cases e : y = id
    · subst e
      exact retargetLabel_standing hl h
    · exact (honly.others y (by simpa using e)).trans hl

theorem retargetLabels_getLabel (hy : y ∈ ids) (hl : getLabel b y = some l) :
    ∃ m, getLabel (retargetLabels ids b) y = some m ∧ Retargeted b (retargetLabels ids b) l m ∧ m.marks = l.marks := by
  obtain ⟨c, rest, hc, hyc, hfold, -⟩ := labelEffect_retargetLabel.reached hy b
  obtain ⟨m, hm, hr, hmarks, hs⟩ := Requeued.retargetLabel (hyc.trans hl)
  have hrest := labelEffect_retargetLabel.foldl rest (retargetLabel y c)
  rw [retargetLabels, hfold]
  exact ⟨m, retargetLabels_standing rest hm.own (hs.congr hm.mode hm.items), hr.congr hc hrest, hmarks⟩

/-! ## The redraw marks of a hand-off (R62) -/

/-- R62: a label's record after a hand-off has set its redraw mark where a reference names a redrawn slot. -/
def redrawnLabel (h : Handoff) (l : Label) : Label :=
  { l with marks := { l.marks with redraw := l.marks.redraw || refersToSlots h.code h.redrawn l } }

theorem markRedrawn_of_some (h : Handoff) (hl : getLabel b id = some l) :
    markRedrawn h id b = putLabel id (redrawnLabel h l) b := by
  rw [markRedrawn, modifyLabel_of_some _ hl]
  congr 1
  split
  · next hr => simp [redrawnLabel, hr]
  · next hr => simp [redrawnLabel, hr]

theorem labelEffect_markRedrawn (h : Handoff) : LabelEffect (markRedrawn h) where
  absent := fun _ _ hl => by simp [markRedrawn, modifyLabel, hl]
  requeues := fun id b l hl => by
    rw [markRedrawn_of_some h hl]
    exact ⟨_, .putLabel id (redrawnLabel h l) b⟩

theorem redrawnLabel_twice (h : Handoff) (l : Label) : redrawnLabel h (redrawnLabel h l) = redrawnLabel h l := by
  have hrefers : refersToSlots h.code h.redrawn (redrawnLabel h l) = refersToSlots h.code h.redrawn l := rfl
  rw [redrawnLabel, hrefers]
  simp [redrawnLabel]

theorem markRedrawn_again (h : Handoff) (ids : List Nat) (hl : getLabel b y = some (redrawnLabel h l)) :
    getLabel (ids.foldl (fun acc id => markRedrawn h id acc) b) y = some (redrawnLabel h l) := by
  induction ids generalizing b with
  | nil => exact hl
  | cons id rest ih =>
    refine ih ?_
    by_cases e : y = id
    · subst e
      change getLabel (markRedrawn h y b) y = _
      rw [markRedrawn_of_some h hl, getLabel_putLabel_self, redrawnLabel_twice]
    · exact (((labelEffect_markRedrawn h).only id b).others y (by simpa using e)).trans hl

theorem markRedrawn_getLabel (h : Handoff) (hy : y ∈ ids) (hl : getLabel b y = some l) :
    getLabel (ids.foldl (fun acc id => markRedrawn h id acc) b) y = some (redrawnLabel h l) := by
  obtain ⟨c, rest, -, hyc, hfold, -⟩ := (labelEffect_markRedrawn h).reached hy b
  rw [hfold, markRedrawn_of_some h (hyc.trans hl)]
  exact markRedrawn_again h rest (getLabel_putLabel_self c y _)

theorem refersToSlots_iff {code : Nat} {ks : List Slot} : refersToSlots code ks l = true ↔
    ∃ k ∈ ks, ∃ number template, RefWhat.version code k number template ∈ labelRefs l := by
  rw [refersToSlots, List.any_eq_true]
  constructor
  · rintro ⟨w, hw, h⟩
    cases w with
    | blank => cases h
    | version c k number template =>
      simp only [Bool.and_eq_true, decide_eq_true_eq, List.contains_iff_mem] at h
      obtain ⟨rfl, hk⟩ := h
      exact ⟨k, hk, number, template, hw⟩
  · rintro ⟨k, hk, number, template, hw⟩
    exact ⟨_, hw, by simp [hk]⟩

/-- A label retargeted after its marks changed was retargeted, its marks apart. -/
theorem Retargeted.of_redrawn (hr : Retargeted a b (redrawnLabel h l) m) : Retargeted a b l m := hr

/-- R62: what a hand-off does with the labels of its item. -/
structure TakenOver (h : Handoff) (b c : Block) : Prop where
  only : LabelsOnly (boundLabels b h.code) b c
  label : ∀ id ∈ boundLabels b h.code, ∀ l, getLabel b id = some l → ∃ m, getLabel c id = some m ∧ Retargeted b c l m ∧
    m.marks = (redrawnLabel h l).marks
  order : (boundLabels b h.code).Nodup → JoinInOrder b c (boundLabels b h.code)

theorem takenOver_takeHandoff (h : Handoff) (b : Block) : TakenOver h b (takeHandoff h b) := by
  have hmarked := (labelEffect_markRedrawn h).foldl (boundLabels b h.code) b
  have hretargeted := labelEffect_retargetLabel.foldl (boundLabels b h.code)
    ((boundLabels b h.code).foldl (fun acc id => markRedrawn h id acc) b)
  refine ⟨(hmarked.trans hretargeted).mono fun j hj => (List.mem_append.1 hj).elim id id, fun id hid l hl => ?_,
    fun hids => ?_⟩
  · obtain ⟨m, hm, hr, hmarks⟩ := retargetLabels_getLabel hid (markRedrawn_getLabel h hid hl)
    exact ⟨m, hm, (hr.congr hmarked (.refl [] _)).of_redrawn, hmarks⟩
  · have horder := labelEffect_retargetLabel.joinInOrder hids
      ((boundLabels b h.code).foldl (fun acc id => markRedrawn h id acc) b)
    refine horder.imp_of_mem ?_
    intro x y hx hy hxy l m p l' m' p' hl hm hp hj hl'
    exact hxy _ m p (redrawnLabel h l') m' p' (markRedrawn_getLabel h hx hl) hm hp hj (markRedrawn_getLabel h hy hl')

/-! ## The labels of a template (R62, R68) -/

/-- R62, R68: a label whose template was written, from `l` in `a` to `m` in `b`. -/
structure TemplateSeen (a b : Block) (l m : Label) : Prop where
  redraw : m.marks.redraw = true
  queued : l.state ≠ .uncertain → m.state = .stale ∨ m.state = .uncertain →
    QueuedFrom a.labels.nextJoin l.queued (classOf b m) m.queued
  settled : isSettledState l.state = true → SettledIn b m
  kept : l.state = .inFlight ∨ l.state = .uncertain ∨ (l.state = .failed ∧ l.oversize = false) →
    m = { l with marks := { l.marks with redraw := true } }
  returned : l.state = .failed ∧ l.oversize = true → Returned b { l with marks := { l.marks with redraw := true } } m

theorem TemplateSeen.congr (h : TemplateSeen b c l m) (ha : LabelsOnly ids a b) {js : List Nat} (hd : LabelsOnly js c d) :
    TemplateSeen a d l m where
  redraw := h.redraw
  queued := fun hs hm => by
    rw [classOf_congr hd.items]
    obtain ⟨p, hp, hcls, hnew, hold⟩ := h.queued hs hm
    exact ⟨p, hp, hcls, fun hj => ha.joins.trans (hnew hj), hold⟩
  settled := fun hs => settledIn_congr hd.mode hd.items (h.settled hs)
  kept := h.kept
  returned := fun hs => by
    obtain ⟨hrecord, hcls, hfree, hheld⟩ := h.returned hs
    exact ⟨hrecord, fun q hq => (hcls q hq).trans (classOf_congr hd.items m).symm,
      fun hf => settledIn_congr hd.mode hd.items (hfree hf), hheld⟩

theorem Returned.queued_of_waiting (h : Returned b l m) (hs : m.state = .stale ∨ m.state = .uncertain) :
    m.queued ≠ none := by
  by_cases hf : l.inFlight = none
  · exact (h.free hf).queued_of_waiting hs
  · exact (h.held hf).2.2

theorem Requeued.templateWritten (hl : getLabel b id = some l) : ∃ m, Requeued id b (templateWritten id b) l.queued m ∧
    TemplateSeen b (templateWritten id b) l m := by
  have hput := getLabel_putLabel_self b id { l with marks := { l.marks with redraw := true } }
  have hkept : Requeued id b (Machine.putLabel id { l with marks := { l.marks with redraw := true } } b) l.queued
      { l with marks := { l.marks with redraw := true } } := .putLabel id _ b
  have hsettled (hs : isSettledState l.state = true) : ∃ m,
      Requeued id b (Machine.settle id (Machine.putLabel id { l with marks := { l.marks with redraw := true } } b)) l.queued m ∧
      TemplateSeen b (Machine.settle id (Machine.putLabel id { l with marks := { l.marks with redraw := true } } b)) l m := by
    obtain ⟨q, hq, hcls, hset⟩ := Requeued.settle hput
    refine ⟨_, hq.after_put, rfl, fun _ hm => hq.after_put.queuedFrom hcls (hset.queued_of_waiting hm), fun _ => hset,
      fun h => ?_, fun h => ?_⟩
    · rcases h with h | h | h <;> simp [h, isSettledState] at hs
    · simp [h, isSettledState] at hs
  rw [Machine.templateWritten, withLabel_of_some hl]
  split
  · next hs =>
    split
    · next ho =>
      obtain ⟨m, hm, hr⟩ := Requeued.returnFailed hput
      have hq := hm.after_put
      refine ⟨m, hq, by rw [hr.record], fun _ hst => hq.queuedFrom (fun q he => (hr.cls q he).trans (hq.classOf m))
        (hr.queued_of_waiting hst), fun h => ?_, fun h => ?_, fun _ => hr⟩
      · simp [hs, isSettledState] at h
      · simp [hs, ho] at h
    · next ho => exact ⟨_, hkept, rfl, fun _ h => by simp [hs] at h, fun h => by simp [hs, isSettledState] at h, fun _ => rfl,
        fun h => absurd h.2 ho⟩
  · next hs => exact ⟨_, hkept, rfl, fun _ h => by simp [hs] at h, fun h => by simp [hs, isSettledState] at h, fun _ => rfl,
      fun h => by simp [hs] at h⟩
  · next hs => exact ⟨_, hkept, rfl, fun h => absurd hs h, fun h => by simp [hs, isSettledState] at h, fun _ => rfl,
      fun h => by simp [hs] at h⟩
  · next hs => exact hsettled (by rw [hs]; rfl)
  · next hs => exact hsettled (by rw [hs]; rfl)
  · next hs => exact hsettled (by rw [hs]; rfl)

theorem labelEffect_templateWritten : LabelEffect Machine.templateWritten where
  absent := fun _ _ hl => withLabel_of_none hl _
  requeues := fun _ _ _ hl => by
    obtain ⟨m, hm, -⟩ := Requeued.templateWritten hl
    exact ⟨m, hm⟩

theorem mem_labelsWithTemplate (hs : tableSorted b.labels.table) {t : Nat} :
    id ∈ labelsWithTemplate b t ↔ ∃ l, getLabel b id = some l ∧ l.template = some t := by
  simp only [labelsWithTemplate, List.mem_map, List.mem_filter, decide_eq_true_eq]
  constructor
  · rintro ⟨⟨j, l⟩, ⟨hmem, ht⟩, rfl⟩
    exact ⟨l, tableFind_of_mem hs hmem, ht⟩
  · rintro ⟨l, hl, ht⟩
    exact ⟨(id, l), ⟨mem_of_tableFind hl, ht⟩, rfl⟩

/-- The labels of a template in ascending id (log 53). -/
theorem labelsWithTemplate_ascending (hs : tableSorted b.labels.table) (t : Nat) :
    (labelsWithTemplate b t).Pairwise (· < ·) := tableSorted_filter _ hs

/-- R59: any of the labels of a list in ascending order join in that order, where those of the list do. -/
theorem JoinInOrder.of_subset {js : List Nat} (h : JoinInOrder a b ids) (hids : ids.Pairwise (· < ·))
    (hjs : js.Pairwise (· < ·)) (hsub : ∀ j ∈ js, j ∈ ids) : JoinInOrder a b js :=
  h.sublist (List.sublist_of_subperm_of_pairwise
    (List.subperm_of_subset (hjs.imp Nat.ne_of_lt) hsub) hjs hids)

theorem itemRetarget_of {rest : List Handoff} (hh : b.labels.handoffs = h :: rest) :
    itemRetarget b = takeHandoff h { b with labels := { b.labels with handoffs := rest } } := by
  rw [itemRetarget, hh]

theorem templateRetarget_of {t : Nat} {rest : List Nat} (ht : b.labels.templateHandoffs = t :: rest) :
    templateRetarget b = (labelsWithTemplate b t).foldl (fun acc id => templateWritten id acc)
      { b with labels := { b.labels with templateHandoffs := rest } } := by
  rw [templateRetarget, ht]

theorem sweepVisit_at {w : Sweep} {code : Nat} (hw : b.labels.sweep = some w) (hc : w.items[w.cursor]? = some code) :
    sweepVisit b =
      retargetLabels (boundLabels b code) { b with labels := { b.labels with sweep := stepSweep w } } := by
  simp only [sweepVisit, hw, hc]

theorem sweepVisit_past {w : Sweep} (hw : b.labels.sweep = some w) (hc : w.items[w.cursor]? = none) :
    sweepVisit b = { b with labels := { b.labels with sweep := stepSweep w } } := by
  simp only [sweepVisit, hw, hc, retargetLabels, List.foldl_nil]

/-- Settles O29: each event is a run over the labels it reaches; what it does with one stands while the others are reached,
and one that joins anew takes an order above those before it. -/
theorem retargetsSettleTheLabelsTheyReach : Obligations.RetargetsSettleTheLabelsTheyReach := by
  unfold Obligations.RetargetsSettleTheLabelsTheyReach
  refine ⟨fun s h rest hh => ?_, fun s h rest b hh hexec hids => ?_, fun s t rest ht hsorted => ?_, fun s w hw => ?_⟩
  · obtain ⟨honly, hlabel, -⟩ := takenOver_takeHandoff h
      { s.block with labels := { s.block.labels with handoffs := rest } }
    rw [← itemRetarget_of hh] at honly hlabel
    refine ⟨_, exec_eq_effect _ s, (Touches.labels (.refl _ s.block) (by decide)).trans honly.touches, ?_,
      fun id hid => honly.others id hid, fun id hid l hl => ?_⟩
    · rw [effect, honly.labels]
    · obtain ⟨m, hm, hr, hmarks⟩ := hlabel id hid l hl
      refine ⟨m, hm, hr, by rw [hmarks]; rfl, ?_⟩
      rw [hmarks, ← refersToSlots_iff]
      exact Bool.or_eq_true_iff
  · obtain ⟨-, -, horder⟩ := takenOver_takeHandoff h { s.block with labels := { s.block.labels with handoffs := rest } }
    rw [← itemRetarget_of hh] at horder
    rw [exec_eq_effect] at hexec
    cases hexec
    exact horder hids
  · have hascending := labelsWithTemplate_ascending hsorted t
    have honly := labelEffect_templateWritten.foldl (labelsWithTemplate s.block t)
      { s.block with labels := { s.block.labels with templateHandoffs := rest } }
    have horder := labelEffect_templateWritten.joinInOrder (hascending.imp Nat.ne_of_lt)
      { s.block with labels := { s.block.labels with templateHandoffs := rest } }
    have hreached {id : Nat} := labelEffect_templateWritten.reached (y := id) (ids := labelsWithTemplate s.block t)
      (b := { s.block with labels := { s.block.labels with templateHandoffs := rest } })
    rw [← templateRetarget_of ht] at honly horder hreached
    refine ⟨_, exec_eq_effect _ s, (Touches.labels (.refl _ s.block) (by decide)).trans honly.touches, ?_,
      fun ids hids hall => ?_, fun id l hl => ⟨fun hne => ?_, fun heq => ?_⟩⟩
    · rw [effect, honly.labels]
    · exact JoinInOrder.of_subset horder hascending hids fun j hj => (mem_labelsWithTemplate hsorted).2 (hall j hj)
    · refine (honly.others id fun hid => ?_).trans hl
      obtain ⟨l', hl', ht'⟩ := (mem_labelsWithTemplate hsorted).1 hid
      exact hne (by rwa [Option.some.inj (hl.symm.trans hl')])
    · obtain ⟨c, post, hc, hyc, hfold, hpost⟩ := hreached ((mem_labelsWithTemplate hsorted).2 ⟨l, hl, heq⟩)
      obtain ⟨m, hm, hseen⟩ := Requeued.templateWritten (hyc.trans hl)
      have hafter := labelEffect_templateWritten.foldl post (templateWritten id c)
      rw [← hfold] at hafter
      obtain ⟨hredraw, hqueued, hsettled, hkept, hreturned⟩ := hseen.congr hc hafter
      refine ⟨m, (hafter.others id (hpost (hascending.imp Nat.ne_of_lt))).trans hm.own, hredraw, hqueued, hsettled, hkept,
        fun h => ?_⟩
      obtain ⟨hrecord, -, hfree, hheld⟩ := hreturned h
      exact ⟨by rw [hrecord], by rw [hrecord], hfree, fun hf => ⟨(hheld hf).1, (hheld hf).2.2⟩⟩
  · cases hc : w.items[w.cursor]? with
    | none =>
      refine ⟨_, exec_eq_effect _ s, Touches.sweepVisit (.refl _ _) (by decide), ?_, fun id l hl => ⟨fun _ => ?_,
        fun code h => (nomatch h)⟩⟩
      · rw [effect, sweepVisit_past hw hc]
        rfl
      · rw [effect, sweepVisit_past hw hc]
        exact hl
    | some code =>
      have honly := labelEffect_retargetLabel.foldl (boundLabels s.block code)
        { s.block with labels := { s.block.labels with sweep := stepSweep w } }
      have horder (hids : (boundLabels s.block code).Nodup) := labelEffect_retargetLabel.joinInOrder hids
        { s.block with labels := { s.block.labels with sweep := stepSweep w } }
      refine ⟨_, exec_eq_effect _ s, Touches.sweepVisit (.refl _ _) (by decide), ?_, fun id l hl => ⟨fun hout => ?_,
        fun code' h hid => ?_⟩⟩
      · rw [effect, sweepVisit_at hw hc, retargetLabels, honly.labels]
        rfl
      · rw [effect, sweepVisit_at hw hc]
        exact (honly.others id (hout code rfl)).trans hl
      · cases h
        rw [effect, sweepVisit_at hw hc]
        exact ⟨retargetLabels_getLabel hid hl, horder⟩

end Retargeting

end Sys2Proof.Machine

namespace Sys2Proof.Machine

/-! # A transaction's end at a label: what is heard, given up, confirmed and applied next (R61, R65, R66, R70) -/

section OnOneLabel

variable {a b c d : Block} {id code t : Nat} {l m n : Label} {q r : List NoticeEntry} {o : Option QueuePlace}
  {f : InFlight} {y : NextBinding}

/-! ## What an operation on one label leaves alone -/

/-- From `b` to `c` an operation on label `id` left the record `m`, the other labels as they were, and of the composer all but
the current-style set. -/
structure OnLabel (id : Nat) (b c : Block) (m : Label) : Prop where
  touches : Touches [.labels, .items, .composer, .mgmt] b c
  own : getLabel c id = some m
  others : ∀ j, j ≠ id → getLabel c j = getLabel b j
  composer : c.composer = { b.composer with style := c.composer.style }

/-- Such an operation that leaves the notices `q` and every bound list as it was. -/
structure Quietly (id : Nat) (b c : Block) (q : List NoticeEntry) (m : Label) : Prop extends OnLabel id b c m where
  mgmt : c.mgmt = { b.mgmt with notices := q }
  bound : ∀ k, boundOf c k = boundOf b k

theorem OnLabel.trans (h : OnLabel id b c m) (g : OnLabel id c d n) : OnLabel id b d n where
  touches := h.touches.trans g.touches
  own := g.own
  others := fun j hj => (g.others j hj).trans (h.others j hj)
  composer := by rw [g.composer, h.composer]

theorem Quietly.trans (h : Quietly id b c q m) (g : Quietly id c d r n) : Quietly id b d r n where
  toOnLabel := h.toOnLabel.trans g.toOnLabel
  mgmt := by rw [g.mgmt, h.mgmt]
  bound := fun k => (g.bound k).trans (h.bound k)

theorem Quietly.refl (hl : getLabel b id = some l) : Quietly id b b b.mgmt.notices l :=
  ⟨⟨.refl _ b, hl, fun _ _ => rfl, rfl⟩, rfl, fun _ => rfl⟩

theorem Quietly.notices (h : Quietly id b c q m) : c.mgmt.notices = q := by rw [h.mgmt]

theorem Quietly.trans_silent (h : Quietly id b c q m) (g : Quietly id c d c.mgmt.notices n) : Quietly id b d q n :=
  h.notices ▸ h.trans g

theorem boundOf_congr (hi : c.items = b.items) (k : Nat) : boundOf c k = boundOf b k := by
  rw [boundOf, boundOf, getItem, getItem, hi]

theorem Requeued.quietly (h : Requeued id b c o m) : Quietly id b c b.mgmt.notices m where
  touches := h.touches.mono (by decide)
  own := h.own
  others := h.others
  composer := by rw [← h.touches.keeps .composer (by decide)]
  mgmt := by rw [← h.touches.keeps .mgmt (by decide)]
  bound := boundOf_congr h.items

theorem Quietly.put (h : Quietly id b c q l) (m : Label) : Quietly id b (putLabel id m c) q m :=
  h.trans_silent (Requeued.putLabel id m c).quietly

theorem Quietly.modify (h : Quietly id b c q l) (g : Label → Label) : Quietly id b (modifyLabel id g c) q (g l) := by
  rw [modifyLabel_of_some g h.own]
  exact h.put _

theorem Quietly.notice (h : Quietly id b c q m) (k : NoticeKind) (x : NoticeSubject) :
    Quietly id b (notice k x c) (noticeQueueAfter k x none b.mode.clock q) m := by
  have hclock : c.mode.clock = b.mode.clock := by rw [h.touches.keeps .mode (by decide)]
  refine ⟨⟨Touches.notice k x h.touches (by decide), h.own, h.others, h.composer⟩, ?_, h.bound⟩
  rw [notice_mgmt, hclock, h.mgmt]

theorem Quietly.releaseAll (h : Quietly id b c q m) (ws : List RefWhat) : Quietly id b (releaseAll ws c) q m := by
  have ht := releaseAll_touches ws c
  refine ⟨⟨h.touches.trans (ht.mono (by decide)), ?_, fun j hj => ?_, ?_⟩, ?_, fun k => ?_⟩
  · rw [getLabel, releaseAll_labels]
    exact h.own
  · rw [getLabel, releaseAll_labels]
    exact h.others j hj
  · rw [← ht.keeps .composer (by decide)]
    exact h.composer
  · rw [← ht.keeps .mgmt (by decide)]
    exact h.mgmt
  · exact (releaseAll_bound ws c k).trans (h.bound k)

theorem Quietly.leaveStyleUnconfirmed (h : Quietly id b c q m) (l : Label) :
    Quietly id b (leaveStyleUnconfirmed id l c) q m := by
  have hleft : Quietly id b (leaveStyle id c) q m :=
    ⟨⟨Touches.leaveStyle id h.touches (by decide), h.own, h.others, by rw [leaveStyle_composer, h.composer]⟩, h.mgmt, h.bound⟩
  unfold Machine.leaveStyleUnconfirmed
  (repeat' split)
  · exact hleft
  · exact h
  · exact h

/-! ## References given up (R63, R65) -/

/-- R65: a label's record without its in-flight reference. -/
def droppedLabel (l : Label) : Label := { l with inFlight := none, marks := marksRestored l }

/-- R65: a label's record without either reference. -/
def clearedLabel (l : Label) : Label :=
  { l with
    inFlight := none
    confirmed := none
    displayKnown := false
    marks := { marksRestored l with fullRequired := true } }

theorem Quietly.dropInFlight (h : Quietly id b c q l) : Quietly id b (dropInFlight id c) q (droppedLabel l) := by
  rw [Machine.dropInFlight, withLabel_of_some h.own, releaseInFlight_eq]
  exact ((h.put (droppedLabel l)).releaseAll _).leaveStyleUnconfirmed l

theorem Quietly.dropBoth (h : Quietly id b c q l) : Quietly id b (dropBoth id c) q (clearedLabel l) := by
  rw [Machine.dropBoth, withLabel_of_some h.own, releaseBoth_eq]
  exact ((h.put (clearedLabel l)).releaseAll _).leaveStyleUnconfirmed l

/-! ## A transmission heard (R70) -/

theorem heardLabel_eq (cycle : Nat) (l : Label) :
    ∃ p k, heardLabel cycle l = { l with heard := some cycle, present := p, candidate := k } := by
  unfold heardLabel
  split
  · exact ⟨_, _, rfl⟩
  · split
    · split
      · exact ⟨_, _, rfl⟩
      · exact ⟨_, _, rfl⟩
    · exact ⟨_, _, rfl⟩

theorem heardLabel_present (cycle : Nat) (l : Label) : (heardLabel cycle l).present = true ↔
    l.present = true ∨ ∃ k, l.candidate = some k ∧ (cycle + 65536 - k) % 65536 ≤ 16 := by
  unfold heardLabel cyclesSince
  cases hp : l.present with
  | true => simp
  | false =>
    cases hk : l.candidate with
    | none => simp
    | some k => by_cases hlate : (cycle + 65536 - k) % 65536 ≤ 16 <;> simp [hlate]

/-- R70: LABEL_FOUND is queued for a label that was LOST and is PRESENT again. -/
theorem noticesHeard_eq (cycle : Nat) (clock : Option Nat) : noticesHeard cycle id l clock q =
    if (heardLabel cycle l).present && !l.present then noticeQueueAfter .labelFound (.label id) none clock q else q := by
  have hfound : ((heardLabel cycle l).present && !l.present) =
      (!l.present && l.candidate.any (fun k => decide ((cycle + 65536 - k) % 65536 ≤ 16))) := by
    rw [Bool.eq_iff_iff]
    simp only [Bool.and_eq_true, heardLabel_present, Bool.not_eq_true', Option.any_eq_true, decide_eq_true_eq]
    constructor
    · rintro ⟨h, hp⟩
      exact ⟨hp, h.resolve_left (by simp [hp])⟩
    · rintro ⟨hp, h⟩
      exact ⟨Or.inr h, hp⟩
  rw [noticesHeard, hfound]

theorem quietly_transmissionHeard (hl : getLabel b id = some l) : Quietly id b (transmissionHeard id b)
    (noticesHeard b.radio.cycle id l b.mode.clock b.mgmt.notices) (heardLabel b.radio.cycle l) := by
  have hput := (Quietly.refl hl).put (heardLabel b.radio.cycle l)
  rw [transmissionHeard, withLabel_of_some hl, noticesHeard_eq]
  split
  · exact hput.notice _ _
  · exact hput

/-! ## Settling (R57) -/

theorem Quietly.settle (h : Quietly id b c q l) : ∃ m, Quietly id b (settle id c) q m ∧ SettledIn (settle id c) m ∧
    m = { l with target := m.target, state := m.state, queued := m.queued } := by
  obtain ⟨o, hm, -, hs⟩ := Requeued.settle h.own
  exact ⟨_, h.trans_silent hm.quietly, hs, rfl⟩

/-! ## The next binding applied (R61) -/

/-- R61: label `l` unbound, leaving `m`; one without item is left as it was. -/
structure UnboundFrom (b : Block) (l m : Label) : Prop where
  item : m.item = none
  given : l.item ≠ none → SettledIn b m ∧ m.target = some .blank ∧ m.template = none ∧ m.binding = .foreign ∧
    m.confirmed = none ∧ m.inFlight = none ∧ m.retry = 0 ∧ m.marks = Marks.mk false false false ∧ m.oversize = false

/-- What is known of a label's transmissions, which its references, its binding and its settling do not change. -/
def HeardAlike (l m : Label) : Prop := m.heard = l.heard ∧ m.present = l.present ∧ m.battery = l.battery

theorem HeardAlike.trans (h : HeardAlike l m) (g : HeardAlike m n) : HeardAlike l n := by
  obtain ⟨hh, hp, hb⟩ := h
  obtain ⟨gh, gp, gb⟩ := g
  exact ⟨gh.trans hh, gp.trans hp, gb.trans hb⟩

theorem applyUnbind_step (hl : getLabel b id = some l) : ∃ m, OnLabel id b (applyUnbind id b) m ∧
    (applyUnbind id b).mgmt = b.mgmt ∧ HeardAlike l m ∧ m.next = l.next ∧ UnboundFrom (applyUnbind id b) l m := by
  rw [applyUnbind, withLabel_of_some hl]
  split
  · next hi =>
    obtain ⟨o, hget, hsettled, -, htouches, hothers, -, hcomposer⟩ := (givenUp_giveUpBinding none none hl).settle
    exact ⟨_, ⟨htouches.mono (by decide), hget, hothers, by rw [hcomposer]⟩, (htouches.keeps .mgmt (by decide)).symm,
      ⟨rfl, rfl, rfl⟩, rfl, rfl, fun _ => ⟨hsettled, rfl, rfl, rfl, rfl, rfl, rfl, rfl, rfl⟩⟩
  · next hi =>
    have hnone : l.item = none := by simpa using hi
    exact ⟨l, (Quietly.refl hl).toOnLabel, rfl, ⟨rfl, rfl, rfl⟩, rfl, hnone, fun h => absurd hnone h⟩

/-- R61: label `l` bound to another item with a template, leaving `m`. -/
structure BoundTo (b : Block) (code t : Nat) (l m : Label) : Prop where
  item : m.item = some code
  template : m.template = some t
  given : l.item ≠ some code → SettledIn b m ∧ m.binding = .foreign ∧ m.confirmed = none ∧ m.inFlight = none ∧
    m.retry = 0 ∧ m.marks = Marks.mk false false false ∧ m.oversize = false

theorem applyRebind_step (code t : Nat) (hl : getLabel b id = some l) : ∃ m, OnLabel id b (applyRebind id code t b) m ∧
    (applyRebind id code t b).mgmt = b.mgmt ∧ HeardAlike l m ∧ m.next = l.next ∧ BoundTo (applyRebind id code t b) code t l m := by
  rw [applyRebind]
  obtain ⟨o, hget, hsettled, -, htouches, hothers, -, hcomposer⟩ :=
    ((givenUp_giveUpBinding (some code) (some t) hl).bindToItem code id).settle
  exact ⟨_, ⟨htouches.mono (by decide), hget, hothers, by rw [hcomposer]⟩, (htouches.keeps .mgmt (by decide)).symm,
    ⟨rfl, rfl, rfl⟩, rfl, rfl, rfl, fun _ => ⟨hsettled, rfl, rfl, rfl, rfl, rfl, rfl⟩⟩

/-- A template put, and the label settled or returned where that is due, leaves its item and what is known of it. -/
theorem applySameItem_step (t : Nat) (hl : getLabel b id = some l) : ∃ m, Quietly id b (applySameItem id t l b) b.mgmt.notices m ∧
    HeardAlike l m ∧ m.next = l.next ∧ m.item = l.item ∧ m.template = some t := by
  unfold applySameItem
  split
  · next ht => exact ⟨l, .refl hl, ⟨rfl, rfl, rfl⟩, rfl, rfl, ht⟩
  · obtain ⟨m, hm, hkept, hsettled, hreturned⟩ := Requeued.applyTemplate t hl
    refine ⟨m, hm.quietly, ?_⟩
    have hcase : (l.state = .unbound ∨ l.state = .current ∨ l.state = .stale) ∨
        (l.state = .inFlight ∨ l.state = .uncertain ∨ (l.state = .failed ∧ (l.oversize = false ∨ l.template = some t))) ∨
        (l.state = .failed ∧ l.oversize = true ∧ l.template ≠ some t) := by
      cases l.state <;> cases l.oversize <;> simp [em]
    rcases hcase with h | h | h
    · rw [(hsettled h).2]
      exact ⟨⟨rfl, rfl, rfl⟩, rfl, rfl, rfl⟩
    · rw [hkept h]
      exact ⟨⟨rfl, rfl, rfl⟩, rfl, rfl, rfl⟩
    · rw [(hreturned h).record]
      exact ⟨⟨rfl, rfl, rfl⟩, rfl, rfl, rfl⟩

theorem settleIfSettled_step (hl : getLabel b id = some l) : ∃ m, Quietly id b (settleIfSettled id b) b.mgmt.notices m ∧
    m = { l with target := m.target, state := m.state, queued := m.queued } := by
  rw [settleIfSettled, withLabel_of_some hl]
  split
  · obtain ⟨m, hm, -, hrecord⟩ := (Quietly.refl hl).settle
    exact ⟨m, hm, hrecord⟩
  · exact ⟨l, .refl hl, rfl⟩

theorem itemHasRoom_iff : itemHasRoom b code = true ↔ ∃ i, getItem b code = some i ∧ i.bound.length < 8 := by
  unfold itemHasRoom
  cases h : getItem b code with
  | none => simp
  | some i =>
    refine ⟨fun hr => ⟨i, rfl, of_decide_eq_true hr⟩, ?_⟩
    rintro ⟨_, ⟨⟩, hr⟩
    exact decide_eq_true hr

/-- R61: whether a deferred bind of a label still serves. -/
def Serves (b : Block) (code t : Nat) (l : Label) : Prop :=
  (∃ (x : Fin 32) (d : Template), x.val = t ∧ b.composer.templates.get x = some d ∧ d.cls = l.cls) ∧
    (l.item = some code ∨ ∃ i, getItem b code = some i ∧ i.bound.length < 8)

theorem applyDeferredBind_serves (hl : getLabel b id = some l) (hs : Serves b code t l) : ∃ m,
    OnLabel id b (applyDeferredBind id code t l b) m ∧ (applyDeferredBind id code t l b).mgmt = b.mgmt ∧
      HeardAlike l m ∧ m.next = l.next ∧ BoundTo (applyDeferredBind id code t l b) code t l m := by
  obtain ⟨hfits, hplace⟩ := hs
  rw [applyDeferredBind, if_pos (templateFits_iff.2 hfits)]
  split
  · next hi =>
    obtain ⟨m, hm, hh, hnm, him, htm⟩ := applySameItem_step t hl
    obtain ⟨n, hn, hrecord⟩ := settleIfSettled_step hm.own
    refine ⟨n, (hm.trans_silent hn).toOnLabel, (hm.trans_silent hn).mgmt, hh.trans ?_, ?_, ?_, ?_, fun h => absurd hi h⟩
    · rw [hrecord]
      exact ⟨rfl, rfl, rfl⟩
    · rw [hrecord]
      exact hnm
    · rw [hrecord]
      exact him.trans hi
    · rw [hrecord]
      exact htm
  · next hi =>
    rw [if_pos (itemHasRoom_iff.2 (hplace.resolve_left hi))]
    exact applyRebind_step code t hl

theorem applyDeferredBind_dropped (hl : getLabel b id = some l) (hs : ¬ Serves b code t l) : ∃ m,
    OnLabel id b (applyDeferredBind id code t l b) m ∧
      (applyDeferredBind id code t l b).mgmt =
        { b.mgmt with notices := noticeQueueAfter .bindDropped (.label id) none b.mode.clock b.mgmt.notices } ∧
      HeardAlike l m ∧ m.next = l.next ∧ UnboundFrom (applyDeferredBind id code t l b) l m := by
  have heq : applyDeferredBind id code t l b = Machine.notice .bindDropped (.label id) (applyUnbind id b) := by
    unfold applyDeferredBind
    split
    · next hfits =>
      have hplace := fun h => hs ⟨templateFits_iff.1 hfits, h⟩
      rw [if_neg fun h => hplace (Or.inl h), if_neg fun h => hplace (Or.inr (itemHasRoom_iff.1 h))]
    · rfl
  obtain ⟨m, hm, hmgmt, hh, hn, hu⟩ := applyUnbind_step hl
  have hmode : (applyUnbind id b).mode = b.mode := (hm.touches.keeps .mode (by decide)).symm
  rw [heq]
  exact ⟨m, ⟨Touches.notice _ _ hm.touches (by decide), hm.own, hm.others, hm.composer⟩, by rw [notice_mgmt, hmgmt, hmode],
    hh, hn, hu.item, hu.given⟩

/-- What applying a next binding is checked against: the templates, the bound lists, the clock and the notices. -/
theorem nextTaken_of {y : NextBinding}
    (hbind : ∀ code t, y = .bind code t → (Serves a code t l → b.mgmt = { a.mgmt with notices := q } ∧ BoundTo b code t l m) ∧
      (¬ Serves a code t l → b.mgmt = { a.mgmt with notices := noticeQueueAfter .bindDropped (.label id) none a.mode.clock q } ∧
        UnboundFrom b l m))
    (hunbind : y = .unbind → b.mgmt = { a.mgmt with notices := q } ∧ UnboundFrom b l m) (hn : m.next = none) :
    NextTaken a b id l m y q := by
  refine ⟨hn, fun code t serves hy hiff => ⟨fun hs => ?_, fun hs => ?_⟩, fun hy => ?_⟩
  · obtain ⟨hmgmt, hi, ht, hgiven⟩ := (hbind code t hy).1 (hiff.1 hs)
    exact ⟨hmgmt, hi, ht, hgiven⟩
  · obtain ⟨hmgmt, hi, hgiven⟩ := (hbind code t hy).2 (mt hiff.2 hs)
    exact ⟨hmgmt, hi, hgiven⟩
  · obtain ⟨hmgmt, hi, hgiven⟩ := hunbind hy
    exact ⟨hmgmt, hi, hgiven⟩

theorem Quietly.serves_iff (h : Quietly id a b q l) {k : Label} (hcls : k.cls = l.cls) (hi : k.item = l.item) :
    Serves a code t k ↔ Serves b code t l := by
  have htemplates : b.composer.templates = a.composer.templates := by rw [h.composer]
  have hroom : (∃ i, getItem a code = some i ∧ i.bound.length < 8) ↔ ∃ i, getItem b code = some i ∧ i.bound.length < 8 := by
    have hbound := h.bound code
    unfold boundOf at hbound
    constructor
    · rintro ⟨i, hi, h8⟩
      rw [hi, Option.map_some, Option.map_eq_some_iff] at hbound
      obtain ⟨j, hj, hji⟩ := hbound
      exact ⟨j, hj, hji ▸ h8⟩
    · rintro ⟨i, hi, h8⟩
      rw [hi, Option.map_some] at hbound
      obtain ⟨j, hj, hji⟩ := Option.map_eq_some_iff.1 hbound.symm
      exact ⟨j, hj, hji ▸ h8⟩
  simp only [Serves, htemplates, hroom, hcls, hi]

/-- R61: the next binding applied, after what an operation on the label did. -/
theorem Quietly.applyNext (h : Quietly id a b q l) (hy : l.next = some y) : ∃ m, OnLabel id a (applyNext id b) m ∧
    HeardAlike l m ∧ NextTaken a (applyNext id b) id l m y q := by
  have hput := h.put { l with next := none }
  have hclock : (putLabel id { l with next := none } b).mode.clock = a.mode.clock := by
    rw [hput.touches.keeps .mode (by decide)]
  rw [Machine.applyNext, withLabel_of_some h.own, hy]
  cases y with
  | unbind =>
    obtain ⟨m, hm, hmgmt, hh, hn, hu⟩ := applyUnbind_step hput.own
    refine ⟨m, hput.toOnLabel.trans hm, hh, nextTaken_of (fun _ _ e => nomatch e) (fun _ => ⟨hmgmt.trans hput.mgmt, hu.item,
      hu.given⟩) hn⟩
  | bind code t =>
    by_cases hs : Serves (putLabel id { l with next := none } b) code t { l with next := none }
    · obtain ⟨m, hm, hmgmt, hh, hn, hb⟩ := applyDeferredBind_serves hput.own hs
      refine ⟨m, hput.toOnLabel.trans hm, hh, nextTaken_of (fun _ _ e => ?_) (fun e => nomatch e) hn⟩
      cases e
      exact ⟨fun _ => ⟨hmgmt.trans hput.mgmt, hb.item, hb.template, hb.given⟩,
        fun hns => absurd ((hput.serves_iff (k := l) rfl rfl).2 hs) hns⟩
    · obtain ⟨m, hm, hmgmt, hh, hn, hu⟩ := applyDeferredBind_dropped hput.own hs
      refine ⟨m, hput.toOnLabel.trans hm, hh, nextTaken_of (fun _ _ e => ?_) (fun e => nomatch e) hn⟩
      cases e
      refine ⟨fun hns => absurd ((hput.serves_iff (k := l) rfl rfl).1 hns) hs, fun _ => ⟨?_, hu.item, hu.given⟩⟩
      rw [hmgmt, hclock, hput.mgmt]

/-! ## The end of a transaction (R65, R66) -/

/-- R66: a transaction has ended at label `l`, `q` being the notices before, and left `m`: settled where no binding was
waiting, or as the waiting binding leaves it. -/
structure TransactionEnded (id : Nat) (a b : Block) (q : List NoticeEntry) (l m : Label) : Prop where
  onLabel : OnLabel id a b m
  hearing : HeardAlike l m
  free : l.next = none → b.mgmt = { a.mgmt with notices := q } ∧ SettledIn b m ∧
    m = { l with target := m.target, state := m.state, queued := m.queued }
  next : ∀ y, l.next = some y → NextTaken a b id l m y q

theorem SettledIn.target_of_unbound (h : SettledIn b m) (hi : m.item = none) (hb : m.binding = .foreign) :
    m.target = some .blank := by
  rw [h.1, targetOf_unbound hi, if_pos hb]

/-- A label settled once more after its next binding is as that left it. -/
theorem NextTaken.settle (h : NextTaken a b id l m y q) (hm : getLabel b id = some m) : ∃ n,
    Quietly id b (Machine.settle id b) b.mgmt.notices n ∧ HeardAlike m n ∧ SettledIn (Machine.settle id b) n ∧
      NextTaken a (Machine.settle id b) id l n y q := by
  obtain ⟨n, hn, hs, hrecord⟩ := (Quietly.refl hm).settle
  obtain ⟨hnext, hbind, hunbind⟩ := h
  have hmgmt : (Machine.settle id b).mgmt = b.mgmt := by rw [hn.mgmt]
  have hhear : HeardAlike m n := by
    rw [hrecord]
    exact ⟨rfl, rfl, rfl⟩
  have hunbound (hu : UnboundFrom b l m) : UnboundFrom (Machine.settle id b) l n := by
    refine ⟨by rw [hrecord]; exact hu.item, fun hi => ?_⟩
    obtain ⟨-, -, htemplate, hforeign, hconfirmed, hflight, hretry, hmarks, hoversize⟩ := hu.given hi
    refine ⟨hs, hs.target_of_unbound ?_ ?_, ?_⟩
    · rw [hrecord]; exact hu.item
    · rw [hrecord]; exact hforeign
    · rw [hrecord]; exact ⟨htemplate, hforeign, hconfirmed, hflight, hretry, hmarks, hoversize⟩
  refine ⟨n, hn, hhear, hs, nextTaken_of (fun code t hy => ⟨fun hserves => ?_, fun hserves => ?_⟩) (fun hy => ?_)
    (by rw [hrecord]; exact hnext)⟩
  · obtain ⟨hm', hi, ht, hgiven⟩ := (hbind code t _ hy Iff.rfl).1 hserves
    refine ⟨hmgmt.trans hm', by rw [hrecord]; exact hi, by rw [hrecord]; exact ht, fun hne => ⟨hs, ?_⟩⟩
    rw [hrecord]
    exact (hgiven hne).2
  · obtain ⟨hm', hi, hgiven⟩ := (hbind code t _ hy Iff.rfl).2 hserves
    exact ⟨hmgmt.trans hm', hunbound ⟨hi, hgiven⟩⟩
  · obtain ⟨hm', hi, hgiven⟩ := hunbind hy
    exact ⟨hmgmt.trans hm', hunbound ⟨hi, hgiven⟩⟩

/-- R66: the next binding applied, and the label settled. -/
theorem Quietly.settle_applyNext (h : Quietly id a b q l) :
    ∃ m, TransactionEnded id a (Machine.settle id (Machine.applyNext id b)) q l m := by
  cases hy : l.next with
  | none =>
    obtain ⟨m, hm, hs, hrecord⟩ := h.settle
    rw [applyNext_of_none h.own hy]
    refine ⟨m, hm.toOnLabel, ?_, fun _ => ⟨hm.mgmt, hs, hrecord⟩, fun y e => nomatch hy.symm.trans e⟩
    rw [hrecord]
    exact ⟨rfl, rfl, rfl⟩
  | some y =>
    obtain ⟨m, hm, hh, ht⟩ := h.applyNext hy
    obtain ⟨n, hn, hhear, -, hnext⟩ := ht.settle hm.own
    refine ⟨n, hm.trans hn.toOnLabel, hh.trans hhear, fun e => (nomatch hy.symm.trans e), fun z e => ?_⟩
    obtain rfl : y = z := Option.some.inj (hy.symm.trans e)
    exact hnext

theorem Quietly.endTransaction (h : Quietly id a b q l) (hs : l.state ≠ .failed) :
    ∃ m, TransactionEnded id a (endTransaction id b) q l m := by
  rw [Machine.endTransaction, withLabel_of_some h.own, if_neg hs]
  exact h.settle_applyNext

theorem endTransaction_failed (hl : getLabel b id = some l) (hs : l.state = .failed) : endTransaction id b = b := by
  rw [endTransaction, withLabel_of_some hl, if_pos hs]

theorem Quietly.confirmed (h : Quietly id a b q l) (f : InFlight) :
    Quietly id a (Machine.releaseConfirmed l (putLabel id (confirmedLabel f l) b)) q (confirmedLabel f l) := by
  rw [releaseConfirmed_eq]
  exact (h.put _).releaseAll _

/-- R66: the in-flight reference confirmed, of a label that is not FAILED. -/
theorem Quietly.confirmInFlight (h : Quietly id a b q l) (f : InFlight) (hs : l.state ≠ .failed) :
    ∃ m, TransactionEnded id a (confirmInFlight id f b) q (confirmedLabel f l) m := by
  rw [Machine.confirmInFlight, withLabel_of_some h.own]
  exact (h.confirmed f).endTransaction hs

/-! ## A report resolved (R65) -/

theorem reportsInFlight_iff {tag : Nat} {check : Option Nat} : reportsInFlight tag check l = some f ↔
    l.inFlight = some f ∧ f.ref.tag = tag ∧ checkMatches check f.ref = true := by
  unfold reportsInFlight
  cases hf : l.inFlight with
  | none => simp
  | some g =>
    simp only [Option.ite_none_right_eq_some, Bool.and_eq_true, decide_eq_true_eq, Option.some.injEq]
    constructor
    · rintro ⟨h, rfl⟩
      exact ⟨rfl, h⟩
    · rintro ⟨rfl, h⟩
      exact ⟨h, rfl⟩

section Resolve

variable {tag : Nat} {check : Option Nat}

theorem resolveReport_confirms (hl : getLabel b id = some l) (hf : reportsInFlight tag check l = some f) :
    resolveReport id tag check b = Machine.confirmInFlight id f b := by
  rw [resolveReport, withLabel_of_some hl, hf]

theorem resolveReport_known (hl : getLabel b id = some l) (hf : reportsInFlight tag check l = none)
    (hc : reportsConfirmed tag check l = true) : resolveReport id tag check b =
      if l.inFlight.isSome then Machine.endTransaction id (Machine.dropInFlight id b)
      else if l.state = .uncertain then Machine.endTransaction id b else b := by
  rw [resolveReport, withLabel_of_some hl, hf]
  exact if_pos hc

theorem resolveReport_unknown (hl : getLabel b id = some l) (hf : reportsInFlight tag check l = none)
    (hc : ¬ reportsConfirmed tag check l = true) : resolveReport id tag check b =
      if l.item.isNone ∧ l.inFlight.isNone then putLabel id { l with displayKnown := false } b
      else Machine.endTransaction id (Machine.dropBoth id b) := by
  rw [resolveReport, withLabel_of_some hl, hf]
  exact if_neg hc

/-- R65: what a report makes of a label that is not FAILED, from `l` to `m`. -/
structure ReportResolved (id tag : Nat) (check : Option Nat) (a b : Block) (q : List NoticeEntry) (l m : Label) : Prop where
  onLabel : OnLabel id a b m
  hearing : HeardAlike l m
  mgmt : l.next = none → b.mgmt = { a.mgmt with notices := q }
  confirms : ∀ f, reportsInFlight tag check l = some f → TransactionEnded id a b q (confirmedLabel f l) m
  drops : reportsInFlight tag check l = none → reportsConfirmed tag check l = true → l.inFlight ≠ none →
    TransactionEnded id a b q (droppedLabel l) m
  known : reportsInFlight tag check l = none → reportsConfirmed tag check l = true → l.inFlight = none →
    l.state ≠ .uncertain → m = l
  unknown : reportsInFlight tag check l = none → ¬ reportsConfirmed tag check l = true → l.item = none →
    l.inFlight = none → m = { l with displayKnown := false }
  clears : reportsInFlight tag check l = none → ¬ reportsConfirmed tag check l = true →
    ¬ (l.item = none ∧ l.inFlight = none) → TransactionEnded id a b q (clearedLabel l) m

theorem Quietly.resolveReport (h : Quietly id a b q l) (tag : Nat) (check : Option Nat) (hs : l.state ≠ .failed) :
    ∃ m, ReportResolved id tag check a (resolveReport id tag check b) q l m := by
  cases hf : reportsInFlight tag check l with
  | some f =>
    obtain ⟨m, hm⟩ := h.confirmInFlight f hs
    rw [resolveReport_confirms h.own hf]
    refine ⟨m, hm.onLabel, hm.hearing, fun e => (hm.free e).1, fun g hg => ?_, fun hn => ?_, fun hn => ?_,
      fun hn => ?_, fun hn => ?_⟩
    · obtain rfl : f = g := Option.some.inj (hf.symm.trans hg)
      exact hm
    all_goals simp [hf] at hn
  | none =>
    by_cases hc : reportsConfirmed tag check l = true
    · rw [resolveReport_known h.own hf hc]
      split
      · next hsome =>
        obtain ⟨m, hm⟩ := h.dropInFlight.endTransaction hs
        have hne := Option.isSome_iff_ne_none.1 hsome
        exact ⟨m, hm.onLabel, hm.hearing, fun e => (hm.free e).1, fun f hg => (nomatch hf.symm.trans hg),
          fun _ _ _ => hm, fun _ _ hn => absurd hn hne, fun _ hn => absurd hc hn, fun _ hn => absurd hc hn⟩
      · next hnone =>
        have hfree : l.inFlight = none := by simpa using hnone
        split
        · next hu =>
          obtain ⟨m, hm⟩ := h.endTransaction hs
          exact ⟨m, hm.onLabel, hm.hearing, fun e => (hm.free e).1, fun f hg => (nomatch hf.symm.trans hg),
            fun _ _ hn => absurd hfree hn, fun _ _ _ hn => absurd hu hn, fun _ hn => absurd hc hn, fun _ hn => absurd hc hn⟩
        · exact ⟨l, h.toOnLabel, ⟨rfl, rfl, rfl⟩, fun _ => h.mgmt, fun f hg => (nomatch hf.symm.trans hg),
            fun _ _ hn => absurd hfree hn, fun _ _ _ _ => rfl, fun _ hn => absurd hc hn, fun _ hn => absurd hc hn⟩
    · rw [resolveReport_unknown h.own hf hc]
      split
      · next hi =>
        simp only [Option.isNone_iff_eq_none] at hi
        exact ⟨_, (h.put _).toOnLabel, ⟨rfl, rfl, rfl⟩, fun _ => h.mgmt, fun f hg => (nomatch hf.symm.trans hg),
          fun _ hn => absurd hn hc, fun _ hn => absurd hn hc, fun _ _ _ _ => rfl, fun _ _ hn => absurd hi hn⟩
      · next hi =>
        simp only [Option.isNone_iff_eq_none] at hi
        obtain ⟨m, hm⟩ := h.dropBoth.endTransaction hs
        exact ⟨m, hm.onLabel, hm.hearing, fun e => (hm.free e).1, fun f hg => (nomatch hf.symm.trans hg),
          fun _ hn => absurd hn hc, fun _ hn => absurd hn hc, fun _ _ h1 h2 => absurd ⟨h1, h2⟩ hi, fun _ _ _ => hm⟩

/-- R65: a report leaves a FAILED label FAILED, and takes its in-flight reference, where it held one. -/
theorem Quietly.resolveReport_failed (h : Quietly id a b q l) (tag : Nat) (check : Option Nat) (hs : l.state = .failed) :
    ∃ m, Quietly id a (Machine.resolveReport id tag check b) q m ∧ m.inFlight = none ∧ m.state = .failed ∧
      m.oversize = l.oversize ∧ m.next = l.next ∧ HeardAlike l m := by
  cases hf : reportsInFlight tag check l with
  | some f =>
    rw [resolveReport_confirms h.own hf, Machine.confirmInFlight, withLabel_of_some h.own,
      endTransaction_failed (h.confirmed f).own hs]
    exact ⟨_, h.confirmed f, rfl, hs, rfl, rfl, rfl, rfl, rfl⟩
  | none =>
    by_cases hc : reportsConfirmed tag check l = true
    · rw [resolveReport_known h.own hf hc]
      split
      · rw [endTransaction_failed h.dropInFlight.own hs]
        exact ⟨_, h.dropInFlight, rfl, hs, rfl, rfl, rfl, rfl, rfl⟩
      · next hnone =>
        rw [if_neg (by simp [hs])]
        exact ⟨l, h, by simpa using hnone, hs, rfl, rfl, rfl, rfl, rfl⟩
    · rw [resolveReport_unknown h.own hf hc]
      split
      · next hi => exact ⟨_, h.put _, by simpa using hi.2, hs, rfl, rfl, rfl, rfl, rfl⟩
      · rw [endTransaction_failed h.dropBoth.own hs]
        exact ⟨_, h.dropBoth, rfl, hs, rfl, rfl, rfl, rfl, rfl⟩

end Resolve

end OnOneLabel

end Sys2Proof.Machine

namespace Sys2Proof.Machine

/-! # CHECK_IN (R69, R102, R103) -/

section CheckIns

variable {a b : Block} {id tag check battery : Nat} {l m n : Label} {q : List NoticeEntry} {f : InFlight}

/-! ## A report with a check value (R65) -/

theorem reportsInFlight_check : reportsInFlight tag (some check) l = some f ↔
    l.inFlight = some f ∧ f.ref.tag = tag ∧ f.ref.check = check := by
  rw [reportsInFlight_iff, checkMatches, decide_eq_true_iff, @eq_comm _ check]

theorem reportsInFlight_check_none : reportsInFlight tag (some check) l = none ↔
    ∀ f, l.inFlight = some f → ¬ (f.ref.tag = tag ∧ f.ref.check = check) := by
  rw [Option.eq_none_iff_forall_ne_some]
  exact forall_congr' fun f => by rw [ne_eq, reportsInFlight_check, not_and]

theorem reportsConfirmed_check : reportsConfirmed tag (some check) l = true ↔
    tag = confirmedTag l ∧ ∀ r, l.confirmed = some r → r.check = check := by
  unfold reportsConfirmed
  rw [Bool.and_eq_true, decide_eq_true_iff]
  refine and_congr_right fun _ => ?_
  cases l.confirmed with
  | none => simp
  | some r => simp [checkMatches, eq_comm]

theorem confirmedLabel_eq (f : InFlight) (l : Label) : confirmedLabel f l = { l with
    confirmed := some f.ref, inFlight := none, retry := 0, binding := .normal,
    displayKnown := if f.kind = .full then true else l.displayKnown } := by
  unfold confirmedLabel
  cases f.kind <;> rfl

/-! ## A check-in taken (R69) -/

theorem quietly_heardCheckIn (battery : Nat) (hl : getLabel b id = some l) :
    Quietly id b (modifyLabel id (fun l => { l with battery := some battery }) (transmissionHeard id b))
      (noticesHeard b.radio.cycle id l b.mode.clock b.mgmt.notices)
      { heardLabel b.radio.cycle l with battery := some battery } :=
  (quietly_transmissionHeard hl).modify _

/-- R69: what a check-in makes of a label, from its record `n` as heard to `m`. -/
structure CheckedIn (id tag check : Nat) (a b : Block) (q : List NoticeEntry) (n m : Label) : Prop where
  onLabel : OnLabel id a b m
  hearing : HeardAlike n m
  waits : n.state = .inFlight → reportsInFlight tag (some check) n = none → m = n
  returns : n.state = .failed → n.oversize = false → m.state ≠ .failed ∧ m.retry = 0 ∧ m.oversize = false
  stays : n.state = .failed → n.oversize = true → m.state = .failed ∧ m.oversize = true
  mgmt : n.next = none ∨ (n.state = .inFlight ∧ reportsInFlight tag (some check) n = none) →
    b.mgmt = { a.mgmt with notices := q }
  confirmed : n.state ≠ .failed → ∀ f, reportsInFlight tag (some check) n = some f →
    TransactionEnded id a b q (confirmedLabel f n) m
  resolved : n.state ≠ .failed → n.state ≠ .inFlight → ReportResolved id tag (some check) a b q n m

/-- R68: a label that has returned is FAILED no longer. -/
theorem Returned.not_failed (h : Returned b l m) : m.state ≠ .failed := fun hs => by
  by_cases hf : l.inFlight = none
  · have hsettled := (h.free hf).settledState
    simp [hs, isSettledState] at hsettled
  · simp [(h.held hf).1] at hs

theorem CheckedIn.of_resolved (h : ReportResolved id tag (some check) a b q n m) (hf : n.state ≠ .failed)
    (hi : n.state ≠ .inFlight) : CheckedIn id tag check a b q n m where
  onLabel := h.onLabel
  hearing := h.hearing
  waits := fun e => absurd e hi
  returns := fun e => absurd e hf
  stays := fun e => absurd e hf
  mgmt := fun e => h.mgmt (e.resolve_right fun e => hi e.1)
  confirmed := fun _ => h.confirms
  resolved := fun _ _ => h

theorem Quietly.checkInReport (h : Quietly id a b q n) (tag check : Nat) :
    ∃ m, CheckedIn id tag check a (checkInReport id tag check b) q n m := by
  rw [Machine.checkInReport, withLabel_of_some h.own]
  have hother (hf : n.state ≠ .failed) (hi : n.state ≠ .inFlight) :
      ∃ m, CheckedIn id tag check a (Machine.resolveReport id tag (some check) b) q n m := by
    obtain ⟨m, hm⟩ := h.resolveReport tag (some check) hf
    exact ⟨m, .of_resolved hm hf hi⟩
  split
  · next hs =>
    have hne : n.state ≠ .failed := by simp [hs]
    split
    · next f hf =>
      obtain ⟨m, hm⟩ := h.confirmInFlight f hne
      refine ⟨m, hm.onLabel, hm.hearing, fun _ e => (nomatch hf.symm.trans e), fun e => absurd e hne,
        fun e => absurd e hne, fun e => (hm.free (e.resolve_right fun e => nomatch hf.symm.trans e.2)).1, fun _ g hg => ?_,
        fun _ e => absurd hs e⟩
      obtain rfl : f = g := Option.some.inj (hf.symm.trans hg)
      exact hm
    · next hf =>
      exact ⟨n, h.toOnLabel, ⟨rfl, rfl, rfl⟩, fun _ _ => rfl, fun e => absurd e hne, fun e => absurd e hne, fun _ => h.mgmt,
        fun _ g hg => (nomatch hf.symm.trans hg), fun _ e => absurd hs e⟩
  · next hs =>
    obtain ⟨m, hm, hflight, hstate, hoversize, -, hh⟩ := h.resolveReport_failed tag (some check) hs
    split
    · next ho =>
      exact ⟨m, hm.toOnLabel, hh, fun e => by simp [hs] at e, fun _ e => by simp [ho] at e,
        fun _ _ => ⟨hstate, hoversize.trans ho⟩, fun _ => hm.mgmt, fun e => absurd hs e, fun e => absurd hs e⟩
    · next ho =>
      obtain ⟨k, hk, hr⟩ := Requeued.returnFailed hm.own
      have hafter := hm.trans_silent hk.quietly
      refine ⟨k, hafter.toOnLabel, hh.trans ?_, fun e => by simp [hs] at e, fun _ _ => ⟨hr.not_failed, ?_⟩,
        fun _ e => absurd e ho, fun _ => hafter.mgmt, fun e => absurd hs e, fun e => absurd hs e⟩
      · rw [hr.record]
        exact ⟨rfl, rfl, rfl⟩
      · rw [hr.record]
        exact ⟨rfl, rfl⟩
  all_goals
    next hs =>
    exact hother (by simp [hs]) (by simp [hs])

/-- Settles O35: the label is heard, then its report resolved by its state and by the references it names. -/
theorem checkInIsResolvedAgainstTheRecord : Obligations.CheckInIsResolvedAgainstTheRecord := by
  unfold Obligations.CheckInIsResolvedAgainstTheRecord
  refine fun c s => ⟨fun hc => ?_, fun hc hnone => ?_, fun l n hc hl hn => ?_⟩
  · rw [exec_eq_effect, effect, radioCheckIn, hc]
    rfl
  · rw [exec_eq_effect, effect, radioCheckIn, hc, hnone]
    rfl
  · have heffect : effect (.checkIn c) s.block = takeCheckIn c.label c.tag c.battery c.check s.block := by
      rw [effect, radioCheckIn, hc, hl]
      rfl
    have htouches : Touches [.labels, .items, .composer, .mgmt] s.block
        (takeCheckIn c.label c.tag c.battery c.check s.block) := by
      apply Touches.takeCheckIn _ _ _ _ (.refl _ _) <;> decide
    have hheard := quietly_heardCheckIn c.battery hl
    have hpresent := heardLabel_present s.block.radio.cycle l
    obtain ⟨p, k, hrecord⟩ := heardLabel_eq s.block.radio.cycle l
    rw [hrecord] at hheard hn hpresent
    subst hn
    obtain ⟨m, honly, ⟨hh, hp, hb⟩, hwaits, hreturns, hstays, hmgmt, hconfirmed, hresolved⟩ :=
      hheard.checkInReport c.tag c.check
    refine ⟨_, m, by rw [exec_eq_effect, heffect], htouches, honly.own, honly.others, hh, hb, ?_,
      fun hs hno => hwaits hs (reportsInFlight_check_none.2 hno), hreturns, hstays, ?_, fun hf hi hitem hflight hno => ?_,
      fun hnext hf => ⟨fun f h1 h2 h3 => ?_, fun hno hi => ⟨fun hc => ⟨fun hflight hu => ?_, fun f hflight => ?_⟩,
        fun hc hitem => ?_⟩⟩⟩
    · rw [hp]
      exact hpresent
    · rintro _ rfl
      refine ⟨fun h => hmgmt (h.imp_right fun h => ⟨h.1, reportsInFlight_check_none.2 h.2⟩),
        fun f y h1 h2 h3 hy hs => ?_⟩
      exact (hconfirmed (fun e => nomatch hs.symm.trans e) f (reportsInFlight_check.2 ⟨h1, h2, h3⟩)).next y hy
    · exact (hresolved hf hi).unknown (reportsInFlight_check_none.2 fun f e => nomatch hflight.symm.trans e)
        (mt reportsConfirmed_check.1 hno) hitem hflight
    · obtain ⟨-, hset, hm⟩ := (hconfirmed hf f (reportsInFlight_check.2 ⟨h1, h2, h3⟩)).free hnext
      rw [confirmedLabel_eq] at hm
      exact ⟨hset, hm⟩
    · exact (hresolved hf hi).known (reportsInFlight_check_none.2 hno) (reportsConfirmed_check.2 hc) hflight hu
    · obtain ⟨-, hset, hm⟩ := ((hresolved hf hi).drops (reportsInFlight_check_none.2 hno) (reportsConfirmed_check.2 hc)
        fun e => nomatch hflight.symm.trans e).free hnext
      exact ⟨hset, by rw [hm]; rfl⟩
    · obtain ⟨-, hset, hm⟩ := ((hresolved hf hi).clears (reportsInFlight_check_none.2 hno)
        (mt reportsConfirmed_check.1 hc) fun e => hitem e.1).free hnext
      refine ⟨hset, ?_, ?_⟩
      · rw [hm]
        rfl
      · rw [hm]
        rfl

end CheckIns

end Sys2Proof.Machine

namespace Sys2Proof.Machine

/-! # Transactions on the air, and the outcomes they hand on (R66 to R68, R97, R99) -/

section Transmission

variable {a b c : Block} {e : PlanEntry} {k : Counter}

/-! ## A transaction begun (R97, R106) -/

@[simp] theorem counterValue_emit (o : Output) (b : Block) (k : Counter) : counterValue (emit o b) k = counterValue b k := rfl

theorem sendFragments_out (channel k n : Nat) (g : Nat → List Byte) (b : Block) :
    (sendFragments channel k ((List.range' k n).map g) b).out =
      b.out ++ (List.range' k n).map (fun j => .fragment channel j (g j)) := by
  induction n generalizing k b with
  | zero => simp [sendFragments]
  | succ n ih => simp [List.range'_succ, sendFragments, ih, emit]

theorem sendFragments_counts (channel k : Nat) (l : List (List Byte)) (b : Block) :
    counterValue (sendFragments channel k l b) .fragmentsSent = (if l.length = 0 then counterValue b .fragmentsSent
      else min (counterValue b .fragmentsSent + l.length) 4294967295) ∧
    ∀ j, j ≠ .fragmentsSent → counterValue (sendFragments channel k l b) j = counterValue b j := by
  induction l generalizing k b with
  | nil => exact ⟨rfl, fun _ _ => rfl⟩
  | cons x rest ih =>
    obtain ⟨hsent, hother⟩ := ih (k + 1) (bump .fragmentsSent (emit (.fragment channel k x) b))
    refine ⟨?_, fun j hj => (hother j hj).trans (counterValue_bump_other _ hj)⟩
    rw [sendFragments, hsent, counterValue_bump_self, counterValue_emit, List.length_cons]
    split
    · next hlen => simp [hlen]
    · next hlen =>
      rw [if_neg (Nat.succ_ne_zero _)]
      omega

theorem fragmentsOf_eq (bytes : List Byte) (n : Nat) :
    fragmentsOf bytes n = (List.range' 0 n).map (fun k => (bytes.drop (64 * k)).take 64) := by
  simp only [fragmentsOf, List.range_eq_range', Nat.mul_comm]

theorem transmitted_beginEntry (e : PlanEntry) (b : Block) : Transmitted (some e) b (beginEntry e b) := by
  have hradio : (beginEntry e b).radio = b.radio :=
    ((Touches.beginEntry (fs := [.counts, .out]) e (.refl _ b) (by decide) (by decide)).keeps .radio (by decide)).symm
  have hlen : (fragmentsOf (bufferedBytes b e.label) e.fragments).length = e.fragments := by simp [fragmentsOf]
  obtain ⟨hsent, hother⟩ := sendFragments_counts b.radio.channel 0 (fragmentsOf (bufferedBytes b e.label) e.fragments)
    (bump (sentCounter e.kind) (emit (.announce b.radio.channel e.label e.kind e.newTag e.baseTag e.fragments) b))
  refine ⟨fun h => (nomatch h), ?_⟩
  rintro _ ⟨⟩
  refine ⟨⟨bufferedBytes b e.label, fun u hu => by rw [bufferedBytes, hu], ?_⟩, ?_, ?_, ?_⟩
  · rw [hradio, beginEntry, fragmentsOf_eq, sendFragments_out, List.range_eq_range']
    simp [emit]
  · rw [beginEntry, hother _ (by simp)]
    cases e.kind <;> simp [sentCounter]
  · rw [beginEntry, hother _ (by simp)]
    cases e.kind <;> simp [sentCounter]
  · rw [beginEntry, hsent, hlen]
    cases e.kind <;> simp [sentCounter]

theorem beginEntry_counts (e : PlanEntry) (b : Block) (h1 : k ≠ .updatesSent) (h2 : k ≠ .queriesSent)
    (h3 : k ≠ .fragmentsSent) : counterValue (beginEntry e b) k = counterValue b k := by
  have hsent : k ≠ sentCounter e.kind := by cases e.kind <;> assumption
  rw [beginEntry, (sendFragments_counts _ _ _ _).2 k h3, counterValue_bump_other _ hsent]
  rfl

/-- R97: the transaction of the entry at the cursor begun, where there is one. -/
theorem transmitted_beginTransaction (b : Block) : Transmitted (currentEntry b) b (beginTransaction b) := by
  unfold beginTransaction
  cases currentEntry b with
  | none => exact ⟨fun _ => ⟨rfl, fun _ _ => rfl⟩, fun _ h => (nomatch h)⟩
  | some e => exact transmitted_beginEntry e b

theorem beginTransaction_counts (b : Block) (h1 : k ≠ .updatesSent) (h2 : k ≠ .queriesSent) (h3 : k ≠ .fragmentsSent) :
    counterValue (beginTransaction b) k = counterValue b k := by
  unfold beginTransaction
  split
  · exact beginEntry_counts _ b h1 h2 h3
  · rfl

theorem beginTransaction_touches (b : Block) : Touches [.counts, .out] b (beginTransaction b) :=
  Touches.beginTransaction (.refl _ b) (by decide) (by decide)

/-- R97: a transaction is begun from the outputs, the composition buffer and the three counters. -/
theorem Transmitted.of_start {entry : Option PlanEntry} (h : Transmitted entry b c) (ho : b.out = a.out)
    (hb : b.composer.buffer = a.composer.buffer)
    (hk : ∀ k, k = .updatesSent ∨ k = .queriesSent ∨ k = .fragmentsSent → counterValue b k = counterValue a k) :
    Transmitted entry a c := by
  obtain ⟨hnone, hsome⟩ := h
  rw [ho] at hnone hsome
  rw [hb, hk _ (.inl rfl), hk _ (.inr (.inl rfl)), hk _ (.inr (.inr rfl))] at hsome
  exact ⟨fun he => ⟨(hnone he).1, fun k h => ((hnone he).2 k h).trans (hk k h)⟩, hsome⟩

end Transmission

section Outcomes

variable {a b c : Block} {id tag : Nat} {l m n : Label} {q : List NoticeEntry} {y : NextBinding}

/-! ## The next binding after an outcome (R61, R68) -/

/-- R61: what the next binding makes of label `l`, where one waits: `m`, `q` being the notices before. -/
structure NextGiven (id : Nat) (a b : Block) (q : List NoticeEntry) (l m : Label) : Prop where
  onLabel : OnLabel id a b m
  free : l.next = none → b.mgmt = { a.mgmt with notices := q } ∧ m = l
  next : ∀ y, l.next = some y → NextTaken a b id l m y q

theorem Quietly.nextGiven (h : Quietly id a b q l) : ∃ m, NextGiven id a (Machine.applyNext id b) q l m := by
  cases hy : l.next with
  | none =>
    rw [applyNext_of_none h.own hy]
    exact ⟨l, h.toOnLabel, fun _ => ⟨h.mgmt, rfl⟩, fun _ e => nomatch hy.symm.trans e⟩
  | some y =>
    obtain ⟨m, hm, -, ht⟩ := h.applyNext hy
    refine ⟨m, hm, fun e => (nomatch hy.symm.trans e), fun z e => ?_⟩
    obtain rfl : y = z := Option.some.inj (hy.symm.trans e)
    exact ht

theorem Quietly.storeTarget (h : Quietly id a b q l) :
    Quietly id a (storeTarget id b) q { l with target := targetOf b l } := by
  rw [Machine.storeTarget, withLabel_of_some h.own]
  exact h.put _

theorem Quietly.becomeFailed (h : Quietly id a b q l) : Quietly id a (becomeFailed id b)
    (noticeQueueAfter .labelFailed (.label id) none a.mode.clock q) { l with state := .failed, queued := none } :=
  (h.modify _).notice _ _

/-! ## The outcomes of an update (R66, R67, R68) -/

/-- R66: an ACK resolves like a report, of a label that is IN_FLIGHT. -/
theorem outcomeAck_inFlight (tag : Nat) (hl : getLabel b id = some l) (hs : l.state = .inFlight) :
    outcomeAck id tag b = resolveReport id tag none b := by
  rw [outcomeAck, withLabel_of_some hl, if_pos hs]
  split
  · next f hf =>
    split
    · next ht =>
      exact (resolveReport_confirms hl (reportsInFlight_iff.2 ⟨hf, ht, rfl⟩)).symm
    · rfl
  · rfl

theorem outcomeAck_late (tag : Nat) (hl : getLabel b id = some l) (hs : l.state ≠ .inFlight) :
    outcomeAck id tag b = bump .lateOutcome b := by
  rw [outcomeAck, withLabel_of_some hl, if_neg hs]

theorem outcomeNakBase_late (hl : getLabel b id = some l) (hs : l.state ≠ .inFlight) :
    outcomeNakBase id b = bump .lateOutcome b := by
  rw [outcomeNakBase, withLabel_of_some hl, if_neg hs]

theorem outcomeNakCheck_late (hl : getLabel b id = some l) (hs : l.state ≠ .inFlight) :
    outcomeNakCheck id b = bump .lateOutcome b := by
  rw [outcomeNakCheck, withLabel_of_some hl, if_neg hs]

theorem outcomeNoReply_late (hl : getLabel b id = some l) (hs : l.state ≠ .inFlight) :
    outcomeNoReply id b = bump .lateOutcome b := by
  rw [outcomeNoReply, withLabel_of_some hl, if_neg hs]

theorem outcomeQueryNoReply_late (hl : getLabel b id = some l) (hs : l.state ≠ .uncertain) :
    outcomeQueryNoReply id b = bump .lateOutcome b := by
  rw [outcomeQueryNoReply, withLabel_of_some hl, if_neg hs]

/-- R67: a label's record after a NAK_BASE, before it is settled. -/
def nakBaseLabel (l : Label) : Label := { droppedLabel l with marks := { marksRestored l with fullRequired := true } }

theorem Quietly.outcomeNakBase (h : Quietly id a b q l) (hs : l.state = .inFlight) :
    ∃ m, TransactionEnded id a (outcomeNakBase id b) q (nakBaseLabel l) m := by
  rw [Machine.outcomeNakBase, withLabel_of_some h.own, if_pos hs]
  exact (h.dropInFlight.modify _).settle_applyNext

/-- R67: a label's record after the rise of a NAK_CHECK. -/
def nakCheckLabel (l : Label) : Label := { droppedLabel l with retry := raisedRetry l }

theorem atRetryLimit_iff : atRetryLimit b l = true ↔ b.radio.settings.retryLimit ≤ l.retry := decide_eq_true_iff

theorem OnLabel.radio (h : OnLabel id a b m) : b.radio = a.radio := (h.touches.keeps .radio (by decide)).symm

/-- R56, R68: a label FAILED at the retry limit, its target stored. -/
theorem Quietly.storeTarget_becomeFailed (h : Quietly id a b q l) :
    Quietly id a (Machine.becomeFailed id (Machine.storeTarget id b)) (noticeQueueAfter .labelFailed (.label id) none a.mode.clock q)
      { l with
        target := targetOf (Machine.becomeFailed id (Machine.storeTarget id b)) l, state := .failed, queued := none } := by
  have ht : Touches [.labels, .mgmt] b (Machine.becomeFailed id (Machine.storeTarget id b)) :=
    Touches.becomeFailed id (Touches.storeTarget id (.refl _ b) (by decide)) (by decide) (by decide)
  rw [targetOf_congr (ht.keeps .mode (by decide)).symm (ht.keeps .items (by decide)).symm]
  exact h.storeTarget.becomeFailed

/-- R68: a label after the rise of a NO_REPLY, from `l` to `m`: FAILED at the retry limit, else UNCERTAIN and queued. -/
structure NoReplied (id : Nat) (a b : Block) (q : List NoticeEntry) (l m : Label) : Prop where
  quietly : Quietly id a b (if a.radio.settings.retryLimit ≤ l.retry then
    noticeQueueAfter .labelFailed (.label id) none a.mode.clock q else q) m
  record : m = { l with target := targetOf b l, state := m.state, queued := m.queued }
  limit : a.radio.settings.retryLimit ≤ l.retry → m.state = .failed ∧ m.queued = none
  below : l.retry < a.radio.settings.retryLimit → m.state = .uncertain ∧ m.queued.map QueuePlace.cls = some (classOf b m)

theorem Quietly.afterNoReply (h : Quietly id a b q l) :
    ∃ m, NoReplied id a (Machine.afterNoReply id (Machine.storeTarget id b)) q l m := by
  have hstored := h.storeTarget
  have hlimit := atRetryLimit_iff (b := Machine.storeTarget id b) (l := { l with target := targetOf b l })
  rw [hstored.radio] at hlimit
  rw [Machine.afterNoReply, withLabel_of_some hstored.own]
  split
  · next hat =>
    have hle := hlimit.1 hat
    exact ⟨_, by rw [if_pos hle]; exact h.storeTarget_becomeFailed, rfl, fun _ => ⟨rfl, rfl⟩,
      fun hlt => absurd hle (Nat.not_le.2 hlt)⟩
  · next hat =>
    have hnle := mt hlimit.2 hat
    obtain ⟨p, hcls, hp⟩ := Requeued.becomeUncertain hstored.own
    have ht : Touches [.labels] b (Machine.becomeUncertain id (Machine.storeTarget id b)) :=
      (Touches.storeTarget id (.refl _ b) (by decide)).trans hp.touches
    refine ⟨_, by rw [if_neg hnle]; exact hstored.trans_silent hp.quietly, ?_, fun hle => absurd hle hnle, fun _ => ⟨rfl, ?_⟩⟩
    · rw [targetOf_congr (ht.keeps .mode (by decide)).symm (ht.keeps .items (by decide)).symm]
    · exact congrArg some (hcls.trans (hp.classOf _).symm)

/-- R68: the record of a label after a rise of its retry count. -/
def raisedLabel (l : Label) : Label := { l with retry := raisedRetry l }

theorem Quietly.outcomeQueryNoReply (h : Quietly id a b q l) (hs : l.state = .uncertain) :
    ∃ m, NoReplied id a (outcomeQueryNoReply id b) q (raisedLabel l) m := by
  rw [Machine.outcomeQueryNoReply, withLabel_of_some h.own, if_pos hs]
  exact (h.put (raisedLabel l)).afterNoReply

/-- R68: a NO_REPLY to an update, and the next binding after it. -/
theorem Quietly.outcomeNoReply (h : Quietly id a b q l) (hs : l.state = .inFlight) : ∃ c k m,
    NoReplied id a c q (raisedLabel l) k ∧ (l.next = none → outcomeNoReply id b = c) ∧
      NextGiven id a (outcomeNoReply id b) (if a.radio.settings.retryLimit ≤ raisedRetry l then
        noticeQueueAfter .labelFailed (.label id) none a.mode.clock q else q) k m := by
  rw [Machine.outcomeNoReply, withLabel_of_some h.own, if_pos hs]
  obtain ⟨k, hk⟩ := (h.put (raisedLabel l)).afterNoReply
  obtain ⟨m, hm⟩ := hk.quietly.nextGiven
  exact ⟨_, k, m, hk, fun hn => applyNext_of_none hk.quietly.own (by rw [hk.record]; exact hn), hm⟩

theorem Quietly.nakCheckRaised (h : Quietly id a b q l) :
    Quietly id a (modifyLabel id (fun m => { m with retry := raisedRetry m }) (Machine.dropInFlight id b)) q (nakCheckLabel l) :=
  h.dropInFlight.modify _

theorem Quietly.afterNakCheck (h : Quietly id a b q l) : Machine.afterNakCheck id b =
    if a.radio.settings.retryLimit ≤ l.retry then Machine.applyNext id (Machine.becomeFailed id (Machine.storeTarget id b))
    else Machine.settle id (Machine.applyNext id b) := by
  rw [Machine.afterNakCheck, withLabel_of_some h.own, ← h.radio]
  exact ite_congr (propext atRetryLimit_iff) (fun _ => rfl) (fun _ => rfl)

/-- R56, R67: a NAK_CHECK at the retry limit, and the next binding after it. -/
theorem Quietly.outcomeNakCheck_limit (h : Quietly id a b q l) (hs : l.state = .inFlight)
    (hr : a.radio.settings.retryLimit ≤ raisedRetry l) : ∃ t m,
    NextGiven id a (outcomeNakCheck id b) (noticeQueueAfter .labelFailed (.label id) none a.mode.clock q)
      { nakCheckLabel l with target := t, state := .failed, queued := none } m ∧
      (l.next = none → t = targetOf (outcomeNakCheck id b) (nakCheckLabel l)) := by
  have hfailed := h.nakCheckRaised.storeTarget_becomeFailed
  obtain ⟨m, hm⟩ := hfailed.nextGiven
  rw [Machine.outcomeNakCheck, withLabel_of_some h.own, if_pos hs, h.nakCheckRaised.afterNakCheck, if_pos (show _ ≤ (nakCheckLabel l).retry from hr)]
  exact ⟨_, m, hm, fun hn => by rw [applyNext_of_none hfailed.own hn]⟩

theorem Quietly.outcomeNakCheck_below (h : Quietly id a b q l) (hs : l.state = .inFlight)
    (hr : raisedRetry l < a.radio.settings.retryLimit) :
    ∃ m, TransactionEnded id a (outcomeNakCheck id b) q (nakCheckLabel l) m := by
  rw [Machine.outcomeNakCheck, withLabel_of_some h.own, if_pos hs, h.nakCheckRaised.afterNakCheck,
    if_neg (show ¬ _ ≤ (nakCheckLabel l).retry from Nat.not_le.2 hr)]
  exact h.nakCheckRaised.settle_applyNext

end Outcomes

end Sys2Proof.Machine

namespace Sys2Proof.Machine

/-! # LABEL_REPLY and REPLY_WINDOW_CLOSE (R97, R99, R100) -/

section Windows

variable {a b c d : Block} {e : PlanEntry} {id g : Nat} {l m n : Label} {q queue : List NoticeEntry} {f : InFlight}
  {y : NextBinding} {failed late : Prop}

/-! ## A report of a tag alone (R65, R66) -/

theorem reportsInFlight_tag : reportsInFlight g none l = some f ↔ l.inFlight = some f ∧ f.ref.tag = g := by
  rw [reportsInFlight_iff]
  exact ⟨fun ⟨hf, ht, _⟩ => ⟨hf, ht⟩, fun ⟨hf, ht⟩ => ⟨hf, ht, rfl⟩⟩

theorem reportsInFlight_tag_none (hf : ∀ f, l.inFlight = some f → f.ref.tag ≠ g) : reportsInFlight g none l = none := by
  rw [Option.eq_none_iff_forall_ne_some]
  intro f h
  obtain ⟨h, ht⟩ := reportsInFlight_tag.1 h
  exact hf f h ht

theorem reportsConfirmed_tag : reportsConfirmed g none l = true ↔ confirmedTag l = g := by
  unfold reportsConfirmed
  rw [Bool.and_eq_true, decide_eq_true_iff, eq_comm]
  cases l.confirmed <;> simp [checkMatches]

/-- R65: what a report makes of the in-flight reference of a label that holds one. -/
theorem ReportResolved.of_inFlight (h : ReportResolved id g none a b q l m) (hf : l.inFlight = some f) :
    (f.ref.tag = g → TransactionEnded id a b q (confirmedLabel f l) m) ∧
    (f.ref.tag ≠ g → confirmedTag l = g → TransactionEnded id a b q (droppedLabel l) m) ∧
    (f.ref.tag ≠ g → confirmedTag l ≠ g → TransactionEnded id a b q (clearedLabel l) m) := by
  have hsome : l.inFlight ≠ none := fun e => nomatch hf.symm.trans e
  have hother (ht : f.ref.tag ≠ g) : reportsInFlight g none l = none :=
    reportsInFlight_tag_none fun x hx => Option.some.inj (hf.symm.trans hx) ▸ ht
  exact ⟨fun ht => h.confirms f (reportsInFlight_tag.2 ⟨hf, ht⟩), fun ht hc => h.drops (hother ht) (reportsConfirmed_tag.2 hc) hsome,
    fun ht hc => h.clears (hother ht) (mt reportsConfirmed_tag.1 hc) fun e => hsome e.2⟩

theorem ReportResolved.next (h : ReportResolved id g none a b q l m) (hy : l.next = some y) (hf : l.inFlight ≠ none) :
    NextTaken a b id l m y q := by
  obtain ⟨f, hf⟩ := Option.ne_none_iff_exists'.1 hf
  obtain ⟨hconfirmed, hdropped, hcleared⟩ := h.of_inFlight hf
  by_cases ht : f.ref.tag = g
  · exact (hconfirmed ht).next y hy
  · by_cases hc : confirmedTag l = g
    · exact (hdropped ht hc).next y hy
    · exact (hcleared ht hc).next y hy

/-- R56, R62, R65: a report leaves a FAILED label FAILED; where it took a reference, the target is stored again (log 59). -/
theorem Quietly.outcomeReport_failed (h : Quietly id a b q l) (hs : l.state = .failed) :
    ∃ m, Quietly id a (outcomeReport id g b) q m ∧
      (l.oversize = false → l.inFlight ≠ none → m.state = .failed ∧ m.inFlight = none ∧ m.target = targetOf (outcomeReport id g b) m) := by
  obtain ⟨k, hk, hflight, hfailed, hoversize, -, -⟩ := h.resolveReport_failed g none hs
  rw [outcomeReport, withLabel_of_some h.own]
  split
  · obtain ⟨m, hm, hr, -, hstanding⟩ := Requeued.retargetLabel hk.own
    refine ⟨m, hk.trans_silent hm.quietly, fun ho _ => ?_⟩
    obtain ⟨hrecord, -, -, -, -, hkept, -⟩ := hr
    have hm' := (hkept hfailed).1 (Or.inl (hoversize.trans ho))
    refine ⟨?_, ?_, (hstanding.congr hm.mode hm.items).target⟩
    · rw [hm']
      exact hfailed
    · rw [hm']
      exact hflight
  · next hnone => exact ⟨k, hk, fun _ hf => absurd ⟨hs, Or.inl (Option.isSome_iff_ne_none.2 hf)⟩ hnone⟩

theorem outcomeReport_eq (hl : getLabel b id = some l) (hs : l.state ≠ .failed) :
    outcomeReport id g b = resolveReport id g none b := by
  rw [outcomeReport, withLabel_of_some hl, if_neg fun e => hs e.1]

/-! ## What an outcome leaves (R66 to R68) -/

/-- R68: the notices after an outcome, `q` being those before: LABEL_FAILED for a label that reached the retry limit. -/
def FailureNoted (failed : Prop) (id : Nat) (a : Block) (q queue : List NoticeEntry) : Prop :=
  (failed → queue = noticeQueueAfter .labelFailed (.label id) none a.mode.clock q) ∧ (¬ failed → queue = q)

theorem FailureNoted.unique {r : List NoticeEntry} (h : FailureNoted failed id a q queue) (g : FailureNoted failed id a q r) :
    r = queue := by
  by_cases hf : failed
  · exact (g.1 hf).trans (h.1 hf).symm
  · exact (g.2 hf).trans (h.2 hf).symm

/-- From `a` to `b` an outcome reached label `id`, whose record `l` became `m`: LATE, or FAILED at the retry limit, or neither. -/
structure Concluded (id : Nat) (a b : Block) (q : List NoticeEntry) (l m : Label) (failed late : Prop) : Prop where
  own : getLabel b id = some m
  others : ∀ j, j ≠ id → getLabel b j = getLabel a j
  composer : b.composer = { a.composer with style := b.composer.style }
  counts : ∀ k, k ≠ .lateOutcome → counterValue b k = counterValue a k
  prompt : ¬ late → counterValue b .lateOutcome = counterValue a .lateOutcome
  moved : late → m = l ∧ counterValue b .lateOutcome = min (counterValue a .lateOutcome + 1) 4294967295
  free : ∀ queue, FailureNoted failed id a q queue → l.next = none → b.mgmt = { a.mgmt with notices := queue }
  next : ∀ queue y, FailureNoted failed id a q queue → l.next = some y → ¬ late → l.state = .inFlight → l.inFlight ≠ none →
    NextTaken a b id l m y queue

theorem OnLabel.counterValue (h : OnLabel id a b m) (k : Counter) : counterValue b k = counterValue a k := by
  rw [Machine.counterValue, Machine.counterValue, h.touches.keeps .counts (by decide)]

theorem OnLabel.concluded (h : OnLabel id a b m) (hl : ¬ late) (hq : FailureNoted failed id a q queue)
    (hfree : l.next = none → b.mgmt = { a.mgmt with notices := queue })
    (hnext : ∀ y, l.next = some y → l.state = .inFlight → l.inFlight ≠ none → NextTaken a b id l m y queue) :
    Concluded id a b q l m failed late where
  own := h.own
  others := h.others
  composer := h.composer
  counts := fun k _ => h.counterValue k
  prompt := fun _ => h.counterValue _
  moved := fun e => absurd e hl
  free := fun _ hr e => hq.unique hr ▸ hfree e
  next := fun _ y hr e _ h1 h2 => hq.unique hr ▸ hnext y e h1 h2

/-- R66: an outcome of a label that has moved on is counted, and changes nothing. -/
theorem Quietly.concluded_late (h : Quietly id a b q l) (hl : late) (hf : ¬ failed) :
    Concluded id a (bump .lateOutcome b) q l l failed late where
  own := h.own
  others := h.others
  composer := h.composer
  counts := fun k hk => (counterValue_bump_other b hk).trans (h.counterValue k)
  prompt := fun e => absurd hl e
  moved := fun _ => ⟨rfl, by rw [counterValue_bump_self, h.counterValue]⟩
  free := fun _ hr _ => (hr.2 hf) ▸ h.mgmt
  next := fun _ _ _ _ e => absurd hl e

theorem ReportResolved.concluded (h : ReportResolved id g none a b q l m) (hf : ¬ failed) (hl : ¬ late) :
    Concluded id a b q l m failed late :=
  h.onLabel.concluded hl ⟨fun e => absurd e hf, fun _ => rfl⟩ h.mgmt fun _ e _ hf => h.next e hf

/-! ## The outcome of the reply taken (R66, R67, R99) -/

/-- R99: the outcome of a window handed to the label of its entry. -/
def handedOn (e : PlanEntry) (a : Block) : Block := handOutcome e (windowOutcome a.radio.taken) a

section Replied

variable (hheard : Quietly e.label a (transmissionHeard e.label a) q n)
include hheard

theorem handedOn_ack (ht : a.radio.taken = some (.ack g)) (hs : n.state = .inFlight) :
    ∃ m, ReportResolved e.label g none a (handedOn e a) q n m := by
  have heq : handedOn e a = resolveReport e.label g none (transmissionHeard e.label a) := by
    rw [handedOn, ht]
    exact outcomeAck_inFlight g hheard.own hs
  rw [heq]
  exact hheard.resolveReport g none (fun e => nomatch hs.symm.trans e)

theorem handedOn_report (ht : a.radio.taken = some (.report g)) (hs : n.state ≠ .failed) :
    ∃ m, ReportResolved e.label g none a (handedOn e a) q n m := by
  have heq : handedOn e a = resolveReport e.label g none (transmissionHeard e.label a) := by
    rw [handedOn, ht]
    exact outcomeReport_eq hheard.own hs
  rw [heq]
  exact hheard.resolveReport g none hs

theorem handedOn_report_failed (ht : a.radio.taken = some (.report g)) (hs : n.state = .failed) :
    ∃ m, Quietly e.label a (handedOn e a) q m ∧
      (n.oversize = false → n.inFlight ≠ none → m.state = .failed ∧ m.inFlight = none ∧ m.target = targetOf (handedOn e a) m) := by
  rw [handedOn, ht]
  exact hheard.outcomeReport_failed hs

theorem handedOn_nakBase (ht : a.radio.taken = some .nakBase) (hs : n.state = .inFlight) :
    ∃ m, TransactionEnded e.label a (handedOn e a) q (nakBaseLabel n) m := by
  rw [handedOn, ht]
  exact hheard.outcomeNakBase hs

theorem handedOn_nakCheck_limit (ht : a.radio.taken = some .nakCheck) (hs : n.state = .inFlight)
    (hr : a.radio.settings.retryLimit ≤ raisedRetry n) : ∃ t m,
    NextGiven e.label a (handedOn e a) (noticeQueueAfter .labelFailed (.label e.label) none a.mode.clock q)
      { nakCheckLabel n with target := t, state := .failed, queued := none } m ∧
      (n.next = none → t = targetOf (handedOn e a) (nakCheckLabel n)) := by
  rw [handedOn, ht]
  exact hheard.outcomeNakCheck_limit hs hr

theorem handedOn_nakCheck_below (ht : a.radio.taken = some .nakCheck) (hs : n.state = .inFlight)
    (hr : raisedRetry n < a.radio.settings.retryLimit) :
    ∃ m, TransactionEnded e.label a (handedOn e a) q (nakCheckLabel n) m := by
  rw [handedOn, ht]
  exact hheard.outcomeNakCheck_below hs hr

theorem handedOn_late
    (ht : a.radio.taken = some .nakBase ∨ a.radio.taken = some .nakCheck ∨ ∃ g, a.radio.taken = some (.ack g))
    (hs : n.state ≠ .inFlight) : handedOn e a = bump .lateOutcome (transmissionHeard e.label a) := by
  rw [handedOn]
  rcases ht with ht | ht | ⟨g, ht⟩ <;> rw [ht]
  · exact outcomeNakBase_late hheard.own hs
  · exact outcomeNakCheck_late hheard.own hs
  · exact outcomeAck_late g hheard.own hs

theorem handedOn_replied {r : RadioReply} (ht : a.radio.taken = some r)
    (hfailed : failed ↔ a.radio.settings.retryLimit ≤ raisedRetry n ∧ r = .nakCheck ∧ n.state = .inFlight)
    (hlate : late ↔ (r = .nakBase ∨ r = .nakCheck ∨ ∃ g, r = .ack g) ∧ n.state ≠ .inFlight) :
    ∃ m, Concluded e.label a (handedOn e a) q n m failed late := by
  have hmoved (hr : r = .nakBase ∨ r = .nakCheck ∨ ∃ g, r = .ack g) (hs : n.state ≠ .inFlight) :
      ∃ m, Concluded e.label a (handedOn e a) q n m failed late := by
    rw [handedOn_late hheard (by simpa only [ht, Option.some.injEq] using hr) hs]
    exact ⟨n, hheard.concluded_late (hlate.2 ⟨hr, hs⟩) fun h => hs (hfailed.1 h).2.2⟩
  have hprompt (hs : n.state = .inFlight) : ¬ late := fun h => (hlate.1 h).2 hs
  have hkept (h : r ≠ .nakCheck) : ¬ failed := fun hf => h (hfailed.1 hf).2.1
  cases r with
  | ack g =>
    by_cases hs : n.state = .inFlight
    · obtain ⟨m, hm⟩ := handedOn_ack hheard ht hs
      exact ⟨m, hm.concluded (hkept (by simp)) (hprompt hs)⟩
    · exact hmoved (by simp) hs
  | nakBase =>
    by_cases hs : n.state = .inFlight
    · obtain ⟨m, hm⟩ := handedOn_nakBase hheard ht hs
      exact ⟨m, hm.onLabel.concluded (hprompt hs) ⟨fun hf => absurd hf (hkept (by simp)), fun _ => rfl⟩
        (fun h => (hm.free h).1) fun y h _ _ => hm.next y h⟩
    · exact hmoved (by simp) hs
  | nakCheck =>
    by_cases hs : n.state = .inFlight
    · by_cases hr : a.radio.settings.retryLimit ≤ raisedRetry n
      · obtain ⟨t, m, hm, -⟩ := handedOn_nakCheck_limit hheard ht hs hr
        exact ⟨m, hm.onLabel.concluded (hprompt hs) ⟨fun _ => rfl, fun hf => absurd (hfailed.2 ⟨hr, rfl, hs⟩) hf⟩
          (fun h => (hm.free h).1) fun y h _ _ => hm.next y h⟩
      · obtain ⟨m, hm⟩ := handedOn_nakCheck_below hheard ht hs (Nat.lt_of_not_le hr)
        exact ⟨m, hm.onLabel.concluded (hprompt hs) ⟨fun hf => absurd (hfailed.1 hf).1 hr, fun _ => rfl⟩
          (fun h => (hm.free h).1) fun y h _ _ => hm.next y h⟩
    · exact hmoved (by simp) hs
  | report g =>
    have hearly : ¬ late := fun h => by simpa using (hlate.1 h).1
    by_cases hs : n.state = .failed
    · obtain ⟨m, hm, -⟩ := handedOn_report_failed hheard ht hs
      exact ⟨m, hm.toOnLabel.concluded hearly ⟨fun hf => absurd hf (hkept (by simp)), fun _ => rfl⟩
        (fun _ => hm.mgmt) fun _ _ h => nomatch hs.symm.trans h⟩
    · obtain ⟨m, hm⟩ := handedOn_report hheard ht hs
      exact ⟨m, hm.concluded (hkept (by simp)) hearly⟩

end Replied

/-! ## The outcome NO_REPLY (R68, R99) -/

theorem handedOn_noReply_query (ht : a.radio.taken = none) (hk : e.kind = .query) :
    handedOn e a = outcomeQueryNoReply e.label (bump .noReplyCount a) := by
  rw [handedOn, ht, windowOutcome, handOutcome, hk]

theorem handedOn_noReply_update (ht : a.radio.taken = none) (hk : e.kind ≠ .query) :
    handedOn e a = outcomeNoReply e.label (bump .noReplyCount a) := by
  rw [handedOn, ht, windowOutcome, handOutcome]
  split
  · next h => exact absurd h hk
  · rfl
  · rfl

/-- R99: whether the label of a window that closes without a reply still waits for one. -/
def AwaitsReply (e : PlanEntry) (l : Label) : Prop :=
  (e.kind ≠ .query ∧ l.state = .inFlight) ∨ (e.kind = .query ∧ l.state = .uncertain)

theorem handedOn_noReply_late (hl : getLabel a e.label = some l) (ht : a.radio.taken = none) (hw : ¬ AwaitsReply e l) :
    handedOn e a = bump .lateOutcome (bump .noReplyCount a) := by
  have hl' : getLabel (bump .noReplyCount a) e.label = some l := hl
  by_cases hk : e.kind = .query
  · rw [handedOn_noReply_query ht hk]
    exact outcomeQueryNoReply_late hl' fun hs => hw (Or.inr ⟨hk, hs⟩)
  · rw [handedOn_noReply_update ht hk]
    exact outcomeNoReply_late hl' fun hs => hw (Or.inl ⟨hk, hs⟩)

/-- R68: a label that waits for a reply where none came: what the rise of its retry count makes of it, and the next binding. -/
theorem handedOn_noReply (hl : getLabel a e.label = some l) (ht : a.radio.taken = none) (hw : AwaitsReply e l) : ∃ c k m,
    NoReplied e.label (bump .noReplyCount a) c a.mgmt.notices (raisedLabel l) k ∧
      OnLabel e.label (bump .noReplyCount a) (handedOn e a) m ∧
      (l.next = none → handedOn e a = c ∧ m = k) ∧
      ∀ y, l.next = some y → l.state = .inFlight → NextTaken (bump .noReplyCount a) (handedOn e a) e.label k m y
        (if a.radio.settings.retryLimit ≤ raisedRetry l then
          noticeQueueAfter .labelFailed (.label e.label) none a.mode.clock a.mgmt.notices else a.mgmt.notices) := by
  have hraised : Quietly e.label (bump .noReplyCount a) (bump .noReplyCount a) a.mgmt.notices l :=
    Quietly.refl (b := bump .noReplyCount a) hl
  rcases hw with ⟨hk, hs⟩ | ⟨hk, hs⟩
  · rw [handedOn_noReply_update ht hk]
    obtain ⟨c, k, m, hc, heq, hm⟩ := hraised.outcomeNoReply hs
    have hnext : k.next = l.next := by rw [hc.record]; rfl
    exact ⟨c, k, m, hc, hm.onLabel, fun h => ⟨heq h, (hm.free (hnext.trans h)).2⟩, fun y h _ => hm.next y (hnext.trans h)⟩
  · rw [handedOn_noReply_query ht hk]
    obtain ⟨m, hm⟩ := hraised.outcomeQueryNoReply hs
    exact ⟨_, m, m, hm, hm.quietly.toOnLabel, fun _ => ⟨rfl, rfl⟩, fun _ _ h => nomatch hs.symm.trans h⟩

theorem handedOn_unanswered (hl : getLabel a e.label = some l) (ht : a.radio.taken = none)
    (hfailed : failed ↔ a.radio.settings.retryLimit ≤ raisedRetry l ∧ AwaitsReply e l) (hlate : late ↔ ¬ AwaitsReply e l) :
    ∃ m, Concluded e.label (bump .noReplyCount a) (handedOn e a) a.mgmt.notices l m failed late := by
  by_cases hw : AwaitsReply e l
  · obtain ⟨c, k, m, hc, hm, hfree, hnext⟩ := handedOn_noReply hl ht hw
    have hlimit : a.radio.settings.retryLimit ≤ raisedRetry l ↔ failed := by simp [hfailed, hw]
    have hnoted : FailureNoted failed e.label (bump .noReplyCount a) a.mgmt.notices (if a.radio.settings.retryLimit ≤ raisedRetry l
        then noticeQueueAfter .labelFailed (.label e.label) none a.mode.clock a.mgmt.notices else a.mgmt.notices) :=
      ⟨fun hf => if_pos (hlimit.2 hf), fun hf => if_neg (mt hlimit.1 hf)⟩
    refine ⟨m, hm.concluded (fun h => hlate.1 h hw) hnoted (fun h => ?_) fun y h hs _ => ?_⟩
    · rw [(hfree h).1]
      exact hc.quietly.mgmt
    · have htaken := hnext y h hs
      rw [hc.record] at htaken
      exact htaken
  · rw [handedOn_noReply_late hl ht hw]
    exact ⟨l, (Quietly.refl (b := bump .noReplyCount a) hl).concluded_late (hlate.2 hw) fun h => hw (hfailed.1 h).2⟩

/-! ## A window that closes (R97, R99) -/

theorem handedOn_absent (hl : getLabel a e.label = none) :
    handedOn e a = if a.radio.taken = none then bump .noReplyCount a else a := by
  have hheard : transmissionHeard e.label a = a := withLabel_of_none hl _
  cases ht : a.radio.taken with
  | none =>
    by_cases hk : e.kind = .query
    · rw [handedOn_noReply_query ht hk]
      exact withLabel_of_none (b := bump .noReplyCount a) hl _
    · rw [handedOn_noReply_update ht hk]
      exact withLabel_of_none (b := bump .noReplyCount a) hl _
  | some r =>
    rw [handedOn, ht]
    cases r <;> simp only [windowOutcome, replyOutcome, handOutcome, hheard] <;> exact withLabel_of_none hl _

/-- R99: what handing a window's outcome on leaves alone, and the counter of the windows without a reply. -/
structure OutcomeHanded (e : PlanEntry) (a b : Block) : Prop where
  others : ∀ j, j ≠ e.label → getLabel b j = getLabel a j
  buffer : b.composer.buffer = a.composer.buffer
  counts : ∀ k, k ≠ .noReplyCount → k ≠ .lateOutcome → counterValue b k = counterValue a k
  noReply : counterValue b .noReplyCount = (if a.radio.taken = none then min (counterValue a .noReplyCount + 1) 4294967295
    else counterValue a .noReplyCount)

theorem Concluded.handed (h : Concluded e.label d b q l m failed late)
    (hd : d = if a.radio.taken = none then bump .noReplyCount a else a) : OutcomeHanded e a b := by
  have hbuffer : b.composer.buffer = d.composer.buffer := by rw [h.composer]
  have hnoReply := h.counts .noReplyCount (by decide)
  split at hd
  · next ht =>
    subst hd
    refine ⟨h.others, hbuffer, fun k h1 h2 => (h.counts k h2).trans (counterValue_bump_other a h1), ?_⟩
    rw [if_pos ht, hnoReply, counterValue_bump_self]
  · next ht =>
    subst hd
    exact ⟨h.others, hbuffer, fun k _ h2 => h.counts k h2, by rw [if_neg ht, hnoReply]⟩

theorem handedOn_handed (e : PlanEntry) (a : Block) : OutcomeHanded e a (handedOn e a) := by
  cases hl : getLabel a e.label with
  | none =>
    rw [handedOn_absent hl]
    split
    · next ht => exact ⟨fun _ _ => rfl, rfl, fun k h1 _ => counterValue_bump_other a h1, by rw [if_pos ht, counterValue_bump_self]⟩
    · next ht => exact ⟨fun _ _ => rfl, rfl, fun _ _ _ => rfl, by rw [if_neg ht]⟩
  | some l =>
    cases ht : a.radio.taken with
    | none =>
      obtain ⟨m, hm⟩ := handedOn_unanswered hl ht Iff.rfl Iff.rfl
      exact hm.handed (by rw [if_pos ht])
    | some r =>
      obtain ⟨m, hm⟩ := handedOn_replied (quietly_transmissionHeard hl) ht Iff.rfl Iff.rfl
      exact hm.handed (by simp [ht])

/-- R96, R97: the block as a window closed with entry `e` leaves it. -/
def afterWindow (e : PlanEntry) (a : Block) : Block :=
  beginTransaction (recordOutcome (windowOutcome a.radio.taken) (handedOn e a))

theorem replyWindowClose_open (he : a.radio.plan[a.radio.cursor]? = some e) : replyWindowClose a = afterWindow e a := by
  have hopen : replyWindowOpen a = true := decide_eq_true (List.getElem?_eq_some_iff.1 he).1
  rw [replyWindowClose, if_pos hopen, closeWindow, currentEntry, he]
  rfl

theorem replyWindowClose_noWindow (h : a.radio.plan.length ≤ a.radio.cursor) : replyWindowClose a = a :=
  if_neg (by simpa [replyWindowOpen] using h)

theorem afterWindow_touches (e : PlanEntry) (a : Block) : Touches [.radio, .counts, .out] (handedOn e a) (afterWindow e a) :=
  Touches.beginTransaction (Touches.recordOutcome _ (.refl _ _) (by decide)) (by decide) (by decide)

theorem afterWindow_counts (e : PlanEntry) (a : Block) {k : Counter} (h1 : k ≠ .updatesSent) (h2 : k ≠ .queriesSent)
    (h3 : k ≠ .fragmentsSent) : counterValue (afterWindow e a) k = counterValue (handedOn e a) k :=
  beginTransaction_counts _ h1 h2 h3

theorem handedOn_touches (e : PlanEntry) (a : Block) : Touches [.labels, .items, .composer, .mgmt, .counts] a (handedOn e a) := by
  apply Touches.handOutcome _ _ (.refl _ a) <;> decide

theorem afterWindow_radio (e : PlanEntry) (a : Block) : (afterWindow e a).radio = { a.radio with
    plan := a.radio.plan.modify a.radio.cursor (fun x => { x with outcome := some (windowOutcome a.radio.taken) })
    cursor := a.radio.cursor + 1
    taken := none } := by
  have hradio : (handedOn e a).radio = a.radio := ((handedOn_touches e a).keeps .radio (by decide)).symm
  rw [afterWindow, ← (beginTransaction_touches _).keeps .radio (by decide), recordOutcome_radio, hradio]

theorem transmitted_afterWindow (e : PlanEntry) (a : Block) :
    Transmitted a.radio.plan[a.radio.cursor + 1]? a (afterWindow e a) := by
  have hradio : (handedOn e a).radio = a.radio := ((handedOn_touches e a).keeps .radio (by decide)).symm
  have hentry : currentEntry (recordOutcome (windowOutcome a.radio.taken) (handedOn e a)) = a.radio.plan[a.radio.cursor + 1]? := by
    rw [currentEntry, recordOutcome_radio, hradio]
    exact List.getElem?_modify_ne _ _ (Nat.succ_ne_self _).symm
  rw [← hentry]
  have hhanded := handedOn_handed e a
  refine (transmitted_beginTransaction _).of_start ((handedOn_touches e a).keeps .out (by decide)).symm hhanded.buffer ?_
  rintro k (rfl | rfl | rfl) <;> exact hhanded.counts _ (by decide) (by decide)

/-! ## What the window's outcome makes of its label (R61, R65 to R68) -/

/-- A block that differs from one in the radio, the counters and the outputs alone settles its labels alike. -/
theorem NextTaken.later (h : NextTaken a c id l m y q) (hb : Touches [.radio, .counts, .out] c b) : NextTaken a b id l m y q := by
  have hmgmt : b.mgmt = c.mgmt := (hb.keeps .mgmt (by decide)).symm
  have hset : SettledIn c m → SettledIn b m :=
    settledIn_congr (hb.keeps .mode (by decide)).symm (hb.keeps .items (by decide)).symm
  obtain ⟨hnext, hbind, hunbind⟩ := h
  have hunbound (hu : UnboundFrom c l m) : UnboundFrom b l m := ⟨hu.item, fun h => (hu.given h).imp_left hset⟩
  refine nextTaken_of (fun code t hy => ⟨fun hs => ?_, fun hs => ?_⟩) (fun hy => ?_) hnext
  · obtain ⟨hm, hi, ht, hgiven⟩ := (hbind code t _ hy Iff.rfl).1 hs
    exact ⟨hmgmt.trans hm, hi, ht, fun h => (hgiven h).imp_left hset⟩
  · obtain ⟨hm, hi, hgiven⟩ := (hbind code t _ hy Iff.rfl).2 hs
    exact ⟨hmgmt.trans hm, hunbound ⟨hi, hgiven⟩⟩
  · obtain ⟨hm, hi, hgiven⟩ := hunbind hy
    exact ⟨hmgmt.trans hm, hunbound ⟨hi, hgiven⟩⟩

end Windows

end Sys2Proof.Machine

namespace Sys2Proof.Machine

/-! # The label of a window that closed (R61, R65 to R68, R99) -/

section WindowLabel

variable {a b c : Block} {e : PlanEntry} {id g : Nat} {l m n k : Label} {q queue : List NoticeEntry} {f : InFlight}
  {failed late : Prop}

theorem settledIn_afterWindow (h : SettledIn (handedOn e a) m) : SettledIn (afterWindow e a) m :=
  settledIn_congr ((afterWindow_touches e a).keeps .mode (by decide)).symm ((afterWindow_touches e a).keeps .items (by decide)).symm h

theorem targetOf_afterWindow (l : Label) : targetOf (afterWindow e a) l = targetOf (handedOn e a) l :=
  targetOf_congr ((afterWindow_touches e a).keeps .mode (by decide)).symm ((afterWindow_touches e a).keeps .items (by decide)).symm l

theorem classOf_afterWindow (l : Label) : classOf (afterWindow e a) l = classOf (handedOn e a) l :=
  classOf_congr ((afterWindow_touches e a).keeps .items (by decide)).symm l

theorem getLabel_afterWindow (id : Nat) : getLabel (afterWindow e a) id = getLabel (handedOn e a) id := by
  rw [getLabel, getLabel, (afterWindow_touches e a).keeps .labels (by decide)]

theorem afterWindow_mgmt (e : PlanEntry) (a : Block) : (afterWindow e a).mgmt = (handedOn e a).mgmt :=
  ((afterWindow_touches e a).keeps .mgmt (by decide)).symm

section Replied

variable (hheard : Quietly e.label a (transmissionHeard e.label a) q n) (hm : getLabel (handedOn e a) e.label = some m)
  (hnext : n.next = none)
include hheard hm hnext

/-- R65, R66: an ACK, or a report, of a label that held an in-flight reference. -/
theorem replied_inFlight (hs : a.radio.taken = some (.ack g) ∧ n.state = .inFlight ∨
      a.radio.taken = some (.report g) ∧ n.state ≠ .failed) (hf : n.inFlight = some f) :
    SettledIn (afterWindow e a) m ∧
    (f.ref.tag = g → m = { confirmedLabel f n with target := m.target, state := m.state, queued := m.queued }) ∧
    (f.ref.tag ≠ g → confirmedTag n = g → m = { droppedLabel n with target := m.target, state := m.state, queued := m.queued }) ∧
    (f.ref.tag ≠ g → confirmedTag n ≠ g →
      m = { clearedLabel n with target := m.target, state := m.state, queued := m.queued }) := by
  have hresolved : ∃ m, ReportResolved e.label g none a (handedOn e a) q n m := by
    rcases hs with ⟨ht, hs⟩ | ⟨ht, hs⟩
    · exact handedOn_ack hheard ht hs
    · exact handedOn_report hheard ht hs
  obtain ⟨m', hr⟩ := hresolved
  obtain rfl : m' = m := Option.some.inj (hr.onLabel.own.symm.trans hm)
  obtain ⟨hconfirmed, hdropped, hcleared⟩ := hr.of_inFlight hf
  refine ⟨settledIn_afterWindow ?_, fun ht => ((hconfirmed ht).free hnext).2.2, fun ht hc => ((hdropped ht hc).free hnext).2.2,
    fun ht hc => ((hcleared ht hc).free hnext).2.2⟩
  by_cases ht : f.ref.tag = g
  · exact ((hconfirmed ht).free hnext).2.1
  · by_cases hc : confirmedTag n = g
    · exact ((hdropped ht hc).free hnext).2.1
    · exact ((hcleared ht hc).free hnext).2.1

/-- R65: a report of a label that held no in-flight reference. -/
theorem reported_free (ht : a.radio.taken = some (.report g)) (hs : n.state ≠ .failed) (hf : n.inFlight = none) :
    (confirmedTag n = g → n.state ≠ .uncertain → m = n) ∧
    (confirmedTag n ≠ g → n.item = none → m = { n with displayKnown := false }) ∧
    (confirmedTag n ≠ g → n.item ≠ none → SettledIn (afterWindow e a) m ∧ m = { n with
      confirmed := none, displayKnown := false, marks := { n.marks with fullRequired := true },
      target := m.target, state := m.state, queued := m.queued }) := by
  obtain ⟨m', hr⟩ := handedOn_report hheard ht hs
  obtain rfl : m' = m := Option.some.inj (hr.onLabel.own.symm.trans hm)
  have hno : reportsInFlight g none n = none := reportsInFlight_tag_none fun f h => nomatch hf.symm.trans h
  refine ⟨fun hc hu => hr.known hno (reportsConfirmed_tag.2 hc) hf hu,
    fun hc hi => hr.unknown hno (mt reportsConfirmed_tag.1 hc) hi hf, fun hc hi => ?_⟩
  obtain ⟨-, hset, hm'⟩ := (hr.clears hno (mt reportsConfirmed_tag.1 hc) fun h => hi h.1).free hnext
  refine ⟨settledIn_afterWindow hset, hm'.trans ?_⟩
  simp only [clearedLabel, marksRestored, hf]

/-- R67: a NAK_BASE. -/
theorem nakBase_label (ht : a.radio.taken = some .nakBase) (hs : n.state = .inFlight) : SettledIn (afterWindow e a) m ∧
    m = { nakBaseLabel n with target := m.target, state := m.state, queued := m.queued } := by
  obtain ⟨m', hr⟩ := handedOn_nakBase hheard ht hs
  obtain rfl : m' = m := Option.some.inj (hr.onLabel.own.symm.trans hm)
  obtain ⟨-, hset, hm'⟩ := hr.free hnext
  exact ⟨settledIn_afterWindow hset, hm'⟩

/-- R56, R67: a NAK_CHECK. -/
theorem nakCheck_label (ht : a.radio.taken = some .nakCheck) (hs : n.state = .inFlight) :
    m = { nakCheckLabel n with target := targetOf (afterWindow e a) m, state := m.state, queued := m.queued } ∧
    (a.radio.settings.retryLimit ≤ raisedRetry n → m.state = .failed ∧ m.queued = none) ∧
    (raisedRetry n < a.radio.settings.retryLimit → SettledIn (afterWindow e a) m) := by
  by_cases hr : a.radio.settings.retryLimit ≤ raisedRetry n
  · obtain ⟨t, m', hg, htarget⟩ := handedOn_nakCheck_limit hheard ht hs hr
    obtain rfl : m' = m := Option.some.inj (hg.onLabel.own.symm.trans hm)
    obtain ⟨-, rfl⟩ := hg.free hnext
    refine ⟨?_, fun _ => ⟨rfl, rfl⟩, fun h => absurd hr (Nat.not_le.2 h)⟩
    rw [targetOf_afterWindow, htarget hnext]
    rfl
  · obtain ⟨m', hg⟩ := handedOn_nakCheck_below hheard ht hs (Nat.lt_of_not_le hr)
    obtain rfl : m' = m := Option.some.inj (hg.onLabel.own.symm.trans hm)
    obtain ⟨-, hset, hm'⟩ := hg.free hnext
    refine ⟨?_, fun h => absurd h hr, fun _ => settledIn_afterWindow hset⟩
    rw [← (settledIn_afterWindow hset).1]
    exact hm'

end Replied

/-- R56, R68: a window without a reply. -/
theorem unanswered_label (hl : getLabel a e.label = some l) (hm : getLabel (handedOn e a) e.label = some m)
    (hnext : l.next = none) (ht : a.radio.taken = none) (hw : AwaitsReply e l) :
    m = { raisedLabel l with target := targetOf (afterWindow e a) m, state := m.state, queued := m.queued } ∧
    (a.radio.settings.retryLimit ≤ raisedRetry l → m.state = .failed ∧ m.queued = none) ∧
    (raisedRetry l < a.radio.settings.retryLimit → m.state = .uncertain ∧
      m.queued.map QueuePlace.cls = some (classOf (afterWindow e a) m)) := by
  obtain ⟨c, k, m', hc, ho, hfree, -⟩ := handedOn_noReply hl ht hw
  obtain rfl : m' = m := Option.some.inj (ho.own.symm.trans hm)
  obtain ⟨rfl, rfl⟩ := hfree hnext
  rw [targetOf_afterWindow, classOf_afterWindow]
  refine ⟨?_, hc.limit, hc.below⟩
  have htarget : targetOf (handedOn e a) m' = targetOf (handedOn e a) (raisedLabel l) :=
    targetOf_of_binding (by rw [hc.record]) (by rw [hc.record])
  rw [htarget]
  exact hc.record

theorem late_afterWindow (e : PlanEntry) (a : Block) :
    counterValue (afterWindow e a) .lateOutcome = counterValue (handedOn e a) .lateOutcome :=
  afterWindow_counts e a (by decide) (by decide) (by decide)

/-- R66, R67: an ACK or NAK of a label that has moved on. -/
theorem late_label (hheard : Quietly e.label a (transmissionHeard e.label a) q n)
    (hm : getLabel (handedOn e a) e.label = some m)
    (ht : a.radio.taken = some .nakBase ∨ a.radio.taken = some .nakCheck ∨ ∃ g, a.radio.taken = some (.ack g))
    (hs : n.state ≠ .inFlight) :
    m = n ∧ counterValue (afterWindow e a) .lateOutcome = min (counterValue a .lateOutcome + 1) 4294967295 := by
  have hlate := hheard.concluded_late (late := True) (failed := False) trivial fun e => e
  rw [← handedOn_late hheard ht hs] at hlate
  rw [late_afterWindow]
  exact ⟨Option.some.inj (hm.symm.trans hlate.own), (hlate.moved trivial).2⟩

/-- R68: a window without a reply whose label waits for none. -/
theorem unawaited_label (hl : getLabel a e.label = some l) (hm : getLabel (handedOn e a) e.label = some m)
    (ht : a.radio.taken = none) (hw : ¬ AwaitsReply e l) :
    m = l ∧ counterValue (afterWindow e a) .lateOutcome = min (counterValue a .lateOutcome + 1) 4294967295 := by
  have heq := handedOn_noReply_late hl ht hw
  have hown : getLabel (handedOn e a) e.label = some l := by rw [heq]; exact hl
  refine ⟨Option.some.inj (hm.symm.trans hown), ?_⟩
  rw [late_afterWindow, heq, counterValue_bump_self, counterValue_bump_other _ (by decide)]

theorem handedOn_own (hl : getLabel a e.label = some l) : ∃ m, getLabel (handedOn e a) e.label = some m := by
  cases ht : a.radio.taken with
  | none =>
    obtain ⟨m, hm⟩ := handedOn_unanswered hl ht Iff.rfl Iff.rfl
    exact ⟨m, hm.own⟩
  | some r =>
    obtain ⟨m, hm⟩ := handedOn_replied (quietly_transmissionHeard hl) ht Iff.rfl Iff.rfl
    exact ⟨m, hm.own⟩

/-- R99: what the window's outcome counts, queues as a notice, and applies of the label's next binding. -/
theorem concluded_afterWindow (h : Concluded id b (handedOn e a) q l m failed late) (hnote : FailureNoted failed id b q queue) :
    (l.next = none → (afterWindow e a).mgmt = { b.mgmt with notices := queue }) ∧
    (¬ late → counterValue (afterWindow e a) .lateOutcome = counterValue b .lateOutcome) ∧
    ∀ y, l.next = some y → ¬ late → l.state = .inFlight → l.inFlight ≠ none →
      NextTaken b (afterWindow e a) id l m y queue := by
  exact ⟨fun hn => (afterWindow_mgmt e a).trans (h.free queue hnote hn), fun hl => (late_afterWindow e a).trans (h.prompt hl),
    fun y hy hl hs hf => (h.next queue y hnote hy hl hs hf).later (afterWindow_touches e a)⟩

/-! ## LABEL_REPLY (R99, R100) -/

theorem labelReply_unsound {t : ReplyTransmission} (ht : t.sound = false) : labelReply t a = bump .replyError a := by
  simp [labelReply, ht]

theorem labelReply_outside {t : ReplyTransmission} (ht : t.sound = true) (h : a.radio.plan.length ≤ a.radio.cursor) :
    labelReply t a = bump .strayReply a := by
  have he : currentEntry a = none := List.getElem?_eq_none h
  simp [labelReply, ht, he]

theorem labelReply_window {t : ReplyTransmission} (ht : t.sound = true) (he : a.radio.plan[a.radio.cursor]? = some e) :
    labelReply t a = takeReply e t a := by
  simp [labelReply, ht, currentEntry, he]

theorem replyBelongs_iff (k : EntryKind) (r : RadioReply) : replyBelongs k r = true ↔ (k = .query ↔ ∃ g, r = .report g) := by
  cases k <;> cases r <;> simp [replyBelongs]

theorem takeReply_belongs {t : ReplyTransmission} (hid : e.label = t.label) (hk : e.kind = .query ↔ ∃ g, t.reply = .report g) :
    takeReply e t a = if a.radio.taken = none then { a with radio := { a.radio with taken := some t.reply } }
      else bump .duplicateReply a := by
  rw [takeReply, if_pos ⟨hid, (replyBelongs_iff _ _).2 hk⟩]
  exact ite_congr (propext Option.isNone_iff_eq_none) (fun _ => rfl) (fun _ => rfl)

theorem takeReply_stray {t : ReplyTransmission}
    (h : e.label ≠ t.label ∨ ¬ (e.kind = .query ↔ ∃ g, t.reply = .report g)) : takeReply e t a = bump .strayReply a := by
  refine if_neg fun hb => ?_
  obtain ⟨hid, hk⟩ := hb
  exact h.elim (fun h => h hid) fun h => h ((replyBelongs_iff _ _).1 hk)

/-- Settles O34: the window's outcome handed on, by the reply taken and the label's state; then the transaction begun of the
entry after it. -/
theorem repliesAreTakenInTheirWindowAndHandedOnAtItsClose : Obligations.RepliesAreTakenInTheirWindowAndHandedOnAtItsClose := by
  unfold Obligations.RepliesAreTakenInTheirWindowAndHandedOnAtItsClose
  refine ⟨fun t s => ?_, fun s h => ?_, fun s e he => ?_⟩
  · simp only [exec_eq_effect, effect]
    refine ⟨fun ht => by rw [labelReply_unsound ht], fun ht => ⟨fun h => by rw [labelReply_outside ht h], fun e he => ?_⟩⟩
    rw [labelReply_window ht he]
    refine ⟨fun h => by rw [takeReply_stray h], fun hid hk => ?_⟩
    rw [takeReply_belongs hid hk]
    exact ⟨fun h => by rw [if_pos h], fun h => by rw [if_neg h]⟩
  · rw [exec_eq_effect, effect, replyWindowClose_noWindow h]
  · have hhanded := handedOn_handed e s.block
    have htouches : Touches [.radio, .labels, .items, .composer, .mgmt, .counts, .out] s.block (afterWindow e s.block) :=
      ((handedOn_touches e s.block).mono (by decide)).trans ((afterWindow_touches e s.block).mono (by decide))
    refine ⟨afterWindow e s.block, by rw [exec_eq_effect, effect, replyWindowClose_open he], htouches, afterWindow_radio e _,
      fun j hj => (getLabel_afterWindow j).trans (hhanded.others j hj), transmitted_afterWindow e _,
      (afterWindow_counts e _ (by decide) (by decide) (by decide)).trans hhanded.noReply,
      fun k h1 h2 h3 h4 h5 => (afterWindow_counts e _ h1 h2 h3).trans (hhanded.counts k h4 h5), fun hl => ?_,
      fun l heard queue failed late hl hheard hfailed hqf hqk hlate => ?_, fun l n hl hn hnext => ?_⟩
    · rw [afterWindow_mgmt, handedOn_absent hl]
      split <;> rfl
    · cases ht : s.block.radio.taken with
      | none =>
        rw [if_pos ht] at hheard
        subst hheard
        have hlate' : late ↔ ¬ AwaitsReply e l := by
          rw [hlate, AwaitsReply]
          by_cases hk : e.kind = .query <;> simp [ht, hk]
        have hfailed' : failed ↔ s.block.radio.settings.retryLimit ≤ raisedRetry l ∧ AwaitsReply e l := by
          simpa [ht, AwaitsReply, raisedRetry] using hfailed
        obtain ⟨m, hm⟩ := handedOn_unanswered hl ht hfailed' hlate'
        obtain ⟨hfree, hprompt, htaken⟩ := concluded_afterWindow hm ⟨hqf, hqk⟩
        refine ⟨hfree, fun h => (hprompt h).trans (counterValue_bump_other _ (by decide)),
          fun y hy hs hf hk => ⟨m, (getLabel_afterWindow _).trans hm.own, ?_⟩⟩
        exact htaken y hy (fun h => hlate'.1 h (Or.inl ⟨hk rfl, hs⟩)) hs hf
      | some r =>
        rw [if_neg (by simp [ht])] at hheard
        subst hheard
        obtain ⟨p, k, hrecord⟩ := heardLabel_eq s.block.radio.cycle l
        have hn := quietly_transmissionHeard hl
        rw [hrecord] at hn
        have hfailed' : failed ↔ s.block.radio.settings.retryLimit ≤ raisedRetry l ∧ r = .nakCheck ∧ l.state = .inFlight := by
          simpa [ht, raisedRetry] using hfailed
        have hlate' : late ↔ (r = .nakBase ∨ r = .nakCheck ∨ ∃ g, r = .ack g) ∧ l.state ≠ .inFlight := by
          simpa [ht] using hlate
        obtain ⟨m, hm⟩ := handedOn_replied hn ht hfailed' hlate'
        obtain ⟨hfree, hprompt, htaken⟩ := concluded_afterWindow hm ⟨hqf, hqk⟩
        exact ⟨hfree, hprompt, fun y hy hs hf _ => ⟨m, (getLabel_afterWindow _).trans hm.own,
          htaken y hy (fun h => (hlate'.1 h).2 hs) hs hf⟩⟩
    · obtain ⟨p, k, hrecord⟩ := heardLabel_eq s.block.radio.cycle l
      have hheard := quietly_transmissionHeard hl
      rw [hrecord] at hheard hn
      subst hn
      obtain ⟨m, hm⟩ := handedOn_own hl
      refine ⟨m, (getLabel_afterWindow _).trans hm, fun g f hs hf => ?_, fun g ht hs hf => reported_free hheard hm hnext ht hs hf,
        fun g f ht hs ho hf => ?_, fun f ht hs hf => ?_, fun f ht hs hf => ?_, fun ht hw => unanswered_label hl hm hnext ht hw,
        fun ht hs => late_label hheard hm ht hs, fun ht hq hu => unawaited_label hl hm ht ?_⟩
      · obtain ⟨hset, hconfirmed, hdropped, hcleared⟩ := replied_inFlight hheard hm hnext hs hf
        refine ⟨hset, fun ht => ?_, fun ht hc => ?_, fun ht hc => ?_⟩
        · rw [confirmedLabel_eq] at hconfirmed
          exact hconfirmed ht
        · simpa only [droppedLabel, marksRestored, hf] using hdropped ht hc
        · simpa only [clearedLabel, marksRestored, hf] using hcleared ht hc
      · obtain ⟨m', hm', hfailed⟩ := handedOn_report_failed hheard ht hs
        obtain rfl : m' = m := Option.some.inj (hm'.own.symm.trans hm)
        rw [targetOf_afterWindow]
        exact hfailed ho fun h => nomatch hf.symm.trans h
      · obtain ⟨hset, hm'⟩ := nakBase_label hheard hm hnext ht hs
        refine ⟨hset, ?_⟩
        simpa only [nakBaseLabel, droppedLabel, marksRestored, hf, joinMarks] using hm'
      · obtain ⟨hm', hlimit⟩ := nakCheck_label hheard hm hnext ht hs
        refine ⟨?_, hlimit⟩
        simpa only [nakCheckLabel, droppedLabel, raisedRetry, marksRestored, hf, joinMarks] using hm'
      · exact fun h => h.elim (fun h => hu h.1 h.2) fun h => hq h.1 h.2

end WindowLabel

end Sys2Proof.Machine

namespace Sys2Proof.Machine

/-! # The beginning of a slot (R70, R90, R93, R105) -/

section SlotBeginning

variable {a b c : Block} {id cycle : Nat} {l m : Label} {ids : List Nat}

/-! ## The presence check (R70) -/

theorem goesLost_iff : goesLost cycle l = true ↔
    l.present = true ∧ ∃ k, l.heard = some k ∧ 33 ≤ (cycle + 65536 - k) % 65536 := by
  unfold goesLost cyclesSince
  cases l.heard <;> simp

/-- R70: the record of a label after the presence check of cycle `c`. -/
def presenceLabel (c : Nat) (l : Label) : Label :=
  if goesLost c l then { clearOldCandidate c l with present := false, lostCount := min (l.lostCount + 1) 65535 }
  else clearOldCandidate c l

theorem clearOldCandidate_eq (cycle : Nat) (l : Label) : ∃ k, clearOldCandidate cycle l = { l with candidate := k } := by
  unfold clearOldCandidate
  (repeat' split) <;> exact ⟨_, rfl⟩

theorem clearOldCandidate_idem (cycle : Nat) (l : Label) :
    clearOldCandidate cycle (clearOldCandidate cycle l) = clearOldCandidate cycle l := by
  cases hk : l.candidate with
  | none => simp [clearOldCandidate, hk]
  | some k => by_cases hlate : 16 < cyclesSince cycle k <;> simp [clearOldCandidate, hk, hlate]

theorem clearOldCandidate_lost (cycle n : Nat) (l : Label) :
    clearOldCandidate cycle { l with present := false, lostCount := n } =
      { clearOldCandidate cycle l with present := false, lostCount := n } := by
  cases hk : l.candidate with
  | none => simp [clearOldCandidate, hk]
  | some k => by_cases hlate : 16 < cyclesSince cycle k <;> simp [clearOldCandidate, hk, hlate]

theorem presenceLabel_lost (h : goesLost cycle l = true) : presenceLabel cycle l =
    { clearOldCandidate cycle l with present := false, lostCount := min (l.lostCount + 1) 65535 } := if_pos h

theorem presenceLabel_kept (h : ¬ goesLost cycle l = true) : presenceLabel cycle l = clearOldCandidate cycle l := if_neg h

theorem presenceLabel_eq (cycle : Nat) (l : Label) : ∃ p n k,
    presenceLabel cycle l = { l with present := p, lostCount := n, candidate := k } := by
  obtain ⟨k, hk⟩ := clearOldCandidate_eq cycle l
  unfold presenceLabel
  rw [hk]
  split <;> exact ⟨_, _, _, rfl⟩

/-- R70: a label that has gone LOST does not go LOST again. -/
theorem presenceLabel_idem (cycle : Nat) (l : Label) :
    presenceLabel cycle (presenceLabel cycle l) = presenceLabel cycle l := by
  by_cases h : goesLost cycle l = true
  · rw [presenceLabel_lost h, presenceLabel_kept (by simp [goesLost]), clearOldCandidate_lost, clearOldCandidate_idem]
  · have hkept : ¬ goesLost cycle (clearOldCandidate cycle l) = true := by
      obtain ⟨k, hk⟩ := clearOldCandidate_eq cycle l
      rw [hk]
      exact h
    rw [presenceLabel_kept h, presenceLabel_kept hkept, clearOldCandidate_idem]

theorem presenceAtCycle_of_some (hl : getLabel b id = some l) : presenceAtCycle cycle id b =
    (if goesLost cycle l then notice .labelLost (.label id) (putLabel id (presenceLabel cycle l) b)
     else putLabel id (presenceLabel cycle l) b) := by
  rw [presenceAtCycle, withLabel_of_some hl, presenceLabel]
  split <;> rfl

theorem presenceAtCycle_getLabel (cycle id j : Nat) (b : Block) : getLabel (presenceAtCycle cycle id b) j =
    if j = id then (getLabel b j).map (presenceLabel cycle) else getLabel b j := by
  cases hl : getLabel b id with
  | none =>
    rw [presenceAtCycle, withLabel_of_none hl]
    split
    · next h => rw [h, hl]; rfl
    · rfl
  | some l =>
    have hput : getLabel (presenceAtCycle cycle id b) j = getLabel (putLabel id (presenceLabel cycle l) b) j := by
      rw [presenceAtCycle_of_some hl]
      split <;> rfl
    rw [hput]
    split
    · next h => rw [h, hl, getLabel_putLabel_self]; rfl
    · next h => exact getLabel_putLabel_other b _ h

theorem presenceAtCycle_mgmt (cycle id : Nat) (b : Block) : (presenceAtCycle cycle id b).mgmt =
    { b.mgmt with notices := if (getLabel b id).any (goesLost cycle) then
      noticeQueueAfter .labelLost (.label id) none b.mode.clock b.mgmt.notices else b.mgmt.notices } := by
  cases hl : getLabel b id with
  | none =>
    rw [presenceAtCycle, withLabel_of_none hl]
    rfl
  | some l =>
    rw [presenceAtCycle_of_some hl, Option.any_some]
    split
    · rw [notice_mgmt]
      rfl
    · rfl

theorem presenceAtCycle_nextJoin (cycle id : Nat) (b : Block) :
    (presenceAtCycle cycle id b).labels.nextJoin = b.labels.nextJoin := by
  cases hl : getLabel b id with
  | none => rw [presenceAtCycle, withLabel_of_none hl]
  | some l =>
    rw [presenceAtCycle_of_some hl]
    split <;> rfl

/-- R70: some labels at the beacon that begins a cycle. -/
def presenceOf (cycle : Nat) (ids : List Nat) (b : Block) : Block :=
  ids.foldl (fun acc id => presenceAtCycle cycle id acc) b

theorem presenceOf_touches (cycle : Nat) (ids : List Nat) (b : Block) : Touches [.labels, .mgmt] b (presenceOf cycle ids b) :=
  Touches.foldl (fun id _ hd => Touches.presenceAtCycle cycle id hd (by decide) (by decide)) _ (.refl _ b)

theorem presenceOf_nextJoin (cycle : Nat) (ids : List Nat) (b : Block) :
    (presenceOf cycle ids b).labels.nextJoin = b.labels.nextJoin := by
  induction ids generalizing b with
  | nil => rfl
  | cons id rest ih => exact (ih _).trans (presenceAtCycle_nextJoin cycle id b)

theorem presenceOf_getLabel (cycle : Nat) (ids : List Nat) (b : Block) (j : Nat) : getLabel (presenceOf cycle ids b) j =
    if j ∈ ids then (getLabel b j).map (presenceLabel cycle) else getLabel b j := by
  induction ids generalizing b with
  | nil => simp [presenceOf]
  | cons id rest ih =>
    have hstep : presenceOf cycle (id :: rest) b = presenceOf cycle rest (presenceAtCycle cycle id b) := rfl
    rw [hstep, ih, presenceAtCycle_getLabel]
    have hidem : (presenceLabel cycle ∘ presenceLabel cycle) = presenceLabel cycle := funext (presenceLabel_idem cycle)
    by_cases hid : j = id <;> by_cases hj : j ∈ rest <;> simp [hid, hj, hidem]

/-- R70: the labels of a list that go LOST at the beacon that begins a cycle. -/
def lostAmong (cycle : Nat) (ids : List Nat) (b : Block) : List Nat :=
  ids.filter (fun id => (getLabel b id).any (goesLost cycle))

/-- R70: LABEL_LOST for each of some labels. -/
def lostNoted (ids : List Nat) (clock : Option Nat) (q : List NoticeEntry) : List NoticeEntry :=
  ids.foldl (fun q id => noticeQueueAfter .labelLost (.label id) none clock q) q

theorem presenceOf_notices (cycle : Nat) (hids : ids.Nodup) (b : Block) : (presenceOf cycle ids b).mgmt =
    { b.mgmt with notices := lostNoted (lostAmong cycle ids b) b.mode.clock b.mgmt.notices } := by
  induction ids generalizing b with
  | nil => rfl
  | cons id rest ih =>
    obtain ⟨hid, hrest⟩ := List.nodup_cons.1 hids
    have hstep : presenceOf cycle (id :: rest) b = presenceOf cycle rest (presenceAtCycle cycle id b) := rfl
    have hmode : (presenceAtCycle cycle id b).mode = b.mode :=
      ((presenceOf_touches cycle [id] b).keeps .mode (by decide)).symm
    have hlater : lostAmong cycle rest (presenceAtCycle cycle id b) = lostAmong cycle rest b := by
      refine List.filter_congr fun j hj => ?_
      rw [presenceAtCycle_getLabel, if_neg (ne_of_mem_of_not_mem hj hid)]
    rw [hstep, ih hrest, hmode, hlater, presenceAtCycle_mgmt]
    by_cases hlost : (getLabel b id).any (goesLost cycle) = true <;> simp [lostAmong, lostNoted, hlost]

theorem presenceCheck_getLabel (cycle : Nat) (b : Block) (id : Nat) :
    getLabel (presenceCheck cycle b) id = (getLabel b id).map (presenceLabel cycle) := by
  refine (presenceOf_getLabel cycle _ b id).trans ?_
  split
  · rfl
  · next hid =>
    cases hl : getLabel b id with
    | none => rfl
    | some l => exact absurd (List.mem_map_of_mem (f := Prod.fst) (mem_of_tableFind hl)) hid

/-! ## The windows of the old slot (R96) -/

/-- R96: windows that close leave the radio's numbers, channel, budget and settings. -/
theorem closeRest_radio (n : Nat) (b : Block) : ∃ plan cursor taken,
    (closeRest n b).radio = { b.radio with plan := plan, cursor := cursor, taken := taken } := by
  induction n generalizing b with
  | zero => exact ⟨_, _, _, rfl⟩
  | succ n ih =>
    rw [closeRest]
    split
    · next hopen =>
      obtain ⟨plan, cursor, taken, h⟩ := ih (replyWindowClose b)
      obtain ⟨e, he⟩ : ∃ e, b.radio.plan[b.radio.cursor]? = some e :=
        ⟨_, List.getElem?_eq_getElem (of_decide_eq_true hopen)⟩
      rw [replyWindowClose_open he] at h ⊢
      rw [afterWindow_radio] at h
      exact ⟨plan, cursor, taken, h⟩
    · exact ⟨_, _, _, rfl⟩

theorem closeSlot_of_done (h : b.radio.plan.length ≤ b.radio.cursor) : closeSlot b = b := by
  rw [closeSlot, Nat.sub_eq_zero_of_le h, closeRest]

/-! ## The sorted table -/

theorem labelsSorted_of_touches {ps : List Part} (t : Touches ps b c) (hp : Part.labels ∉ ps) (h : tableSorted b.labels.table) :
    tableSorted c.labels.table := by
  rw [← t.keeps .labels hp]
  exact h

theorem labelsSorted_of_move {N : Prop} (t : TableMove N b c) (h : tableSorted b.labels.table) : tableSorted c.labels.table := by
  cases t with
  | same hs => rw [hs.labels]; exact h
  | notice => exact h
  | notices => exact h
  | relabel => exact tableSorted_insert _ _ h
  | addLabel => exact tableSorted_insert _ _ h
  | presence cycle => exact tableSorted_mapValues (fun l : Label => { l with heard := some cycle, candidate := none }) h
  | release ws => rw [releaseAll_labels]; exact tableSorted_insert _ _ h
  | unbind hl => rw [giveUpBinding_table none none hl]; exact tableSorted_insert _ _ h
  | @rebind _ id code _ _ template hl =>
    have hgiven : tableSorted (giveUpBinding id (some code) template b).labels.table := by
      rw [giveUpBinding_table _ template hl]
      exact tableSorted_insert _ _ h
    exact labelsSorted_of_touches (Touches.bindToItem _ _ (.refl [.items] _) (by decide)) (by decide) hgiven
  | @select _ _ _ t u hl =>
    have htable : (takeTarget t b).labels = b.labels :=
      ((Touches.takeTarget t (.refl [.items] b) (by decide)).keeps .labels (by decide)).symm
    rw [putLabel_labels, htable]
    exact tableSorted_insert _ _ h
  | newItem => exact h
  | rewrite => exact h
  | withdraw => exact h
  | addresses _ hl => rw [hl]; exact h
  | cold => exact List.Pairwise.nil

theorem Reached.labelsSorted (h : Reached a b) (hs : tableSorted a.labels.table) : tableSorted b.labels.table := by
  obtain ⟨hmoves, -⟩ := h
  induction hmoves with
  | refl => exact hs
  | tail _ ht ih => exact labelsSorted_of_move ht ih

/-! ## The slot that begins (R90, R93, R105) -/

/-- R70, R90: the block as a slot's selection finds it. -/
def slotBegun (b : Block) : Block := notePresence (sendBeacon (beginSlot (closeSlot b)))

theorem closeSlot_touches (b : Block) : Touches [.radio, .labels, .items, .composer, .mgmt, .counts, .out] b (closeSlot b) := by
  apply Touches.closeSlot (.refl _ b) <;> decide

theorem beginSlot_touches (b : Block) : Touches [.radio, .composer, .time] b (beginSlot b) := by
  apply Touches.beginSlot (.refl _ b) <;> decide

theorem sendBeacon_touches (b : Block) : Touches [.counts, .out] b (sendBeacon b) := by
  apply Touches.sendBeacon (.refl _ b) <;> decide

theorem notePresence_touches (b : Block) : Touches [.labels, .mgmt] b (notePresence b) := by
  apply Touches.notePresence (.refl _ b) <;> decide

/-- What the beacon and the presence check find of a slot that begins. -/
theorem slotBegun_touches (b : Block) : Touches [.labels, .mgmt, .counts, .out] (beginSlot (closeSlot b)) (slotBegun b) :=
  ((sendBeacon_touches _).mono (by decide)).trans ((notePresence_touches _).mono (by decide))

theorem slotBegun_radio (b : Block) : (slotBegun b).radio = { b.radio with
    slot := slotAfter b.radio
    cycle := cycleAfter b.radio
    channel := channelAfter b.radio
    fresh := false
    budget := slotBudget b.radio.settings b.mode.mode
    plan := []
    cursor := 0
    taken := none } := by
  have hmode : (closeSlot b).mode = b.mode := ((closeSlot_touches b).keeps .mode (by decide)).symm
  obtain ⟨plan, cursor, taken, h⟩ := closeRest_radio (b.radio.plan.length - b.radio.cursor) b
  rw [← (slotBegun_touches b).keeps .radio (by decide), beginSlot, hmode, closeSlot, h]
  rfl

theorem slotBegun_time (b : Block) : (slotBegun b).time = { b.time with toBeacon := 250 } := by
  rw [← (slotBegun_touches b).keeps .time (by decide), beginSlot, ← (closeSlot_touches b).keeps .time (by decide)]

theorem slotBegun_composer (b : Block) : (slotBegun b).composer = { (closeSlot b).composer with buffer := [] } :=
  ((slotBegun_touches b).keeps .composer (by decide)).symm

theorem slotBegun_out (b : Block) : (slotBegun b).out = (closeSlot b).out ++
    [.beacon (slotBegun b).radio.channel (slotBegun b).radio.slot (slotBegun b).radio.cycle] := by
  rw [← (slotBegun_touches b).keeps .radio (by decide), slotBegun, ← (notePresence_touches _).keeps .out (by decide)]
  rfl

theorem slotBegun_counts (b : Block) (k : Counter) : counterValue (slotBegun b) k =
    if k = .beacons then min (counterValue (closeSlot b) k + 1) 4294967295 else counterValue (closeSlot b) k := by
  have hsent : counterValue (slotBegun b) k = counterValue (sendBeacon (beginSlot (closeSlot b))) k := by
    rw [slotBegun, counterValue, counterValue, ← (notePresence_touches _).keeps .counts (by decide)]
  rw [hsent, sendBeacon]
  split
  · next hk =>
    subst hk
    exact counterValue_bump_self _ _
  · next hk => exact counterValue_bump_other _ hk

/-! ### The presence check falls to the beacon of slot 0 (R70, R90) -/

theorem slotBegun_first (h : (slotBegun b).radio.slot = 0) :
    slotBegun b = presenceCheck (slotBegun b).radio.cycle (sendBeacon (beginSlot (closeSlot b))) := by
  have hradio : (sendBeacon (beginSlot (closeSlot b))).radio = (slotBegun b).radio :=
    (notePresence_touches _).keeps .radio (by decide)
  rw [← hradio] at h ⊢
  exact if_pos h

theorem slotBegun_later (h : (slotBegun b).radio.slot ≠ 0) : slotBegun b = sendBeacon (beginSlot (closeSlot b)) := by
  have hradio : (sendBeacon (beginSlot (closeSlot b))).radio = (slotBegun b).radio :=
    (notePresence_touches _).keeps .radio (by decide)
  rw [← hradio] at h
  exact if_neg h

theorem slotBegun_getLabel (b : Block) (id : Nat) : getLabel (slotBegun b) id = if (slotBegun b).radio.slot = 0
    then (getLabel (closeSlot b) id).map (presenceLabel (slotBegun b).radio.cycle) else getLabel (closeSlot b) id := by
  split
  · next h => exact (congrArg (getLabel · id) (slotBegun_first h)).trans (presenceCheck_getLabel _ _ id)
  · next h => exact (congrArg (getLabel · id) (slotBegun_later h)).trans rfl

theorem slotBegun_nextJoin (b : Block) : (slotBegun b).labels.nextJoin = (closeSlot b).labels.nextJoin := by
  by_cases h : (slotBegun b).radio.slot = 0
  · exact (congrArg (fun d : Block => d.labels.nextJoin) (slotBegun_first h)).trans (presenceOf_nextJoin _ _ _)
  · exact (congrArg (fun d : Block => d.labels.nextJoin) (slotBegun_later h)).trans rfl

/-- R70: the labels that go LOST at the beacon. -/
def lostAtBeacon (b : Block) : List Nat := if (slotBegun b).radio.slot = 0
  then lostAmong (slotBegun b).radio.cycle (b.labels.table.map Prod.fst) b else []

theorem slotBegun_notices (hdone : closeSlot b = b) (hs : tableSorted b.labels.table) :
    (slotBegun b).mgmt = { b.mgmt with notices := lostNoted (lostAtBeacon b) b.mode.clock b.mgmt.notices } := by
  have hmgmt : (sendBeacon (beginSlot (closeSlot b))).mgmt = b.mgmt := by rw [hdone]; rfl
  unfold lostAtBeacon
  split
  · next h =>
    have hkeys : (sendBeacon (beginSlot (closeSlot b))).labels = b.labels := by rw [hdone]; rfl
    have hmode : (sendBeacon (beginSlot (closeSlot b))).mode = b.mode := by rw [hdone]; rfl
    have hlost (ids : List Nat) : lostAmong (slotBegun b).radio.cycle ids (sendBeacon (beginSlot (closeSlot b))) =
        lostAmong (slotBegun b).radio.cycle ids b := by simp only [lostAmong, getLabel, hkeys]
    refine (congrArg Block.mgmt (slotBegun_first h)).trans ?_
    rw [presenceCheck, hkeys]
    refine (presenceOf_notices _ (List.Pairwise.imp Nat.ne_of_lt hs) _).trans ?_
    rw [hlost, hmgmt, hmode]
  · next h => exact (congrArg Block.mgmt (slotBegun_later h)).trans hmgmt

theorem lostAtBeacon_sorted (hs : tableSorted b.labels.table) : (lostAtBeacon b).Pairwise (· < ·) := by
  unfold lostAtBeacon
  split
  · exact List.Pairwise.filter _ hs
  · exact List.Pairwise.nil

theorem mem_lostAtBeacon : id ∈ lostAtBeacon b ↔ (slotBegun b).radio.slot = 0 ∧ ∃ l c, getLabel b id = some l ∧
    l.present = true ∧ l.heard = some c ∧ 33 ≤ ((slotBegun b).radio.cycle + 65536 - c) % 65536 := by
  unfold lostAtBeacon
  split
  · next h =>
    simp only [lostAmong, List.mem_filter, Option.any_eq_true, goesLost_iff, h, true_and]
    constructor
    · rintro ⟨-, l, hl, hp, c, hc⟩
      exact ⟨l, c, hl, hp, hc⟩
    · rintro ⟨l, c, hl, hp, hc⟩
      exact ⟨List.mem_map_of_mem (f := Prod.fst) (mem_of_tableFind hl), l, hl, hp, c, hc⟩
  · next h => simp [h]

theorem slotBegun_reached (b : Block) : Reached b (slotBegun b) := by
  have hsent : Reached b (sendBeacon (beginSlot (closeSlot b))) :=
    ((Reached.refl b).closeRest _).quiet (by apply Touches.sendBeacon (Touches.beginSlot (.refl _ _) ?_ ?_ ?_) <;> decide)
  rw [slotBegun, notePresence]
  split
  · exact hsent.presenceCheck _
  · exact hsent

theorem slotBegun_sorted (hs : tableSorted b.labels.table) : tableSorted (slotBegun b).labels.table :=
  (slotBegun_reached b).labelsSorted hs

end SlotBeginning

end Sys2Proof.Machine

namespace Sys2Proof.Machine

/-! # The walk over a wake-slot queue (R59, R63, R94, R95) -/

section WakeQueues

variable {b : Block} {g id : Nat} {p q : QueuePlace} {entries : List (Nat × QueuePlace)}

/-! ## The queue of a wake group (R59) -/

/-- R59: a place that may stand before another in a queue. -/
def PlaceLe (p q : QueuePlace) : Prop := classRank p.cls < classRank q.cls ∨ (p.cls = q.cls ∧ p.order ≤ q.order)

theorem classRank_injective {x y : PriorityClass} (h : classRank x = classRank y) : x = y := by
  cases x <;> cases y <;> first | rfl | cases h

theorem placeBefore_le (h : placeBefore p q = true) : PlaceLe p q := by
  simp only [placeBefore, Bool.or_eq_true, Bool.and_eq_true, decide_eq_true_eq] at h
  rcases h with h | ⟨hcls, ho⟩
  · exact Or.inl h
  · exact Or.inr ⟨classRank_injective hcls, Nat.le_of_lt ho⟩

theorem le_of_not_placeBefore (h : ¬ placeBefore p q = true) : PlaceLe q p := by
  simp only [placeBefore, Bool.or_eq_true, Bool.and_eq_true, decide_eq_true_eq, not_or, not_and, Nat.not_lt] at h
  obtain ⟨hcls, ho⟩ := h
  rcases Nat.lt_or_eq_of_le hcls with hlt | heq
  · exact Or.inl hlt
  · exact Or.inr ⟨classRank_injective heq, ho heq.symm⟩

theorem PlaceLe.trans {r : QueuePlace} (h : PlaceLe p q) (k : PlaceLe q r) : PlaceLe p r := by
  rcases h with h | ⟨hcls, ho⟩
  · rcases k with k | ⟨hk, -⟩
    · exact Or.inl (Nat.lt_trans h k)
    · exact Or.inl (hk ▸ h)
  · rcases k with k | ⟨hk, hko⟩
    · exact Or.inl (hcls ▸ k)
    · exact Or.inr ⟨hcls.trans hk, Nat.le_trans ho hko⟩

theorem queueInsert_perm (id : Nat) (p : QueuePlace) (entries : List (Nat × QueuePlace)) :
    (queueInsert id p entries).Perm ((id, p) :: entries) := by
  induction entries with
  | nil => exact .refl _
  | cons e rest ih =>
    obtain ⟨j, q⟩ := e
    rw [queueInsert]
    split
    · exact .refl _
    · exact (ih.cons _).trans (.swap _ _ _)

theorem queueInsert_sorted (id : Nat) (p : QueuePlace) (h : entries.Pairwise (fun x y => PlaceLe x.2 y.2)) :
    (queueInsert id p entries).Pairwise (fun x y => PlaceLe x.2 y.2) := by
  induction entries with
  | nil => exact List.pairwise_singleton _ _
  | cons e rest ih =>
    obtain ⟨j, q⟩ := e
    obtain ⟨hfirst, hrest⟩ := List.pairwise_cons.1 h
    rw [queueInsert]
    split
    · next hp =>
      refine List.pairwise_cons.2 ⟨fun x hx => ?_, h⟩
      rcases List.mem_cons.1 hx with rfl | hx
      · exact placeBefore_le hp
      · exact (placeBefore_le hp).trans (hfirst x hx)
    · next hp =>
      refine List.pairwise_cons.2 ⟨fun x hx => ?_, ih hrest⟩
      rcases List.mem_cons.1 ((queueInsert_perm id p rest).mem_iff.1 hx) with rfl | hx
      · exact le_of_not_placeBefore hp
      · exact hfirst x hx

/-- R59: a label joins the queue of its group, if it is queued. -/
def joinWake (g : Nat) (acc : List (Nat × QueuePlace)) (e : Nat × Label) : List (Nat × QueuePlace) :=
  if wakeGroup e.1 = g then
    match e.2.queued with
    | some q => queueInsert e.1 q acc
    | none => acc
  else acc

/-- R59: the queued labels of a group in a table, with their places. -/
def queuedOf (g : Nat) (t : Table Label) : List (Nat × QueuePlace) :=
  t.filterMap (fun e => if wakeGroup e.1 = g then e.2.queued.map (Prod.mk e.1) else none)

/-- R59: the places of a wake-slot queue. -/
def wakePlaces (b : Block) (g : Nat) : List (Nat × QueuePlace) := b.labels.table.foldl (joinWake g) []

theorem wakeQueue_eq (b : Block) (g : Nat) : wakeQueue b g = (wakePlaces b g).map Prod.fst := rfl

theorem joinWake_perm (g : Nat) (acc : List (Nat × QueuePlace)) (e : Nat × Label) :
    (joinWake g acc e).Perm (queuedOf g [e] ++ acc) := by
  unfold joinWake queuedOf
  split
  · next hg =>
    cases hq : e.2.queued with
    | none => simp [hg, hq]
    | some q => simpa [hg, hq] using queueInsert_perm e.1 q acc
  · next hg => simp [hg]

theorem foldl_joinWake_perm (g : Nat) (t : Table Label) (acc : List (Nat × QueuePlace)) :
    (t.foldl (joinWake g) acc).Perm (queuedOf g t ++ acc) := by
  induction t generalizing acc with
  | nil => exact .refl _
  | cons e rest ih =>
    have hsplit : queuedOf g (e :: rest) = queuedOf g [e] ++ queuedOf g rest := List.filterMap_append (l := [e])
    rw [hsplit, List.foldl_cons]
    refine (ih _).trans (((joinWake_perm g acc e).append_left _).trans ?_)
    rw [← List.append_assoc]
    exact List.perm_append_comm.append_right acc

theorem foldl_joinWake_sorted (g : Nat) (t : Table Label) (acc : List (Nat × QueuePlace))
    (h : acc.Pairwise (fun x y => PlaceLe x.2 y.2)) : (t.foldl (joinWake g) acc).Pairwise (fun x y => PlaceLe x.2 y.2) := by
  induction t generalizing acc with
  | nil => exact h
  | cons e rest ih =>
    refine ih _ ?_
    unfold joinWake
    (repeat' split)
    · exact queueInsert_sorted _ _ h
    · exact h
    · exact h

theorem wakePlaces_perm (b : Block) (g : Nat) : (wakePlaces b g).Perm (queuedOf g b.labels.table) := by
  have h := foldl_joinWake_perm g b.labels.table []
  rwa [List.append_nil] at h

theorem mem_wakePlaces (hs : tableSorted b.labels.table) : (id, p) ∈ wakePlaces b g ↔
    id % 64 = g ∧ ∃ l, getLabel b id = some l ∧ l.queued = some p := by
  rw [(wakePlaces_perm b g).mem_iff, queuedOf, List.mem_filterMap]
  constructor
  · rintro ⟨⟨j, l⟩, hmem, h⟩
    rw [Option.ite_none_right_eq_some, Option.map_eq_some_iff] at h
    obtain ⟨hg, q, hq, ⟨⟩⟩ := h
    exact ⟨hg, l, tableFind_of_mem hs hmem, hq⟩
  · rintro ⟨hg, l, hl, hq⟩
    refine ⟨(id, l), mem_of_tableFind hl, ?_⟩
    simp [wakeGroup, hg, hq]

/-- R93: the labels of a wake-slot queue are of its group. -/
theorem wakeGroup_of_mem_wakeQueue (h : id ∈ wakeQueue b g) : id % 64 = g := by
  rw [wakeQueue_eq, List.mem_map] at h
  obtain ⟨e, he, rfl⟩ := h
  rw [(wakePlaces_perm b g).mem_iff, queuedOf, List.mem_filterMap] at he
  obtain ⟨⟨j, l⟩, -, h⟩ := he
  rw [Option.ite_none_right_eq_some, Option.map_eq_some_iff] at h
  obtain ⟨hg, q, -, rfl⟩ := h
  exact hg

theorem mem_wakeQueue (hs : tableSorted b.labels.table) : id ∈ wakeQueue b g ↔
    id % 64 = g ∧ ∃ l, getLabel b id = some l ∧ l.queued ≠ none := by
  rw [wakeQueue_eq, List.mem_map]
  constructor
  · rintro ⟨⟨j, p⟩, he, rfl⟩
    obtain ⟨hg, l, hl, hq⟩ := (mem_wakePlaces hs).1 he
    exact ⟨hg, l, hl, fun e => nomatch hq.symm.trans e⟩
  · rintro ⟨hg, l, hl, hq⟩
    obtain ⟨p, hp⟩ := Option.ne_none_iff_exists'.1 hq
    exact ⟨(id, p), (mem_wakePlaces hs).2 ⟨hg, l, hl, hp⟩, rfl⟩

theorem queuedOf_keys_sublist (g : Nat) (t : Table Label) : ((queuedOf g t).map Prod.fst).Sublist (t.map Prod.fst) := by
  induction t with
  | nil => exact .refl _
  | cons e rest ih =>
    by_cases hg : wakeGroup e.1 = g
    · cases hq : e.2.queued with
      | none => simpa [queuedOf, hg, hq] using ih.cons e.1
      | some q => simpa [queuedOf, hg, hq] using ih.cons_cons e.1
    · simpa [queuedOf, hg] using ih.cons e.1

theorem nodup_wakeQueue (hs : tableSorted b.labels.table) : (wakeQueue b g).Nodup := by
  rw [wakeQueue_eq, ((wakePlaces_perm b g).map Prod.fst).nodup_iff]
  exact (queuedOf_keys_sublist g _).nodup (List.Pairwise.imp Nat.ne_of_lt hs)

theorem wakeQueue_sorted (hs : tableSorted b.labels.table) : (wakeQueue b g).Pairwise (fun x y => ∀ l m p q,
    getLabel b x = some l → l.queued = some p → getLabel b y = some m → m.queued = some q → PlaceLe p q) := by
  have hplaces : (wakePlaces b g).Pairwise (fun x y => PlaceLe x.2 y.2) := foldl_joinWake_sorted g _ [] List.Pairwise.nil
  rw [wakeQueue_eq, List.pairwise_map]
  refine List.Pairwise.imp_of_mem ?_ hplaces
  rintro ⟨i, p'⟩ ⟨j, q'⟩ hi hj hle l m p q hl hp hm hq
  obtain ⟨-, l', hl', hp'⟩ := (mem_wakePlaces hs).1 hi
  obtain ⟨-, m', hm', hq'⟩ := (mem_wakePlaces hs).1 hj
  obtain rfl : l' = l := Option.some.inj (hl'.symm.trans hl)
  obtain rfl : m' = m := Option.some.inj (hm'.symm.trans hm)
  obtain rfl : p' = p := Option.some.inj (hp'.symm.trans hp)
  obtain rfl : q' = q := Option.some.inj (hq'.symm.trans hq)
  exact hle

end WakeQueues

end Sys2Proof.Machine

namespace Sys2Proof.Machine

/-! # One label reached in the walk (R63, R87, R88, R95) -/

section Reaching

variable {b c : Block} {id : Nat} {l m : Label} {t : Target} {u : Composed} {w : Walk} {k : Counter}

/-! ## An update selected (R63, R88) -/

theorem issueTag_next (h : l.confirmed = none ∨ tagAfter l.lastTag ≠ confirmedTag l) : issueTag l = tagAfter l.lastTag := by
  refine if_neg fun hc => ?_
  obtain ⟨hsome, ht⟩ := hc
  rcases h with h | h
  · simp [h] at hsome
  · exact h ht

theorem issueTag_skip (hc : l.confirmed ≠ none) (ht : tagAfter l.lastTag = confirmedTag l) :
    issueTag l = tagAfter (confirmedTag l) := by
  rw [issueTag, if_pos ⟨Option.isSome_iff_ne_none.2 hc, ht⟩, ht]

theorem baseTagOf_eq (u : Composed) (l : Label) : baseTagOf u l = if u.kind = .full then 0 else confirmedTag l := by
  unfold baseTagOf
  cases u.kind <;> rfl

theorem entryKindOf_eq (k : UpdateKind) : entryKindOf k = if k = .full then .full else .partialUpdate := by
  cases k <;> rfl

theorem carriedMarks_eq (k : UpdateKind) (m : Marks) :
    carriedMarks k m = Marks.mk m.redraw m.force (m.fullRequired && decide (k = .full)) := by
  cases k <;> simp [carriedMarks]

theorem marksAfter_eq (k : UpdateKind) (m : Marks) :
    marksAfter k m = Marks.mk false false (m.fullRequired && decide (k = .partialUpdate)) := by
  cases k <;> simp [marksAfter, clearMarks]

theorem selectedLabel_eq (u : Composed) (t : Target) (l : Label) : selectedLabel u t l = { l with
    lastTag := issueTag l
    inFlight := some (InFlight.mk (LabelRef.mk (refOfTarget l t) (issueTag l) (checkValue u)) u.kind
      (Marks.mk l.marks.redraw l.marks.force (l.marks.fullRequired && decide (u.kind = .full))))
    marks := Marks.mk false false (l.marks.fullRequired && decide (u.kind = .partialUpdate))
    state := .inFlight
    queued := none } := by
  rw [selectedLabel, carriedMarks_eq, marksAfter_eq]

theorem joinStyle_composer (id : Nat) (u : Composed) (t : Target) (b : Block) :
    (joinStyle id u t b).composer = { b.composer with style := (joinStyle id u t b).composer.style } := by
  unfold joinStyle
  split <;> rfl

/-- R89: a FULL update that is not BLANK puts its label into the current-style set. -/
theorem mem_joinStyle (id : Nat) (u : Composed) (t : Target) (b : Block) (j : Nat) :
    j ∈ (joinStyle id u t b).composer.style ↔ j ∈ b.composer.style ∨ (j = id ∧ u.kind = .full ∧ t ≠ .blank) := by
  unfold joinStyle
  cases u.kind <;> cases t <;> simp

theorem joinStyle_touches (id : Nat) (u : Composed) (t : Target) (b : Block) : Touches [.composer] b (joinStyle id u t b) :=
  Touches.joinStyle id u t (.refl _ b) (by decide)

theorem takeTarget_touches (t : Target) (b : Block) : Touches [.items] b (takeTarget t b) :=
  Touches.takeTarget t (.refl _ b) (by decide)

theorem noteTruncated_touches (id : Nat) (u : Composed) (b : Block) : Touches [.mgmt, .counts] b (noteTruncated id u b) :=
  Touches.noteTruncated id u (.refl _ b) (by decide) (by decide)

theorem noteTruncated_notices (id : Nat) (u : Composed) (b : Block) : (noteTruncated id u b).mgmt.notices =
    if u.truncated then noticeQueueAfter .labelTruncated (.label id) none b.mode.clock b.mgmt.notices
    else b.mgmt.notices := by
  unfold noteTruncated
  split <;> rfl

theorem noteTruncated_count (id : Nat) (u : Composed) (b : Block) : counterValue (noteTruncated id u b) .truncatedCount =
    if u.truncated then min (counterValue b .truncatedCount + 1) 4294967295 else counterValue b .truncatedCount := by
  unfold noteTruncated
  split
  · exact counterValue_bump_self _ b
  · rfl

theorem noteTruncated_counts (id : Nat) (u : Composed) (b : Block) (hk : k ≠ .truncatedCount) :
    counterValue (noteTruncated id u b) k = counterValue b k := by
  unfold noteTruncated
  split
  · exact counterValue_bump_other b hk
  · rfl

/-- R63: the record in place, and the target's version referenced. -/
def referenced (id : Nat) (l : Label) (t : Target) (u : Composed) (b : Block) : Block :=
  putLabel id (selectedLabel u t l) (takeTarget t b)

theorem referenced_touches (id : Nat) (l : Label) (t : Target) (u : Composed) (b : Block) :
    Touches [.items, .labels] b (referenced id l t u b) :=
  Touches.putLabel _ _ ((takeTarget_touches t b).mono (by decide)) (by decide)

theorem referenced_items (id : Nat) (l : Label) (t : Target) (u : Composed) (b : Block) :
    (referenced id l t u b).items = (takeTarget t b).items := rfl

theorem referenced_others {j : Nat} (hj : j ≠ id) : getLabel (referenced id l t u b) j = getLabel b j := by
  have htaken : (takeTarget t b).labels = b.labels := ((takeTarget_touches t b).keeps .labels (by decide)).symm
  rw [referenced, getLabel_putLabel_other _ _ hj, getLabel, getLabel, htaken]

/-- R88, R89: what follows of the selection: the current-style set and the composition buffer. -/
def buffered (id : Nat) (l : Label) (t : Target) (u : Composed) (b : Block) : Block :=
  bufferUpdate id (codedUpdate u (issueTag l) (baseTagOf u l)) (joinStyle id u t (referenced id l t u b))

theorem buffered_touches (id : Nat) (l : Label) (t : Target) (u : Composed) (b : Block) :
    Touches [.composer] (referenced id l t u b) (buffered id l t u b) :=
  Touches.bufferUpdate id _ (joinStyle_touches id u t _) (by decide)

/-- R63, R88, R89: from `b` to `c` label `l` was selected for an update. -/
structure SelectedFor (id : Nat) (l : Label) (t : Target) (u : Composed) (b c : Block) : Prop where
  touches : Touches [.items, .labels, .composer, .mgmt, .counts] b c
  own : getLabel c id = some (selectedLabel u t l)
  others : ∀ j, j ≠ id → getLabel c j = getLabel b j
  items : c.items = (takeTarget t b).items
  composer : c.composer = { b.composer with
    buffer := b.composer.buffer ++ [BufferedUpdate.mk id (codedUpdate u (issueTag l) (baseTagOf u l))]
    style := c.composer.style }
  style : ∀ j, j ∈ c.composer.style ↔ j ∈ b.composer.style ∨ (j = id ∧ u.kind = .full ∧ t ≠ .blank)
  truncated : counterValue c .truncatedCount = (if u.truncated then min (counterValue b .truncatedCount + 1) 4294967295
    else counterValue b .truncatedCount)
  counts : ∀ k, k ≠ .truncatedCount → counterValue c k = counterValue b k
  notices : c.mgmt.notices = (if u.truncated then
    noticeQueueAfter .labelTruncated (.label id) none b.mode.clock b.mgmt.notices else b.mgmt.notices)

theorem selectedFor_selectUpdate (id : Nat) (l : Label) (t : Target) (u : Composed) (b : Block) :
    SelectedFor id l t u b (selectUpdate id l t u b) := by
  have hnoted : Touches [.mgmt, .counts] (buffered id l t u b) (selectUpdate id l t u b) := noteTruncated_touches _ _ _
  have hbuffered := buffered_touches id l t u b
  have hreferenced := referenced_touches id l t u b
  have hlabels : (selectUpdate id l t u b).labels = (referenced id l t u b).labels :=
    ((hbuffered.keeps .labels (by decide)).trans (hnoted.keeps .labels (by decide))).symm
  have hcomposer : (selectUpdate id l t u b).composer = (buffered id l t u b).composer :=
    (hnoted.keeps .composer (by decide)).symm
  have hbefore : Touches [.items, .labels, .composer] b (buffered id l t u b) :=
    (hreferenced.mono (by decide)).trans (hbuffered.mono (by decide))
  have hcounts (k : Counter) : counterValue (buffered id l t u b) k = counterValue b k := by
    rw [counterValue, counterValue, hbefore.keeps .counts (by decide)]
  have hstart : (referenced id l t u b).composer = b.composer := (hreferenced.keeps .composer (by decide)).symm
  have hcoded : (buffered id l t u b).composer = { (joinStyle id u t (referenced id l t u b)).composer with
      buffer := (joinStyle id u t (referenced id l t u b)).composer.buffer ++
        [BufferedUpdate.mk id (codedUpdate u (issueTag l) (baseTagOf u l))] } := rfl
  refine ⟨(hbefore.mono (by decide)).trans (hnoted.mono (by decide)), ?_, fun j hj => ?_, ?_, ?_, fun j => ?_, ?_, fun k hk => ?_, ?_⟩
  · rw [getLabel, hlabels]
    exact getLabel_putLabel_self _ id _
  · rw [getLabel, hlabels]
    exact referenced_others hj
  · rw [← hnoted.keeps .items (by decide), ← hbuffered.keeps .items (by decide), referenced_items]
  · rw [hcomposer, hcoded, joinStyle_composer, hstart]
  · rw [hcomposer, hcoded, mem_joinStyle, hstart]
  · exact (noteTruncated_count id u (buffered id l t u b)).trans (by rw [hcounts])
  · exact (noteTruncated_counts id u _ hk).trans (hcounts k)
  · refine (noteTruncated_notices id u (buffered id l t u b)).trans ?_
    rw [← hbefore.keeps .mode (by decide), ← hbefore.keeps .mgmt (by decide)]

/-! ## The cases of R95 -/

theorem walkReach_absent (hl : getLabel w.block id = none) : walkReach id w = w := by rw [walkReach, hl]

theorem walkReach_uncertain (hl : getLabel w.block id = some l) (hs : l.state = .uncertain) :
    walkReach id w = Walk.mk w.block (w.remaining - 1) (w.plan ++ [queryEntry id]) := by
  rw [walkReach, hl]
  simp only [hs]

theorem walkReach_stale (hl : getLabel w.block id = some l) (hs : l.state = .stale) : walkReach id w = walkStale id l w := by
  rw [walkReach, hl]
  simp only [hs]

theorem walkReach_other (hl : getLabel w.block id = some l) (h1 : l.state ≠ .uncertain) (h2 : l.state ≠ .stale) :
    walkReach id w = w := by
  rw [walkReach, hl]
  cases hs : l.state with
  | uncertain => exact absurd hs h1
  | stale => exact absurd hs h2
  | _ => simp only [hs]

/-- R63: a label declined because its target changed. -/
def declined (id : Nat) (l : Label) (b : Block) : Block :=
  enqueue id (putLabel id { l with target := targetOf b l } b)

theorem walkReach_declined (hl : getLabel w.block id = some l) (hs : l.state = .stale) (ht : targetOf w.block l ≠ l.target) :
    walkReach id w = { w with block := declined id l w.block } := by
  rw [walkReach_stale hl hs, walkStale, if_neg ht]
  rfl

theorem requeued_declined (id : Nat) (l : Label) (b : Block) :
    ∃ p, Requeued id b (declined id l b) l.queued { l with target := targetOf b l, queued := some p } := by
  obtain ⟨p, -, hp⟩ := Requeued.enqueue (getLabel_putLabel_self b id { l with target := targetOf b l })
  exact ⟨p, hp.after_put⟩

/-- R59, R63: the place of a label declined: its joining order, or a new one where its class rises. -/
theorem declined_place {p : QueuePlace} {cls : PriorityClass} (hp : l.queued = some p)
    (hcls : cls = classOf b { l with target := targetOf b l }) : getLabel (declined id l b) id = some { l with
      target := targetOf b l
      queued := some (QueuePlace.mk cls (if classRank cls < classRank p.cls then b.labels.nextJoin else p.order)) } := by
  have hclass : classOf (putLabel id { l with target := targetOf b l } b) { l with target := targetOf b l } = cls :=
    (classOf_congr rfl _).trans hcls.symm
  rcases enqueue_cases (getLabel_putLabel_self b id { l with target := targetOf b l }) with ⟨hj, he⟩ | ⟨q, hq, hr, he⟩
  · rw [hclass] at hj
    rw [declined, he, if_pos (hj p hp), hclass]
    exact getLabel_putLabel_self _ id _
  · obtain rfl : p = q := Option.some.inj (hp.symm.trans hq)
    rw [hclass] at hr
    rw [declined, he, if_neg (Nat.not_lt.2 hr), hclass]
    exact getLabel_putLabel_self _ id _

theorem walkReach_oversize (hl : getLabel w.block id = some l) (hs : l.state = .stale) (ht : targetOf w.block l = l.target)
    (hlt : l.target = some t) (hc : compose w.block id l t = none) :
    walkReach id w = { w with block := becomeOversize id w.block } := by
  rw [walkReach_stale hl hs, walkStale, if_pos ht, hlt]
  simp only [walkUpdate, hc]

theorem walkReach_composed (hl : getLabel w.block id = some l) (hs : l.state = .stale) (ht : targetOf w.block l = l.target)
    (hlt : l.target = some t) (hc : compose w.block id l t = some u) :
    walkReach id w = if fragmentCount u ≤ w.remaining then
      Walk.mk (selectUpdate id l t u w.block) (w.remaining - fragmentCount u) (w.plan ++ [updateEntry id l u]) else w := by
  rw [walkReach_stale hl hs, walkStale, if_pos ht, hlt]
  simp only [walkUpdate, hc]

theorem walkReach_targetless (hl : getLabel w.block id = some l) (hs : l.state = .stale)
    (ht : targetOf w.block l = l.target) (hlt : l.target = none) : walkReach id w = w := by
  rw [walkReach_stale hl hs, walkStale, if_pos ht, hlt]

/-- R63, R87: an OVERSIZE label. -/
structure OversizeFrom (id : Nat) (l : Label) (b c : Block) : Prop where
  touches : Touches [.labels, .mgmt, .counts] b c
  own : getLabel c id = some { l with state := .failed, oversize := true, queued := none }
  others : ∀ j, j ≠ id → getLabel c j = getLabel b j
  oversize : counterValue c .oversizeCount = min (counterValue b .oversizeCount + 1) 4294967295
  counts : ∀ k, k ≠ .oversizeCount → counterValue c k = counterValue b k
  notices : c.mgmt.notices = noticeQueueAfter .labelOversize (.label id) none b.mode.clock b.mgmt.notices

theorem oversizeFrom_becomeOversize (hl : getLabel b id = some l) : OversizeFrom id l b (becomeOversize id b) := by
  have hrecord := modifyLabel_of_some (fun l => { l with state := .failed, oversize := true, queued := none }) hl
  refine ⟨by apply Touches.becomeOversize _ (.refl _ b) <;> decide, ?_, fun j hj => ?_, ?_, fun k hk => ?_, ?_⟩ <;>
    rw [becomeOversize, hrecord]
  · exact getLabel_putLabel_self b id _
  · exact getLabel_putLabel_other b _ hj
  · exact counterValue_bump_self _ (putLabel id _ b)
  · exact counterValue_bump_other (putLabel id _ b) hk
  · rfl

/-! ## What a step of the walk keeps -/

/-- R63: the label of an update in the plan is IN_FLIGHT under the tag to announce. -/
def UnderTag (b : Block) (e : PlanEntry) : Prop :=
  ∃ m f, getLabel b e.label = some m ∧ m.state = .inFlight ∧ m.queued = none ∧ m.inFlight = some f ∧
    f.ref.tag = e.newTag ∧ m.lastTag = e.newTag

/-- R96: a plan entry that a step of the walk adds for label `id`. -/
structure Planned (id : Nat) (w v : Walk) (e : PlanEntry) : Prop where
  plan : v.plan = w.plan ++ [e]
  label : e.label = id
  outcome : e.outcome = none
  cost : entryCost e + v.remaining = w.remaining
  underTag : e.kind ≠ .query → UnderTag v.block e

/-- R95: a step of the walk reaches its own label, and adds at most one entry to the plan. -/
structure WalkStep (id : Nat) (w v : Walk) : Prop where
  others : ∀ j, j ≠ id → getLabel v.block j = getLabel w.block j
  presence : ∀ l, getLabel w.block id = some l →
    ∃ m, getLabel v.block id = some m ∧ m.present = l.present ∧ m.lostCount = l.lostCount
  counts : ∀ k, k ≠ .oversizeCount → k ≠ .truncatedCount → counterValue v.block k = counterValue w.block k
  entries : (v.plan = w.plan ∧ v.remaining = w.remaining) ∨ ∃ e, Planned id w v e

theorem WalkStep.refl (id : Nat) (w : Walk) : WalkStep id w w :=
  ⟨fun _ _ => rfl, fun l hl => ⟨l, hl, rfl, rfl⟩, fun _ _ _ => rfl, Or.inl ⟨rfl, rfl⟩⟩

theorem walkStep_declined (hl : getLabel w.block id = some l) : WalkStep id w { w with block := declined id l w.block } := by
  obtain ⟨p, hp⟩ := requeued_declined id l w.block
  refine ⟨hp.others, fun k hk => ⟨_, hp.own, ?_⟩, fun k _ _ => ?_, Or.inl ⟨rfl, rfl⟩⟩
  · obtain rfl : l = k := Option.some.inj (hl.symm.trans hk)
    exact ⟨rfl, rfl⟩
  · rw [counterValue, counterValue, hp.touches.keeps .counts (by decide)]

theorem walkStep_oversize (hl : getLabel w.block id = some l) : WalkStep id w { w with block := becomeOversize id w.block } := by
  have hover := oversizeFrom_becomeOversize hl
  refine ⟨hover.others, fun k hk => ⟨_, hover.own, ?_⟩, fun k h1 _ => hover.counts k h1, Or.inl ⟨rfl, rfl⟩⟩
  obtain rfl : l = k := Option.some.inj (hl.symm.trans hk)
  exact ⟨rfl, rfl⟩

theorem walkStep_selected (hl : getLabel w.block id = some l) (hfits : fragmentCount u ≤ w.remaining) : WalkStep id w
    (Walk.mk (selectUpdate id l t u w.block) (w.remaining - fragmentCount u) (w.plan ++ [updateEntry id l u])) := by
  have hselected := selectedFor_selectUpdate id l t u w.block
  have hcost : entryCost (updateEntry id l u) = fragmentCount u := by
    cases h : u.kind <;> simp [entryCost, updateEntry, entryKindOf, h]
  refine ⟨hselected.others, fun k hk => ⟨_, hselected.own, ?_⟩, fun k _ h2 => hselected.counts k h2,
    Or.inr ⟨updateEntry id l u, rfl, rfl, rfl, ?_, fun _ => ⟨_, _, hselected.own, rfl, rfl, rfl, rfl, rfl⟩⟩⟩
  · obtain rfl : l = k := Option.some.inj (hl.symm.trans hk)
    exact ⟨rfl, rfl⟩
  · rw [hcost]
    exact Nat.add_sub_cancel' hfits

theorem walkStep_query (id : Nat) (hr : w.remaining ≠ 0) :
    WalkStep id w (Walk.mk w.block (w.remaining - 1) (w.plan ++ [queryEntry id])) where
  others := fun _ _ => rfl
  presence := fun l hl => ⟨l, hl, rfl, rfl⟩
  counts := fun _ _ _ => rfl
  entries := Or.inr ⟨queryEntry id, rfl, rfl, rfl, Nat.add_sub_cancel' (Nat.one_le_iff_ne_zero.2 hr), fun h => absurd rfl h⟩

theorem walkStep_walkReach (id : Nat) (hr : w.remaining ≠ 0) : WalkStep id w (walkReach id w) := by
  cases hl : getLabel w.block id with
  | none => rw [walkReach_absent hl]; exact .refl id w
  | some l =>
    by_cases hu : l.state = .uncertain
    · rw [walkReach_uncertain hl hu]
      exact walkStep_query id hr
    by_cases hs : l.state = .stale
    · by_cases ht : targetOf w.block l = l.target
      · cases hlt : l.target with
        | none => rw [walkReach_targetless hl hs ht hlt]; exact .refl id w
        | some t =>
          cases hc : compose w.block id l t with
          | none => rw [walkReach_oversize hl hs ht hlt hc]; exact walkStep_oversize hl
          | some u =>
            rw [walkReach_composed hl hs ht hlt hc]
            split
            · next hfits => exact walkStep_selected hl hfits
            · exact .refl id w
      · rw [walkReach_declined hl hs ht]
        exact walkStep_declined hl
    · rw [walkReach_other hl hu hs]
      exact .refl id w

/-! ## The walk (R93, R94) -/

variable {ids : List Nat} {group budget : Nat} {d : Block}

theorem walkQueue_stops (h : w.remaining = 0 ∨ 16 ≤ w.plan.length) (id : Nat) (ids : List Nat) :
    walkQueue (id :: ids) w = w := if_pos h

theorem walkQueue_goes (h1 : w.remaining ≠ 0) (h2 : w.plan.length < 16) (id : Nat) (ids : List Nat) :
    walkQueue (id :: ids) w = walkQueue ids (walkReach id w) :=
  if_neg fun h => h.elim h1 (Nat.not_le.2 h2)

/-- What is kept along the walk of a group's queue, which began with `budget` in block `d`. -/
structure Walked (group budget : Nat) (d : Block) (w : Walk) : Prop where
  room : w.plan.length ≤ 16
  cost : (w.plan.map entryCost).sum + w.remaining = budget
  entries : ∀ e ∈ w.plan, e.outcome = none ∧ e.label % 64 = group
  presence : ∀ j l, getLabel d j = some l →
    ∃ m, getLabel w.block j = some m ∧ m.present = l.present ∧ m.lostCount = l.lostCount
  counts : ∀ k, k ≠ .oversizeCount → k ≠ .truncatedCount → counterValue w.block k = counterValue d k

theorem Walked.start (group budget : Nat) (d : Block) : Walked group budget d (Walk.mk d budget []) :=
  ⟨Nat.zero_le _, Nat.zero_add _, by simp, fun _ l hl => ⟨l, hl, rfl, rfl⟩, fun _ _ _ => rfl⟩

theorem Walked.step {v : Walk} (h : Walked group budget d w) (hs : WalkStep id w v) (hroom : w.plan.length < 16)
    (hid : id % 64 = group) : Walked group budget d v := by
  have hpresence (j : Nat) (l : Label) (hl : getLabel d j = some l) :
      ∃ m, getLabel v.block j = some m ∧ m.present = l.present ∧ m.lostCount = l.lostCount := by
    obtain ⟨k, hk, hp, hc⟩ := h.presence j l hl
    by_cases hj : j = id
    · subst hj
      obtain ⟨m, hm, hmp, hmc⟩ := hs.presence k hk
      exact ⟨m, hm, hmp.trans hp, hmc.trans hc⟩
    · exact ⟨k, (hs.others j hj).trans hk, hp, hc⟩
  have hcounts (k : Counter) (h1 : k ≠ .oversizeCount) (h2 : k ≠ .truncatedCount) :
      counterValue v.block k = counterValue d k := (hs.counts k h1 h2).trans (h.counts k h1 h2)
  rcases hs.entries with ⟨hplan, hremaining⟩ | ⟨e, he⟩
  · exact ⟨hplan ▸ h.room, by rw [hplan, hremaining]; exact h.cost, hplan ▸ h.entries, hpresence, hcounts⟩
  · refine ⟨?_, ?_, fun x hx => ?_, hpresence, hcounts⟩
    · rw [he.plan, List.length_append]
      exact hroom
    · rw [he.plan, List.map_append, List.sum_append, Nat.add_assoc, List.map_singleton, List.sum_singleton, he.cost]
      exact h.cost
    · rw [he.plan, List.mem_append, List.mem_singleton] at hx
      rcases hx with hx | rfl
      · exact h.entries x hx
      · exact ⟨he.outcome, he.label ▸ hid⟩

theorem Walked.walkQueue (h : Walked group budget d w) (hids : ∀ id ∈ ids, id % 64 = group) :
    Walked group budget d (walkQueue ids w) := by
  induction ids generalizing w with
  | nil => exact h
  | cons id rest ih =>
    by_cases hstop : w.remaining = 0 ∨ 16 ≤ w.plan.length
    · rw [walkQueue_stops hstop]
      exact h
    · obtain ⟨hr, hroom⟩ := not_or.1 hstop
      rw [walkQueue_goes hr (Nat.lt_of_not_le hroom)]
      exact ih (h.step (walkStep_walkReach id hr) (Nat.lt_of_not_le hroom) (hids id (by simp)))
        fun j hj => hids j (List.mem_cons_of_mem _ hj)

/-- A step of the walk leaves the labels selected before it as they are. -/
theorem WalkStep.underTag {v : Walk} (hs : WalkStep id w v) (h : ∀ e ∈ w.plan, e.kind ≠ .query → UnderTag w.block e ∧ e.label ≠ id) :
    ∀ e ∈ v.plan, e.kind ≠ .query → UnderTag v.block e ∧ (e.label = id ∨ e ∈ w.plan) := by
  have hkept (e : PlanEntry) (he : e ∈ w.plan) (hk : e.kind ≠ .query) : UnderTag v.block e := by
    obtain ⟨⟨m, f, hm, hrest⟩, hne⟩ := h e he hk
    exact ⟨m, f, (hs.others _ hne).trans hm, hrest⟩
  intro e he hk
  rcases hs.entries with ⟨hplan, -⟩ | ⟨x, hx⟩
  · rw [hplan] at he
    exact ⟨hkept e he hk, Or.inr he⟩
  · rw [hx.plan, List.mem_append, List.mem_singleton] at he
    rcases he with he | rfl
    · exact ⟨hkept e he hk, Or.inr he⟩
    · exact ⟨hx.underTag hk, Or.inl hx.label⟩

/-- R63: the labels of the updates selected stay IN_FLIGHT while the walk goes on, each label being reached once. -/
theorem walkQueue_underTag (hids : ids.Nodup)
    (h : ∀ e ∈ w.plan, e.kind ≠ .query → UnderTag w.block e ∧ e.label ∉ ids) :
    ∀ e ∈ (walkQueue ids w).plan, e.kind ≠ .query → UnderTag (walkQueue ids w).block e := by
  induction ids generalizing w with
  | nil => exact fun e he hk => (h e he hk).1
  | cons id rest ih =>
    obtain ⟨hid, hrest⟩ := List.nodup_cons.1 hids
    by_cases hstop : w.remaining = 0 ∨ 16 ≤ w.plan.length
    · rw [walkQueue_stops hstop]
      exact fun e he hk => (h e he hk).1
    · obtain ⟨hr, hroom⟩ := not_or.1 hstop
      rw [walkQueue_goes hr (Nat.lt_of_not_le hroom)]
      refine ih hrest fun e he hk => ?_
      have hstep := (walkStep_walkReach id hr).underTag
        (fun e he hk => (h e he hk).imp_right fun hn heq => hn (heq ▸ List.mem_cons_self))
      obtain ⟨hunder, hlabel⟩ := hstep e he hk
      refine ⟨hunder, ?_⟩
      rcases hlabel with rfl | hold
      · exact hid
      · exact fun hmem => (h e hold hk).2 (List.mem_cons_of_mem _ hmem)

end Reaching

end Sys2Proof.Machine

namespace Sys2Proof.Machine

/-! # BEACON (R63, R70, R90, R93 to R97) -/

section Beacons

variable {a b : Block} {id : Nat} {l : Label} {w : Walk}

/-! ## The walk of a slot and the beacon's end -/

theorem slotWalk_touches (d : Block) : Touches [.items, .labels, .composer, .mgmt, .counts] d (slotWalk d).block := by
  apply Touches.slotWalk (.refl _ d) <;> decide

theorem slotWalk_walked (d : Block) : Walked d.radio.slot d.radio.budget d (slotWalk d) :=
  (Walked.start _ _ d).walkQueue fun _ h => wakeGroup_of_mem_wakeQueue h

theorem slotWalk_underTag {d : Block} (hs : tableSorted d.labels.table) :
    ∀ e ∈ (slotWalk d).plan, e.kind ≠ .query → UnderTag (slotWalk d).block e :=
  walkQueue_underTag (nodup_wakeQueue hs) (by simp)

theorem beacon_eq (a : Block) : beacon a = beginTransaction (selectPlan (slotBegun a)) := rfl

theorem beacon_touches (a : Block) : Touches [.radio, .counts, .out] (slotWalk (slotBegun a)).block (beacon a) :=
  (Touches.radio (.refl _ _) (by decide)).trans ((beginTransaction_touches _).mono (by decide))

theorem beacon_radio (a : Block) :
    (beacon a).radio = { (slotBegun a).radio with plan := (slotWalk (slotBegun a)).plan } := by
  rw [beacon_eq, ← (beginTransaction_touches _).keeps .radio (by decide), selectPlan,
    ← (slotWalk_touches _).keeps .radio (by decide)]

theorem getLabel_beacon (a : Block) (id : Nat) : getLabel (beacon a) id = getLabel (slotWalk (slotBegun a)).block id := by
  rw [getLabel, getLabel, (beacon_touches a).keeps .labels (by decide)]

theorem slotWalk_out (d : Block) : (slotWalk d).block.out = d.out := ((slotWalk_touches d).keeps .out (by decide)).symm

theorem transmitted_beacon (a : Block) :
    Transmitted (slotWalk (slotBegun a)).plan.head? (slotWalk (slotBegun a)).block (beacon a) := by
  have hcursor : (slotWalk (slotBegun a)).block.radio.cursor = 0 := by
    rw [← (slotWalk_touches _).keeps .radio (by decide), slotBegun_radio]
  have hentry : currentEntry (selectPlan (slotBegun a)) = (slotWalk (slotBegun a)).plan.head? := by
    rw [List.head?_eq_getElem?, ← hcursor]
    rfl
  rw [← hentry]
  exact (transmitted_beginTransaction _).of_start rfl rfl fun _ _ => rfl

theorem beacon_counts (a : Block) {k : Counter} (h1 : k ≠ .updatesSent) (h2 : k ≠ .queriesSent) (h3 : k ≠ .fragmentsSent) :
    counterValue (beacon a) k = counterValue (slotWalk (slotBegun a)).block k :=
  beginTransaction_counts _ h1 h2 h3

/-! ## The numbers of a slot (R90, R93) -/

theorem cycleAfter_eq (r : RadioBlock) :
    cycleAfter r = if r.fresh = false ∧ slotAfter r = 0 then (r.cycle + 1) % 65536 else r.cycle := by
  unfold cycleAfter
  by_cases h : r.fresh = true <;> by_cases hs : slotAfter r = 0 <;> simp [h, hs]

theorem slotBudget_eq (r : RadioSettings) (m : Mode) :
    slotBudget r m = if m = .closed then r.closedBudget else r.tradingBudget := by
  cases m <;> rfl

/-- R97: what a transaction sends goes behind what was sent before. -/
theorem Transmitted.sent {entry : Option PlanEntry} {o : Output} (h : Transmitted entry a b) (ho : o ∈ a.out) : o ∈ b.out := by
  obtain ⟨hnone, hsome⟩ := h
  cases entry with
  | none => exact (hnone rfl).1 ▸ ho
  | some e =>
    obtain ⟨⟨bytes, -, hout⟩, -⟩ := hsome e rfl
    rw [hout]
    exact List.mem_append_left _ ho

theorem Transmitted.announced {e : PlanEntry} (h : Transmitted (some e) a b) :
    Output.announce b.radio.channel e.label e.kind e.newTag e.baseTag e.fragments ∈ b.out := by
  obtain ⟨⟨bytes, -, hout⟩, -⟩ := h.2 e rfl
  rw [hout]
  simp

/-! ## Labels gone LOST (R70) -/

theorem presenceLabel_gone {cycle : Nat} (h : l.present = true ∧ ∃ c, l.heard = some c ∧ 33 ≤ (cycle + 65536 - c) % 65536) :
    (presenceLabel cycle l).present = false ∧ (presenceLabel cycle l).lostCount = min (l.lostCount + 1) 65535 := by
  rw [presenceLabel_lost (goesLost_iff.2 h)]
  exact ⟨rfl, rfl⟩

theorem presenceLabel_here {cycle : Nat} (h : ¬ (l.present = true ∧ ∃ c, l.heard = some c ∧ 33 ≤ (cycle + 65536 - c) % 65536)) :
    (presenceLabel cycle l).present = l.present ∧ (presenceLabel cycle l).lostCount = l.lostCount := by
  obtain ⟨k, hk⟩ := clearOldCandidate_eq cycle l
  rw [presenceLabel_kept (mt goesLost_iff.1 h), hk]
  exact ⟨rfl, rfl⟩

/-! ## What the selection finds where every window had closed (R70, R90) -/

section NoWindow

variable (hdone : a.radio.plan.length ≤ a.radio.cursor)
include hdone

theorem slotBegun_frame : Touches [.radio, .labels, .composer, .mgmt, .counts, .time, .out] a (slotBegun a) := by
  have hbegun := (beginSlot_touches (closeSlot a)).mono (gs := [.radio, .labels, .composer, .mgmt, .counts, .time, .out]) (by decide)
  have hfound := hbegun.trans ((slotBegun_touches a).mono (by decide))
  rwa [closeSlot_of_done hdone] at hfound

theorem slotBegun_absent (hl : getLabel a id = none) : getLabel (slotBegun a) id = none := by
  rw [slotBegun_getLabel, closeSlot_of_done hdone, hl]
  split <;> rfl

theorem slotBegun_label (hl : getLabel a id = some l) : getLabel (slotBegun a) id =
    some (if (slotBegun a).radio.slot = 0 then presenceLabel (slotBegun a).radio.cycle l else l) := by
  rw [slotBegun_getLabel, closeSlot_of_done hdone, hl]
  split <;> rfl

end NoWindow

/-- Settles O33: the slot begun, its labels' presence checked, the walk over its queue, and the first transaction. -/
theorem beaconOpensTheNextSlotAndSelectsItsLabels : Obligations.BeaconOpensTheNextSlotAndSelectsItsLabels := by
  unfold Obligations.BeaconOpensTheNextSlotAndSelectsItsLabels
  refine ⟨fun s => ?_, fun d g hs => ⟨nodup_wakeQueue hs, fun id => mem_wakeQueue hs, wakeQueue_sorted hs⟩, rfl,
    fun w id rest => ⟨rfl, fun h => walkQueue_stops h id rest, fun h1 h2 => walkQueue_goes h1 h2 id rest⟩, fun w id l hl => ?_⟩
  · have hwalked := slotWalk_walked (slotBegun s.block)
    have htransmitted := transmitted_beacon s.block
    have hradio := beacon_radio s.block
    have hslot := slotBegun_radio s.block
    have hlater := beacon_touches s.block
    have htouches : Touches [.radio, .labels, .items, .composer, .mgmt, .counts, .time, .out] s.block (beacon s.block) := by
      apply Touches.beacon (.refl _ _) <;> decide
    have htime : (beacon s.block).time = { s.block.time with toBeacon := 250 } := by
      rw [← hlater.keeps .time (by decide), ← (slotWalk_touches _).keeps .time (by decide), slotBegun_time]
    refine ⟨beacon s.block, (slotBegun s.block).radio.slot, by rw [exec_eq_effect, effect], htouches, ?_, ?_, htime, ?_,
      ?_, ?_, ?_, fun e rest he => ?_, fun hs e he hk => ?_, fun hdone h0 id l hl => ?_, slotBegun s.block, fun hdone => ?_,
      fun w hw => ?_⟩
    · rw [hslot]
      rfl
    · rw [hradio, hslot, cycleAfter_eq, slotBudget_eq]
      rfl
    · refine htransmitted.sent ?_
      rw [slotWalk_out, slotBegun_out, hradio]
      exact List.mem_append_right _ (List.mem_singleton.2 rfl)
    · rw [hradio]
      exact hwalked.room
    · rw [hradio]
      exact Nat.le.intro hwalked.cost
    · rw [hradio]
      exact hwalked.entries
    · have hhead : (slotWalk (slotBegun s.block)).plan.head? = some e := by
        rw [hradio] at he
        exact congrArg List.head? he
      rw [hhead] at htransmitted
      exact htransmitted.announced
    · rw [hradio] at he
      rw [getLabel_beacon]
      exact slotWalk_underTag (slotBegun_sorted hs) e he hk
    · have hbegun := slotBegun_label hdone hl
      rw [if_pos h0] at hbegun
      obtain ⟨m, hm, hpresent, hcount⟩ := hwalked.presence _ _ hbegun
      refine ⟨m, (getLabel_beacon _ id).trans hm, fun h => ?_, fun h => ?_⟩ <;> rw [hpresent, hcount]
      · rw [hradio] at h
        exact presenceLabel_gone h
      · rw [hradio] at h
        exact presenceLabel_here h
    · rw [hradio]
      have hclosed := closeSlot_of_done hdone
      refine ⟨slotBegun_frame hdone, ?_, fun k => ?_, fun hs => ?_, ?_, ?_, fun id hl => slotBegun_absent hdone hl,
        fun id l hl => ⟨_, slotBegun_label hdone hl, ?_⟩⟩
      · rw [slotBegun_out, hclosed]
      · rw [slotBegun_counts, hclosed]
      · exact ⟨lostAtBeacon s.block, lostAtBeacon_sorted hs, fun id => mem_lostAtBeacon, slotBegun_notices hclosed hs⟩
      · rw [slotBegun_composer, hclosed]
      · rw [slotBegun_nextJoin, hclosed]
      · split
        · obtain ⟨p, n, k, h⟩ := presenceLabel_eq (slotBegun s.block).radio.cycle l
          rw [h]
        · rfl
    · have hw' : w = slotWalk (slotBegun s.block) := by
        rw [hw, hradio]
        rfl
      subst hw'
      refine ⟨by rw [hradio], (hlater.keeps .labels (by decide)).symm, (hlater.keeps .items (by decide)).symm,
        (hlater.keeps .composer (by decide)).symm, (hlater.keeps .mgmt (by decide)).symm, slotWalk_out _, htransmitted,
        fun k h1 h2 h3 => beacon_counts _ h1 h2 h3, hwalked.counts⟩
  · refine ⟨fun hs => walkReach_uncertain hl hs, fun hs ht p hp => ?_, fun hs t ht hlt => ⟨fun hc => ?_, fun u hc => ⟨fun hfits => ?_,
      fun hfits => ?_⟩⟩⟩
    · obtain ⟨q, hq⟩ := requeued_declined id l w.block
      exact ⟨_, _, walkReach_declined hl hs ht, hq.touches, hq.others, rfl, declined_place hp rfl⟩
    · have hover := oversizeFrom_becomeOversize hl
      exact ⟨_, walkReach_oversize hl hs ht hlt hc, hover.touches, hover.others, hover.own, hover.oversize, hover.notices⟩
    · rw [walkReach_composed hl hs ht hlt hc, if_neg (Nat.not_le.2 hfits)]
    · have hselected := selectedFor_selectUpdate id l t u w.block
      have hreach := walkReach_composed hl hs ht hlt hc
      rw [if_pos hfits, updateEntry, entryKindOf_eq] at hreach
      have hown := hselected.own
      rw [selectedLabel_eq] at hown
      refine ⟨_, issueTag l, baseTagOf u l, refOfTarget l t, hreach, hselected.touches, issueTag_next, issueTag_skip,
        baseTagOf_eq u l, fun h => ?_, fun code k n h => ?_, hselected.others, hown, hselected.composer, hselected.style,
        hselected.truncated, hselected.notices⟩
      · subst h
        exact ⟨rfl, hselected.items⟩
      · subst h
        refine ⟨fun x hx => ?_, hselected.items⟩
        rw [refOfTarget, hx, Option.getD_some]

end Beacons

end Sys2Proof.Machine

namespace Sys2Proof.Machine

/-! # Compositions (R79, R82 to R84, R86 to R88, R97, R192) -/

section Compositions

variable {b : Block} {id : Nat} {l : Label} {code : Nat} {v : Option Version} {u w full : Composed}
  {differing : List TemplateField}

/-! ## The coded update and its fragments (R86, R87, R97) -/

theorem codedUpdate_length (u : Composed) (newTag baseTag : Nat) :
    (codedUpdate u newTag baseTag).length = codedLength u := by
  rw [codedUpdate, List.length_append]
  rfl

theorem fragmentCount_pos (u : Composed) : 1 ≤ fragmentCount u := by
  simp only [fragmentCount, codedLength]
  omega

theorem fragmentCount_le_iff (u : Composed) : fragmentCount u ≤ Config.maxFragments ↔ 8 + u.content.length ≤ 6144 := by
  simp only [fragmentCount, codedLength, Config.maxFragments]
  omega

theorem fragmentsOf_flatten (bytes : List Byte) (n : Nat) : (fragmentsOf bytes n).flatten = bytes.take (n * 64) := by
  induction n with
  | zero => rfl
  | succ n ih =>
    have hsplit : fragmentsOf bytes (n + 1) = fragmentsOf bytes n ++ [(bytes.drop (n * 64)).take 64] := by
      simp [fragmentsOf, List.range_succ]
    rw [hsplit, List.flatten_append, ih, List.flatten_singleton, Nat.succ_mul, List.take_add]

theorem fragmentsOf_piece {bytes x : List Byte} {n k : Nat} (h : (fragmentsOf bytes n)[k]? = some x) :
    k < n ∧ x.length = min 64 (bytes.length - k * 64) := by
  obtain ⟨hk, rfl⟩ := List.getElem?_eq_some_iff.1 h
  simp only [fragmentsOf, List.length_map, List.length_range] at hk
  exact ⟨hk, by simp [fragmentsOf]⟩

/-- R87, R97: `fragmentCount` pieces of 64 bytes carry the whole coded update. -/
theorem fragments_join (u : Composed) (newTag baseTag : Nat) :
    (fragmentsOf (codedUpdate u newTag baseTag) (fragmentCount u)).flatten = codedUpdate u newTag baseTag := by
  rw [fragmentsOf_flatten]
  refine List.take_of_length_le ?_
  rw [codedUpdate_length, fragmentCount]
  omega

theorem fragments_lengths {newTag baseTag k : Nat} {x : List Byte}
    (h : (fragmentsOf (codedUpdate u newTag baseTag) (fragmentCount u))[k]? = some x) :
    x.length ≤ 64 ∧ 1 ≤ x.length ∧ (k + 1 < fragmentCount u → x.length = 64) := by
  obtain ⟨hk, hlen⟩ := fragmentsOf_piece h
  rw [codedUpdate_length] at hlen
  unfold fragmentCount at hk ⊢
  omega

/-! ## The image header (R86, R192) -/

theorem headerByte_toNat (u : Composed) : (headerByte u).toNat = kindCode u.kind * 64 +
    (Config.classCode (classNumber u.cls)).val * 16 + (if u.planes = 2 then 8 else 0) + (if u.truncated then 1 else 0) := by
  have hkind : kindCode u.kind ≤ 2 := by cases u.kind <;> decide
  have hclass := (Config.classCode (classNumber u.cls)).isLt
  rw [headerByte, BitVec.toNat_ofNat]
  refine Nat.mod_eq_of_lt ?_
  split <;> split <;> omega

/-- R192: the fields of byte 0 of the image header read back. -/
theorem headerByte_fields (u : Composed) : (headerByte u).toNat / 64 = kindCode u.kind ∧
    (headerByte u).toNat / 16 % 4 = (Config.classCode (classNumber u.cls)).val ∧
    ((headerByte u).toNat / 8 % 2 = 1 ↔ u.planes = 2) ∧ (headerByte u).toNat / 2 % 4 = 0 ∧
    ((headerByte u).toNat % 2 = 1 ↔ u.truncated = true) := by
  have hclass := (Config.classCode (classNumber u.cls)).isLt
  rw [headerByte_toNat]
  cases u.truncated with
  | false =>
    simp only [Bool.false_eq_true, if_false, iff_false]
    split <;> omega
  | true =>
    simp only [if_true, iff_true]
    split <;> omega

/-! ## The BLANK image (R79) -/

theorem codeFrom_replicate (v : Bool) {n k m : Nat} (hn : n ≤ 128) (h : n + k = 128 * (m + 1)) :
    codeFrom v n (List.replicate k v) = List.replicate (m + 1) (runByte v 128) := by
  induction k generalizing n m with
  | zero =>
    obtain ⟨rfl, rfl⟩ : n = 128 ∧ m = 0 := by omega
    rfl
  | succ k ih =>
    rw [List.replicate_succ, codeFrom]
    split
    · exact ih (by omega) (by omega)
    · next hfull =>
      obtain rfl : n = 128 := by
        simp only [true_and] at hfull
        omega
      obtain ⟨j, rfl⟩ : ∃ j, m = j + 1 := ⟨m - 1, by omega⟩
      rw [ih (m := j) (by omega) (by omega), ← List.replicate_succ]

/-- R85: pixels of one value in whole runs are full run bytes. -/
theorem codeRuns_replicate (v : Bool) (m : Nat) :
    codeRuns (List.replicate (128 * m) v) = List.replicate m (runByte v 128) := by
  cases m with
  | zero => rfl
  | succ m =>
    have hlen : 128 * (m + 1) = (128 * m + 127) + 1 := by omega
    rw [hlen, List.replicate_succ, codeRuns]
    exact codeFrom_replicate v (by omega) (by omega)

/-- R82: an image without fields is clear. -/
theorem regionPixels_nil (plane : Plane) (x0 x1 y0 y1 : Nat) :
    regionPixels [] plane x0 x1 y0 y1 = List.replicate ((x1 - x0 + 1) * (y1 - y0 + 1)) false := by
  refine List.eq_replicate_iff.2 ⟨rows_length _ _ _, fun p hp => ?_⟩
  simp only [regionPixels, List.mem_flatMap, List.mem_map] at hp
  obtain ⟨_, -, _, -, rfl⟩ := hp
  cases plane <;> rfl

theorem composeBlank_eq (cls : DisplayClass) : composeBlank cls =
    Composed.mk .full cls 1 0 false (List.replicate (classWidth cls * classHeight cls / 128) 127#8) := by
  have hpixels : (classWidth cls - 1 - 0 + 1) * (classHeight cls - 1 - 0 + 1) =
      128 * (classWidth cls * classHeight cls / 128) := by cases cls <;> rfl
  rw [composeBlank, composeFull, regionRuns, regionPixels_nil, hpixels, codeRuns_replicate, if_neg (by decide),
    List.append_nil]
  rfl

/-! ## FULL, PARTIAL or OVERSIZE (R83, R87) -/

theorem notOversize_fits (h : 8 + u.content.length ≤ 6144) : notOversize u = some u :=
  if_pos ((fragmentCount_le_iff u).2 h)

theorem notOversize_over (h : 6144 < 8 + u.content.length) : notOversize u = none :=
  if_neg fun hfits => Nat.not_lt.2 ((fragmentCount_le_iff u).1 hfits) h

theorem notOversize_some (h : notOversize u = some w) : w = u ∧ fragmentCount w ≤ Config.maxFragments := by
  unfold notOversize at h
  split at h
  · next hfits =>
    cases h
    exact ⟨rfl, hfits⟩
  · cases h

theorem chooseUpdate_fits (h : 8 + u.content.length ≤ 6144) : chooseUpdate full (some u) = some u :=
  if_pos ((fragmentCount_le_iff u).2 h)

theorem chooseUpdate_over {o : Option Composed} (h : ∀ u, o = some u → 6144 < 8 + u.content.length) :
    chooseUpdate full o = notOversize full := by
  cases o with
  | none => rfl
  | some u => exact if_neg fun hfits => Nat.not_lt.2 ((fragmentCount_le_iff u).1 hfits) (h u rfl)

theorem chooseUpdate_some {o : Option Composed} (h : chooseUpdate full o = some u) :
    (u = full ∨ o = some u) ∧ fragmentCount u ≤ Config.maxFragments := by
  cases o with
  | none => exact (notOversize_some h).imp_left .inl
  | some w =>
    by_cases hw : fragmentCount w ≤ Config.maxFragments
    · rw [chooseUpdate, if_pos hw] at h
      cases h
      exact ⟨.inr rfl, hw⟩
    · rw [chooseUpdate, if_neg hw] at h
      exact (notOversize_some h).imp_left .inl

theorem chooseUpdate_ne_none (o : Option Composed) (h : fragmentCount full ≤ Config.maxFragments) :
    chooseUpdate full o ≠ none := by
  cases o with
  | none => simp [chooseUpdate, notOversize, h]
  | some w =>
    by_cases hw : fragmentCount w ≤ Config.maxFragments
    · simp [chooseUpdate, hw]
    · simp [chooseUpdate, hw, notOversize, h]

/-! ## The conditions of a PARTIAL update (R83) -/

theorem partialAllowed_iff (b : Block) (id : Nat) (l : Label) : partialAllowed b id l = true ↔
    l.displayKnown = true ∧ l.inFlight = none ∧ l.marks = Marks.mk false false false ∧ id ∈ b.composer.style := by
  have hmarks (m : Marks) : m = Marks.mk false false false ↔
      m.redraw = false ∧ m.force = false ∧ m.fullRequired = false := by
    cases m
    simp
  simp [partialAllowed, hmarks, and_assoc]

theorem confirmedVersion_iff {o : Option Version} : confirmedVersion b l code = some o ↔ ∃ r k n t,
    l.confirmed = some r ∧ r.what = .version code k n t ∧ l.template = some t ∧ namedVersion b code k n = o := by
  unfold confirmedVersion
  cases l.confirmed with
  | none => simp
  | some r =>
    cases hw : r.what with
    | blank => simp [hw]
    | version c k n t =>
      simp only [hw, Option.ite_none_right_eq_some, Option.some.injEq]
      constructor
      · rintro ⟨⟨rfl, ht⟩, hv⟩
        exact ⟨r, k, n, t, rfl, hw, ht, hv⟩
      · rintro ⟨_, k', n', t', rfl, hw', ht, hv⟩
        cases hw.symm.trans hw'
        exact ⟨⟨rfl, ht⟩, hv⟩

theorem partialFields_iff : partialFields b id l code v = some differing ↔ partialAllowed b id l = true ∧
    differing.length ≤ 4 ∧
    ∃ old, confirmedVersion b l code = some old ∧ differing = differingFields b (boundTemplate b l) code old v := by
  unfold partialFields
  split
  · next ha =>
    cases confirmedVersion b l code with
    | none => simp [ha]
    | some old =>
      simp only [ha, true_and, Option.ite_none_right_eq_some, Option.some.injEq, exists_eq_left']
      constructor
      · rintro ⟨hlen, rfl⟩
        exact ⟨hlen, rfl⟩
      · rintro ⟨hlen, rfl⟩
        exact ⟨hlen, rfl⟩
  · next ha => simp [ha]

/-- R83: with the bound template given, the fields chosen are those that differ from the confirmed version's. -/
theorem partialFields_bound {template : Nat} (hl : l.template = some template) :
    partialFields b id l code v = some differing ↔ l.displayKnown = true ∧ l.inFlight = none ∧
      l.marks = Marks.mk false false false ∧ id ∈ b.composer.style ∧ differing.length ≤ 4 ∧ ∃ r k n, l.confirmed = some r ∧
        r.what = .version code k n template ∧
        differing = differingFields b (boundTemplate b l) code (namedVersion b code k n) v := by
  rw [partialFields_iff, partialAllowed_iff]
  constructor
  · rintro ⟨⟨hknown, hflight, hmarks, hstyle⟩, hlen, old, hold, hd⟩
    obtain ⟨r, k, n, t, hr, hwhat, ht, rfl⟩ := confirmedVersion_iff.1 hold
    cases hl.symm.trans ht
    exact ⟨hknown, hflight, hmarks, hstyle, hlen, r, k, n, hr, hwhat, hd⟩
  · rintro ⟨hknown, hflight, hmarks, hstyle, hlen, r, k, n, hr, hwhat, hd⟩
    exact ⟨⟨hknown, hflight, hmarks, hstyle⟩, hlen, _, confirmedVersion_iff.2 ⟨r, k, n, template, hr, hwhat, hl, rfl⟩, hd⟩

/-! ## A composition for a version target (R83, R84, R88) -/

theorem anyTruncated_eq {fields : List LaidField} {cut : Bool} (hcut : cut = true ↔ ∃ f ∈ fields, f.truncated = true) :
    fields.any LaidField.truncated = cut := by
  rw [Bool.eq_iff_iff, List.any_eq_true, hcut]

/-- R84, R192: the bytes of one window. -/
theorem partialWindow_eq (fields : List LaidField) (planes : Nat) (f : TemplateField) : partialWindow fields planes f =
    [BitVec.ofNat 8 (f.xStart / 256), BitVec.ofNat 8 f.xStart, BitVec.ofNat 8 (f.xEnd / 256), BitVec.ofNat 8 f.xEnd,
      BitVec.ofNat 8 f.yStart, BitVec.ofNat 8 f.yEnd] ++ regionRuns fields planes f.xStart f.xEnd f.yStart f.yEnd := rfl

theorem boundTemplate_eq {x : Fin 32} {t : Template} (hl : l.template = some x.val)
    (ht : b.composer.templates.get x = some t) : boundTemplate b l = t := by
  simp [boundTemplate, hl, ht]

theorem composeVersion_partial (h : partialFields b id l code v = some differing)
    (hu : composePartial (boundTemplate b l).cls (boundTemplate b l).planes (layTemplate b (boundTemplate b l) code v)
      differing = u) (hfits : 8 + u.content.length ≤ 6144) : composeVersion b id l code v = some u := by
  rw [composeVersion, h, Option.map_some, hu]
  exact chooseUpdate_fits hfits

theorem composeVersion_full (h : ∀ differing, partialFields b id l code v = some differing →
    6144 < 8 + (composePartial (boundTemplate b l).cls (boundTemplate b l).planes
      (layTemplate b (boundTemplate b l) code v) differing).content.length) :
    composeVersion b id l code v = notOversize (composeFull (boundTemplate b l).cls (boundTemplate b l).planes
      (layTemplate b (boundTemplate b l) code v)) := by
  refine chooseUpdate_over fun u hu => ?_
  obtain ⟨differing, hd, rfl⟩ := Option.map_eq_some_iff.1 hu
  exact h differing hd

/-- R83, R87: a composed update fits; it is a FULL one, or a PARTIAL one of the fields chosen. -/
theorem compose_some {t : Target} (h : compose b id l t = some u) : fragmentCount u ≤ Config.maxFragments ∧
    (u.kind = .full ∧ u.windows = 0 ∨ u.kind = .partialUpdate ∧ ∃ code k n differing, t = .version code k n ∧
      partialFields b id l code (namedVersion b code k n) = some differing ∧ u.windows = differing.length) := by
  cases t with
  | blank =>
    obtain ⟨rfl, hfits⟩ := notOversize_some h
    exact ⟨hfits, .inl ⟨rfl, rfl⟩⟩
  | version code k n =>
    obtain ⟨rfl | hpartial, hfits⟩ := chooseUpdate_some h
    · exact ⟨hfits, .inl ⟨rfl, rfl⟩⟩
    · obtain ⟨differing, hd, rfl⟩ := Option.map_eq_some_iff.1 hpartial
      exact ⟨hfits, .inr ⟨rfl, code, k, n, differing, rfl, hd, rfl⟩⟩

/-- Settles O32: the fragments, FULL or PARTIAL by R83, a version target whose versions stand, BLANK, and the header. -/
theorem aCompositionFitsItsFragments : Obligations.ACompositionFitsItsFragments := by
  unfold Obligations.ACompositionFitsItsFragments
  refine ⟨fun b id l t u h => ?composed, fun b id l code k n h => chooseUpdate_ne_none _ h, ?version,
    fun b id l => ?blank, rfl, fun u newTag baseTag check hcheck => ?header⟩
  case composed =>
    obtain ⟨hfits, hkind⟩ := compose_some h
    refine ⟨fragmentCount_pos u, hfits, fun newTag baseTag => ⟨codedUpdate_length u newTag baseTag,
      fragments_join u newTag baseTag, fun k x => fragments_lengths⟩, fun hfull => ?_, fun hpartial => ?_⟩
    · rcases hkind with ⟨-, hwindows⟩ | ⟨hother, -⟩
      · exact hwindows
      · cases hfull.symm.trans hother
    · rcases hkind with ⟨hother, -⟩ | ⟨-, code, k, n, differing, rfl, hd, hwindows⟩
      · cases hpartial.symm.trans hother
      obtain ⟨hallowed, hlen, old, hold, -⟩ := partialFields_iff.1 hd
      obtain ⟨hknown, hflight, hmarks, hstyle⟩ := (partialAllowed_iff b id l).1 hallowed
      obtain ⟨r, j, m, template, hr, hwhat, htemplate, -⟩ := confirmedVersion_iff.1 hold
      exact ⟨hwindows.trans_le hlen, hknown, hflight, hmarks, hstyle, code, k, n, r, j, m, template, rfl, hr, hwhat,
        htemplate⟩
  case version =>
    intro b id l code k n i v x t fields runs whole cut differing windows eligible hi hv hn hl ht hfields hruns hwhole
      hcut hdiffering hwindows heligible hstands
    have hbound := boundTemplate_eq hl ht
    have hnamed : namedVersion b code k n = some v := by
      rw [← hn]
      exact namedVersion_of_slot hi hv
    have hlaid : layTemplate b t code (some v) = fields := hfields.symm
    have hregion : regionRuns fields t.planes = runs := by
      funext x0 x1 y0 y1
      exact (hruns x0 x1 y0 y1).symm
    have hfull : composeFull t.cls t.planes fields = Composed.mk .full t.cls t.planes 0 cut whole := by
      rw [composeFull, anyTruncated_eq hcut, hregion, hwhole]
    have hpartial (o : Version) : composePartial t.cls t.planes fields (differing o) =
        Composed.mk .partialUpdate t.cls t.planes (differing o).length cut (windows o) := by
      rw [composePartial, anyTruncated_eq hcut, hwindows]
      simp only [funext (partialWindow_eq fields t.planes), hregion]
    have hdiffers (o : Version) : differingFields b (boundTemplate b l) code (some o) (some v) = differing o := by
      rw [hbound, hdiffering]
      rfl
    have hchosen (o : Version) (ho : eligible o) : partialFields b id l code (some v) = some (differing o) := by
      obtain ⟨hknown, hflight, hmarks, hstyle, hlen, r, j, m, hr, hwhat, hold⟩ := (heligible o).1 ho
      exact (partialFields_bound hl).2 ⟨hknown, hflight, hmarks, hstyle, hlen, r, j, m, hr, hwhat, by rw [hold, hdiffers]⟩
    have heligible_of (fs : List TemplateField) (hfs : partialFields b id l code (some v) = some fs) :
        ∃ o, eligible o ∧ fs = differing o := by
      obtain ⟨hknown, hflight, hmarks, hstyle, hlen, r, j, m, hr, hwhat, hd⟩ := (partialFields_bound hl).1 hfs
      obtain ⟨o, hold⟩ := Option.ne_none_iff_exists'.1 (hstands r j m hr hwhat)
      rw [hold, hdiffers] at hd
      subst hd
      exact ⟨o, (heligible o).2 ⟨hknown, hflight, hmarks, hstyle, hlen, r, j, m, hr, hwhat, hold⟩, rfl⟩
    have hcompose : compose b id l (.version code k n) = composeVersion b id l code (some v) := by
      rw [compose, hnamed]
    rw [hcompose]
    refine ⟨fun o ho hfits => ?_, fun hover => ?_⟩
    · refine composeVersion_partial (hchosen o ho) ?_ hfits
      rw [hbound, hlaid, hpartial]
    · have hnone : composeVersion b id l code (some v) = notOversize (Composed.mk .full t.cls t.planes 0 cut whole) := by
        rw [composeVersion_full, hbound, hlaid, hfull]
        intro fs hfs
        obtain ⟨o, ho, rfl⟩ := heligible_of fs hfs
        rw [hbound, hlaid, hpartial]
        exact hover o ho
      rw [hnone]
      exact ⟨fun h => notOversize_fits h, fun h => notOversize_over h⟩
  case blank =>
    rw [compose, composeBlank_eq]
    refine notOversize_fits ?_
    rw [List.length_replicate]
    cases l.cls <;> decide
  case header =>
    subst hcheck
    obtain ⟨hkind, hclass, hplanes, hspare, htruncated⟩ := headerByte_fields u
    refine ⟨rfl, rfl, rfl, headerByte u, rfl, hkind.trans ?_, hclass.trans ?_, hplanes, hspare, htruncated⟩
    · cases u.kind <;> rfl
    · cases u.cls <;> rfl

end Compositions

end Sys2Proof.Machine

namespace Sys2Proof.Machine

/-! # The fixed cells of the policy matrix under the operations of each block (R140, R190)

What the invariant speaks of lies in two parts of the block that many operations write to for another reason: the forwarder,
whose address table learns, and the management interface, whose notice queue every block fills. -/

section PolicyKept

variable {b c : Block}

/-! ## What the invariant rests on -/

/-- The parts that hold none of the matrices. -/
def matrixFreeParts : List Part :=
  [.mode, .price, .items, .labels, .composer, .radio, .till, .guest, .line, .exch, .counts, .time, .pins, .out]

/-- The matrix in force, the flash image and a running save are the same. -/
structure SameMatrices (b c : Block) : Prop where
  policy : c.fwd.policy = b.fwd.policy
  flash : c.mgmt.flash = b.mgmt.flash
  save : c.mgmt.save = b.mgmt.save

theorem PolicyFixed.same (h : PolicyFixed b) (s : SameMatrices b c) : PolicyFixed c := by
  unfold PolicyFixed
  rw [s.policy, s.flash, s.save]
  exact h

theorem PolicyFixed.quiet (h : PolicyFixed b) (t : Touches matrixFreeParts b c) : PolicyFixed c :=
  h.same ⟨congrArg ForwarderBlock.policy (t .fwd (by decide)).symm, congrArg MgmtBlock.flash (t .mgmt (by decide)).symm,
    congrArg MgmtBlock.save (t .mgmt (by decide)).symm⟩

theorem PolicyFixed.noticeWith (h : PolicyFixed b) (k : NoticeKind) (x : NoticeSubject) (r : Option QualClass) :
    PolicyFixed (noticeWith k x r b) := h.same ⟨rfl, rfl, rfl⟩

theorem PolicyFixed.notice (h : PolicyFixed b) (k : NoticeKind) (x : NoticeSubject) : PolicyFixed (notice k x b) :=
  h.noticeWith k x none

theorem PolicyFixed.bump (h : PolicyFixed b) (k : Counter) : PolicyFixed (bump k b) := h.same ⟨rfl, rfl, rfl⟩

theorem PolicyFixed.emit (h : PolicyFixed b) (o : Output) : PolicyFixed (emit o b) := h.same ⟨rfl, rfl, rfl⟩

theorem PolicyFixed.foldl {α : Type} {f : Block → α → Block} (h : PolicyFixed b) (l : List α)
    (hf : ∀ x d, PolicyFixed d → PolicyFixed (f d x)) : PolicyFixed (l.foldl f b) := by
  induction l generalizing b with
  | nil => exact h
  | cons x rest ih => exact ih (hf x b h)

theorem PolicyFixed.withLabel {g : Label → Block → Block} (h : PolicyFixed b) (id : Nat)
    (hg : ∀ l, PolicyFixed (g l b)) : PolicyFixed (withLabel id g b) := by
  cases hl : getLabel b id with
  | none => rw [withLabel_of_none hl]; exact h
  | some l => rw [withLabel_of_some hl]; exact hg l

/-! ## The item table (file 03) -/

theorem PolicyFixed.handOn (h : PolicyFixed b) (x : Handoff) : PolicyFixed (handOn x b) := h.same ⟨rfl, rfl, rfl⟩

theorem PolicyFixed.putItem (h : PolicyFixed b) (code : Nat) (i : Item) : PolicyFixed (putItem code i b) :=
  h.same ⟨rfl, rfl, rfl⟩

theorem PolicyFixed.noteHeld (h : PolicyFixed b) (code : Nat) (x : VersionStatus) : PolicyFixed (noteHeld code x b) := by
  cases x with
  | held => exact h.notice _ _
  | valid => exact h

theorem PolicyFixed.applyPrice (h : PolicyFixed b) (r : PriceRecord) : PolicyFixed (applyPrice r b).1 := by
  have hplaced (e : Effect) (j : Item) : PolicyFixed (notePending r.code e (Machine.putItem r.code j b)) :=
    h.quiet (by apply Touches.notePending _ e (Touches.putItem _ j (.refl _ _) ?_) <;> decide)
  unfold Machine.applyPrice
  (repeat' split)
  · exact h
  · exact h
  · exact h
  · exact ((hplaced _ _).noteHeld _ _).handOn _

theorem PolicyFixed.applyRelease (h : PolicyFixed b) (code : Nat) : PolicyFixed (applyRelease code b).1 := by
  unfold Machine.applyRelease releaseFound
  (repeat' split)
  · exact h
  · exact ((h.putItem _ _).notice _ _).handOn _
  · exact (h.putItem _ _).handOn _
  · exact (h.putItem _ _).notice _ _
  · exact h.putItem _ _
  · exact h

theorem PolicyFixed.activateOne (h : PolicyFixed b) (code : Nat) : PolicyFixed (activateOne code b) := by
  unfold Machine.activateOne
  (repeat' split)
  · exact h.same ⟨rfl, rfl, rfl⟩
  · exact h.same ⟨rfl, rfl, rfl⟩
  · exact h.notice _ _
  · exact h.same ⟨rfl, rfl, rfl⟩

theorem PolicyFixed.activate (h : PolicyFixed b) : PolicyFixed (activate b) :=
  (h.foldl b.items.pending fun code _ hd => hd.activateOne code).same ⟨rfl, rfl, rfl⟩

/-! ## The label directory (file 04) -/

theorem PolicyFixed.putLabel (h : PolicyFixed b) (id : Nat) (l : Label) : PolicyFixed (putLabel id l b) :=
  h.same ⟨rfl, rfl, rfl⟩

theorem PolicyFixed.modifyLabel (h : PolicyFixed b) (id : Nat) (f : Label → Label) : PolicyFixed (modifyLabel id f b) :=
  h.quiet (by apply Touches.modifyLabel id f (.refl _ _); decide)

theorem PolicyFixed.settle (h : PolicyFixed b) (id : Nat) : PolicyFixed (settle id b) :=
  h.quiet (by apply Touches.settle id (.refl _ _); decide)

theorem PolicyFixed.applyNext (h : PolicyFixed b) (id : Nat) : PolicyFixed (applyNext id b) := by
  have htouched : Touches [.items, .labels, .composer, .mgmt] b (Machine.applyNext id b) := by
    apply Touches.applyNext id (.refl _ b) <;> decide
  have hfwd : b.fwd = (Machine.applyNext id b).fwd := htouched.keeps .fwd (by decide)
  cases hl : getLabel b id with
  | none => rw [Machine.applyNext, withLabel_of_none hl]; exact h
  | some l =>
    have hmgmt := (applyNext_step hl).1.frame.mgmt
    exact h.same ⟨by rw [hfwd], by rw [hmgmt], by rw [hmgmt]⟩

theorem PolicyFixed.transmissionHeard (h : PolicyFixed b) (id : Nat) : PolicyFixed (transmissionHeard id b) := by
  refine h.withLabel id fun l => ?_
  split
  · exact (h.putLabel _ _).notice _ _
  · exact h.putLabel _ _

theorem PolicyFixed.presenceCheck (h : PolicyFixed b) (k : Nat) : PolicyFixed (presenceCheck k b) := by
  refine h.foldl _ fun id d hd => hd.withLabel id fun l => ?_
  split
  · exact (hd.putLabel _ _).notice _ _
  · exact hd.putLabel _ _

theorem PolicyFixed.endTransaction (h : PolicyFixed b) (id : Nat) : PolicyFixed (endTransaction id b) := by
  refine h.withLabel id fun l => ?_
  split
  · exact h
  · exact (h.applyNext id).settle id

theorem PolicyFixed.confirmInFlight (h : PolicyFixed b) (id : Nat) (f : InFlight) :
    PolicyFixed (confirmInFlight id f b) := by
  refine h.withLabel id fun l => PolicyFixed.endTransaction (h.quiet ?_) id
  apply Touches.releaseConfirmed l (Touches.putLabel id _ (.refl _ _) ?_) <;> decide

theorem PolicyFixed.dropInFlight (h : PolicyFixed b) (id : Nat) : PolicyFixed (dropInFlight id b) :=
  h.quiet (by apply Touches.dropInFlight id (.refl _ _) <;> decide)

theorem PolicyFixed.dropBoth (h : PolicyFixed b) (id : Nat) : PolicyFixed (dropBoth id b) :=
  h.quiet (by apply Touches.dropBoth id (.refl _ _) <;> decide)

theorem PolicyFixed.resolveReport (h : PolicyFixed b) (id tag : Nat) (check : Option Nat) :
    PolicyFixed (resolveReport id tag check b) := by
  refine h.withLabel id fun l => ?_
  (repeat' split)
  · exact h.confirmInFlight id _
  · exact (h.dropInFlight id).endTransaction id
  · exact h.endTransaction id
  · exact h
  · exact h.putLabel _ _
  · exact (h.dropBoth id).endTransaction id

theorem PolicyFixed.storeTarget (h : PolicyFixed b) (id : Nat) : PolicyFixed (storeTarget id b) :=
  h.quiet (by apply Touches.storeTarget id (.refl _ _); decide)

theorem PolicyFixed.becomeFailed (h : PolicyFixed b) (id : Nat) : PolicyFixed (becomeFailed id b) :=
  (h.modifyLabel id _).notice _ _

theorem PolicyFixed.outcomeAck (h : PolicyFixed b) (id tag : Nat) : PolicyFixed (outcomeAck id tag b) := by
  refine h.withLabel id fun l => ?_
  (repeat' split)
  · exact h.confirmInFlight id _
  · exact h.resolveReport _ _ _
  · exact h.resolveReport _ _ _
  · exact h.bump _

theorem PolicyFixed.outcomeNakBase (h : PolicyFixed b) (id : Nat) : PolicyFixed (outcomeNakBase id b) := by
  refine h.withLabel id fun l => ?_
  split
  · exact (((h.dropInFlight id).modifyLabel id _).applyNext id).settle id
  · exact h.bump _

theorem PolicyFixed.afterNakCheck (h : PolicyFixed b) (id : Nat) : PolicyFixed (afterNakCheck id b) := by
  refine h.withLabel id fun l => ?_
  split
  · exact ((h.storeTarget id).becomeFailed id).applyNext id
  · exact (h.applyNext id).settle id

theorem PolicyFixed.outcomeNakCheck (h : PolicyFixed b) (id : Nat) : PolicyFixed (outcomeNakCheck id b) := by
  refine h.withLabel id fun l => ?_
  split
  · exact ((h.dropInFlight id).modifyLabel id _).afterNakCheck id
  · exact h.bump _

theorem PolicyFixed.becomeUncertain (h : PolicyFixed b) (id : Nat) : PolicyFixed (becomeUncertain id b) :=
  h.quiet (by apply Touches.becomeUncertain id (.refl _ _); decide)

theorem PolicyFixed.afterNoReply (h : PolicyFixed b) (id : Nat) : PolicyFixed (afterNoReply id b) := by
  refine h.withLabel id fun l => ?_
  split
  · exact h.becomeFailed id
  · exact h.becomeUncertain id

theorem PolicyFixed.outcomeNoReply (h : PolicyFixed b) (id : Nat) : PolicyFixed (outcomeNoReply id b) := by
  refine h.withLabel id fun l => ?_
  split
  · exact (((h.putLabel id _).storeTarget id).afterNoReply id).applyNext id
  · exact h.bump _

theorem PolicyFixed.outcomeQueryNoReply (h : PolicyFixed b) (id : Nat) : PolicyFixed (outcomeQueryNoReply id b) := by
  refine h.withLabel id fun l => ?_
  split
  · exact ((h.putLabel id _).storeTarget id).afterNoReply id
  · exact h.bump _

theorem PolicyFixed.outcomeReport (h : PolicyFixed b) (id tag : Nat) : PolicyFixed (outcomeReport id tag b) := by
  have hresolved := h.resolveReport id tag none
  refine h.withLabel id fun l => ?_
  split
  · exact hresolved.quiet (by apply Touches.retargetLabel id (.refl _ _); decide)
  · exact hresolved

theorem PolicyFixed.checkInReport (h : PolicyFixed b) (id tag check : Nat) : PolicyFixed (checkInReport id tag check b) := by
  have hresolved := h.resolveReport id tag (some check)
  refine h.withLabel id fun l => ?_
  split
  · split
    · exact h.confirmInFlight id _
    · exact h
  · split
    · exact hresolved
    · exact hresolved.quiet (by apply Touches.returnFailed id (.refl _ _); decide)
  all_goals exact hresolved

theorem PolicyFixed.radioCheckIn (h : PolicyFixed b) (k : CheckIn) : PolicyFixed (radioCheckIn k b) := by
  unfold Machine.radioCheckIn
  (repeat' split)
  · exact ((h.transmissionHeard _).modifyLabel _ _).checkInReport _ _ _
  · exact h.bump _
  · exact h.bump _

/-! ## The radio scheduler (file 06) -/

theorem PolicyFixed.handOutcome (h : PolicyFixed b) (e : PlanEntry) (x : RadioOutcome) :
    PolicyFixed (handOutcome e x b) := by
  have hheard := h.transmissionHeard e.label
  have hcounted := h.bump .noReplyCount
  cases x with
  | ack tag => exact hheard.outcomeAck _ _
  | nakBase => exact hheard.outcomeNakBase _
  | nakCheck => exact hheard.outcomeNakCheck _
  | report tag => exact hheard.outcomeReport _ _
  | noReply =>
    simp only [Machine.handOutcome]
    split
    · exact hcounted.outcomeQueryNoReply _
    · exact hcounted.outcomeNoReply _
    · exact hcounted.outcomeNoReply _

theorem PolicyFixed.beginTransaction (h : PolicyFixed b) : PolicyFixed (beginTransaction b) :=
  h.quiet (by apply Touches.beginTransaction (.refl _ _) <;> decide)

theorem PolicyFixed.replyWindowClose (h : PolicyFixed b) : PolicyFixed (replyWindowClose b) := by
  unfold Machine.replyWindowClose closeWindow
  (repeat' split)
  · exact PolicyFixed.beginTransaction ((h.handOutcome _ _).same ⟨rfl, rfl, rfl⟩)
  · exact h.beginTransaction
  · exact h

theorem PolicyFixed.closeRest (h : PolicyFixed b) (fuel : Nat) : PolicyFixed (closeRest fuel b) := by
  induction fuel generalizing b with
  | zero => exact h
  | succ fuel ih =>
    unfold Machine.closeRest
    split
    · exact ih h.replyWindowClose
    · exact h

theorem PolicyFixed.selectUpdate (h : PolicyFixed b) (id : Nat) (l : Label) (t : Target) (u : Composed) :
    PolicyFixed (selectUpdate id l t u b) := by
  have hbuffered : PolicyFixed (bufferUpdate id (codedUpdate u (issueTag l) (baseTagOf u l))
      (joinStyle id u t (Machine.putLabel id (selectedLabel u t l) (takeTarget t b)))) := by
    refine h.quiet ?_
    apply Touches.bufferUpdate id _ (Touches.joinStyle id u t (Touches.putLabel id _ (Touches.takeTarget t (.refl _ _) ?_)
      ?_) ?_) <;> decide
  unfold Machine.selectUpdate noteTruncated
  split
  · exact (hbuffered.bump _).notice _ _
  · exact hbuffered

theorem PolicyFixed.walkReach {w : Walk} (h : PolicyFixed w.block) (id : Nat) : PolicyFixed (walkReach id w).block := by
  unfold Machine.walkReach walkStale walkUpdate
  (repeat' split)
  · exact h
  · exact ((h.modifyLabel id _).bump _).notice _ _
  · exact h.selectUpdate _ _ _ _
  · exact h
  · exact h
  · exact h.quiet (by apply Touches.enqueue id (Touches.putLabel id _ (.refl _ _) ?_) <;> decide)
  all_goals exact h

theorem PolicyFixed.walkQueue {w : Walk} (h : PolicyFixed w.block) (ids : List Nat) :
    PolicyFixed (walkQueue ids w).block := by
  induction ids generalizing w with
  | nil => exact h
  | cons id rest ih =>
    unfold Machine.walkQueue
    split
    · exact h
    · exact ih (h.walkReach id)

theorem PolicyFixed.beacon (h : PolicyFixed b) : PolicyFixed (beacon b) := by
  have hsent : PolicyFixed (sendBeacon (beginSlot (closeSlot b))) := (h.closeRest _).same ⟨rfl, rfl, rfl⟩
  have hslot : PolicyFixed (notePresence (sendBeacon (beginSlot (closeSlot b)))) := by
    unfold notePresence
    split
    · exact hsent.presenceCheck _
    · exact hsent
  have hwalk : PolicyFixed (slotWalk (notePresence (sendBeacon (beginSlot (closeSlot b))))).block :=
    PolicyFixed.walkQueue hslot _
  exact PolicyFixed.beginTransaction (hwalk.same ⟨rfl, rfl, rfl⟩)

/-! ## The mode controller (file 01) -/

theorem PolicyFixed.setMode (h : PolicyFixed b) (m : Mode) : PolicyFixed (setMode m b) := h.same ⟨rfl, rfl, rfl⟩

theorem PolicyFixed.becomeClosed (h : PolicyFixed b) : PolicyFixed (becomeClosed b) := h.same ⟨rfl, rfl, rfl⟩

theorem PolicyFixed.openRequest (h : PolicyFixed b) (e : openRequest b = some c) : PolicyFixed c := by
  unfold Machine.openRequest at e
  split at e <;> cases e
  · exact (h.setMode _).activate
  · exact h.same ⟨rfl, rfl, rfl⟩

theorem PolicyFixed.closeRequest (h : PolicyFixed b) (e : closeRequest b = some c) : PolicyFixed c := by
  unfold Machine.closeRequest at e
  split at e <;> cases e
  exact h.same ⟨rfl, rfl, rfl⟩

theorem PolicyFixed.closeNowRequest (h : PolicyFixed b) (e : closeNowRequest b = some c) : PolicyFixed c := by
  unfold Machine.closeNowRequest at e
  split at e <;> cases e
  exact h.becomeClosed

theorem PolicyFixed.abortExchange (h : PolicyFixed b) : PolicyFixed (abortExchange b) := by
  unfold Machine.abortExchange
  split
  · exact h
  · exact h.same ⟨rfl, rfl, rfl⟩

theorem PolicyFixed.abortQual (h : PolicyFixed b) : PolicyFixed (abortQual b) :=
  h.quiet (by apply Touches.abortQual (.refl _ _); decide)

theorem PolicyFixed.windowOpenRequest (h : PolicyFixed b) (e : windowOpenRequest b = some c) : PolicyFixed c := by
  unfold Machine.windowOpenRequest at e
  split at e <;> cases e
  exact h.same ⟨rfl, rfl, rfl⟩

theorem PolicyFixed.windowCloseRequest (h : PolicyFixed b) (e : windowCloseRequest b = some c) : PolicyFixed c := by
  unfold Machine.windowCloseRequest at e
  split at e <;> cases e
  have hshut : PolicyFixed (setWindowState .shut b) := h.same ⟨rfl, rfl, rfl⟩
  have haborted : PolicyFixed (discardResult (Machine.abortQual (setWindowState .shut b))) :=
    hshut.abortQual.same ⟨rfl, rfl, rfl⟩
  exact haborted.abortExchange.same ⟨rfl, rfl, rfl⟩

theorem PolicyFixed.fireAction (h : PolicyFixed b) (x : ScheduleAction) : PolicyFixed (fireAction x b) := by
  cases x with
  | openStore => exact keeps_getD h fun _ => h.openRequest
  | closeBegin => exact keeps_getD h fun _ => h.closeRequest
  | windowOpen => exact keeps_getD h fun _ => h.windowOpenRequest
  | windowClose => exact keeps_getD h fun _ => h.windowCloseRequest

theorem PolicyFixed.clockAdvance (h : PolicyFixed b) : PolicyFixed (clockAdvance b) := by
  unfold Machine.clockAdvance
  (repeat' split)
  · exact h.same ⟨rfl, rfl, rfl⟩
  · next k _ _ =>
    have hset : PolicyFixed (setClockTo (k + 1) (newSecond b)) := h.same ⟨rfl, rfl, rfl⟩
    exact hset.foldl _ fun e _ hd => hd.fireAction e.action
  · exact h.same ⟨rfl, rfl, rfl⟩

/-! ## The tills (file 07) -/

theorem PolicyFixed.noteDiffering (h : PolicyFixed b) (till : Nat) (es : List JournalEntry) :
    PolicyFixed (noteDiffering till es b) := by
  induction es generalizing b with
  | nil => exact h
  | cons e rest ih =>
    unfold Machine.noteDiffering
    split
    · exact ih (h.notice _ _)
    · exact ih h

theorem PolicyFixed.putTill (h : PolicyFixed b) (till : Nat) (r : TillRecord) : PolicyFixed (putTill till r b) :=
  h.quiet (by apply Touches.putTill till r (.refl _ _); decide)

theorem PolicyFixed.noteHigh (h : PolicyFixed b) : PolicyFixed (noteHigh b) := by
  unfold Machine.noteHigh
  split
  · exact h.same ⟨rfl, rfl, rfl⟩
  · exact h

theorem PolicyFixed.acceptRecord (h : PolicyFixed b) (till sequence time : Nat) (gap : Bool) (lines : List SaleLine) :
    PolicyFixed (acceptRecord till sequence time gap lines b) := by
  have hheard := h.putTill till { tillRecord b till with lastSequence := some sequence }
  refine PolicyFixed.noteHigh (PolicyFixed.noteDiffering (hheard.same ?_) _ _)
  exact ⟨rfl, rfl, rfl⟩

theorem PolicyFixed.replyTill (h : PolicyFixed b) (s : TillSender) (kind till : Nat) (r : TillResult) :
    PolicyFixed (replyTill s kind till r b) :=
  h.quiet (by apply Touches.replyTill s kind till r (.refl _ _); decide)

theorem PolicyFixed.noteFull (h : PolicyFixed b) : PolicyFixed (noteFull b) := by
  unfold Machine.noteFull
  split
  · exact h
  · exact h.same ⟨rfl, rfl, rfl⟩

theorem PolicyFixed.takeRecord (h : PolicyFixed b) (s : TillSender) (till sequence time : Nat) (gap : Bool)
    (lines : List SaleLine) : PolicyFixed (takeRecord s till sequence time gap lines b) := by
  unfold Machine.takeRecord
  split
  · exact (h.acceptRecord _ _ _ _ _).replyTill _ _ _ _
  · exact h.noteFull.replyTill _ _ _ _

theorem PolicyFixed.refuseTill (h : PolicyFixed b) (s : TillSender) (kind till : Nat) (r : TillResult) :
    PolicyFixed (refuseTill s kind till r b) :=
  h.quiet (by apply Touches.refuseTill s kind till r (.refl _ _) <;> decide)

theorem PolicyFixed.tillSaleRecord (h : PolicyFixed b) (s : TillSender) (till sequence time : Nat)
    (lines : List SaleLine) : PolicyFixed (tillSaleRecord s till sequence time lines b) := by
  have hheard := h.putTill till (heardTill s (tillRecord b till))
  unfold Machine.tillSaleRecord saleBySequence
  (repeat' split)
  · exact hheard.takeRecord _ _ _ _ _ _
  · exact hheard.takeRecord _ _ _ _ _ _
  · exact hheard.replyTill _ _ _ _
  · exact hheard.replyTill _ _ _ _
  · exact h.refuseTill _ _ _ _
  · exact h.refuseTill _ _ _ _

theorem PolicyFixed.tillFrame (h : PolicyFixed b) (s : TillSender) (f : TillFrame) : PolicyFixed (tillFrame s f b) := by
  cases f with
  | hello till => exact h.quiet (by apply Touches.tillHello s till (.refl _ _) <;> decide)
  | priceQuery till code => exact h.quiet (by apply Touches.tillPriceQuery s till code (.refl _ _) <;> decide)
  | saleRecord till sequence time lines => exact h.tillSaleRecord s till sequence time lines
  | unknownKind kind till => exact h.refuseTill _ _ _ _
  | malformed kind till =>
    simp only [Machine.tillFrame]
    split <;> exact h.refuseTill _ _ _ _
  | empty => exact h.refuseTill _ _ _ _

theorem PolicyFixed.silenceExpiry (h : PolicyFixed b) (till : Nat) : PolicyFixed (silenceExpiry till b) := by
  unfold Machine.silenceExpiry
  split
  · exact (h.putTill till _).notice _ _
  · exact h

/-! ## The forwarder and the guest service (files 08 and 09) -/

theorem PolicyFixed.learn (h : PolicyFixed b) (s : Segment) (p : Port) (f : LanFrame) : PolicyFixed (learn s p f b) := by
  have htouched : PolicyFixed (touchAddress s f.src p b) := by
    unfold touchAddress refuseLearning
    (repeat' split) <;> exact h.same ⟨rfl, rfl, rfl⟩
  unfold Machine.learn learnNet takeNet
  (repeat' split)
  · exact htouched
  · exact htouched
  · exact htouched.same ⟨rfl, rfl, rfl⟩
  · exact htouched

theorem PolicyFixed.requestAdmission (h : PolicyFixed b) (hw : HwAddr) (src dst : NetAddr) (content : List Byte) :
    PolicyFixed (requestAdmission hw src dst content b) := by
  unfold Machine.requestAdmission noteGuestFull
  (repeat' split)
  · refine h.quiet ?_
    apply Touches.guestToLine hw src dst content _ (Touches.bump _ (Touches.putSession hw _ (.refl _ _) ?_) ?_) <;> decide
  · exact h.bump _
  · exact h.same ⟨rfl, rfl, rfl⟩
  · exact h.bump _

theorem PolicyFixed.handToLine (h : PolicyFixed b) (s : Segment) (hw : HwAddr) (src dst : NetAddr) (content : List Byte) :
    PolicyFixed (handToLine s hw src dst content b) := by
  have hoffered (k : UplinkClass) (f : UplinkContent) : PolicyFixed (offer k f b) :=
    h.quiet (by apply Touches.offer k f (.refl _ _) <;> decide)
  cases s with
  | guest =>
    simp only [Machine.handToLine, guestUplink]
    split
    · exact h.quiet (by apply Touches.guestToLine hw src dst content _ (.refl _ _) <;> decide)
    · exact h.requestAdmission _ _ _ _
  | _ => exact hoffered _ _

theorem PolicyFixed.gatewayNetwork (h : PolicyFixed b) (s : Segment) (hw : HwAddr) (src dst : NetAddr)
    (content : List Byte) : PolicyFixed (gatewayNetwork s hw src dst content b) := by
  unfold Machine.gatewayNetwork towardUplink
  (repeat' split)
  · exact h.bump _
  · exact h.bump _
  · exact h.quiet (by apply Touches.route _ _ _ _ _ (.refl _ _) <;> decide)
  · exact h.handToLine _ _ _ _ _
  · exact h.bump _

theorem PolicyFixed.forwardFrame (h : PolicyFixed b) (p : Port) (f : LanFrame) : PolicyFixed (forwardFrame p f b).1 := by
  have hlearned (s : Segment) := h.learn s p f
  unfold Machine.forwardFrame deliver gatewayFrame
  (repeat' split)
  · exact h.bump _
  · exact (hlearned _).bump _
  · exact (hlearned _).quiet (by apply Touches.serviceFrame _ _ _ _ _ _ (.refl _ _); decide)
  · exact (hlearned _).gatewayNetwork _ _ _ _ _
  · exact (hlearned _).quiet (by apply Touches.switchFrame _ _ _ (.refl _ _) <;> decide)
  · exact h.bump _
  · exact h

/-- R128, R131, R134: the other records of the forwarder leave the matrix alone. -/
theorem PolicyFixed.writePorts (h : PolicyFixed b) (n : Nat) (r : WriteRecord) : PolicyFixed (writePorts n r b).1 := by
  unfold Machine.writePorts applyPortWrite applyGatewayWrite applyAgingWrite applyCollectorWrite
  (repeat' split) <;> exact h.same ⟨rfl, rfl, rfl⟩

/-- R140: a cell that is not fixed may be written. -/
theorem fixedCells_set {v : Vector Bool 25} {n : Fin 25} (h : FixedCells v) (hn : fixedCell n.val = false) (x : Bool) :
    FixedCells (v.set n.val x n.isLt) := by
  have hother (k : Nat) (hk : k < 25) (hf : fixedCell k = true) : (v.set n.val x n.isLt)[k] = v[k] :=
    Vector.getElem_set_ne n.isLt hk fun e => by rw [e, hf] at hn; cases hn
  unfold FixedCells
  rwa [hother 15 _ rfl, hother 16 _ rfl, hother 17 _ rfl, hother 18 _ rfl, hother 19 _ rfl, hother 23 _ rfl,
    hother 24 _ rfl]

theorem PolicyFixed.writePolicy (h : PolicyFixed b) (n : Nat) (r : WriteRecord) : PolicyFixed (writePolicy n r b).1 := by
  unfold Machine.writePolicy applyPolicyWrite
  (repeat' split)
  · exact h
  · exact h
  · next hn _ _ _ _ =>
    obtain ⟨hpolicy, hstored⟩ := h
    exact ⟨fixedCells_set hpolicy (by simpa using hn) _, hstored⟩
  · exact h
  · exact h

end PolicyKept

end Sys2Proof.Machine

namespace Sys2Proof.Machine

/-! # The fixed cells of the policy matrix are kept by every step (R140, R190) -/

section PolicyKeptByAStep

variable {b c : Block}

/-! ## Qualification and the line (file 10) -/

theorem PolicyFixed.finishQual (h : PolicyFixed b) (q : Qualification) : PolicyFixed (finishQual q b) := by
  have hheld : PolicyFixed (senderServed .pattern (holdResult q b)) := h.same ⟨rfl, rfl, rfl⟩
  refine PolicyFixed.quiet (hheld.noticeWith .qualifyResult .line (some (qualClassOf q.length q.bits q.errors))) ?_
  apply Touches.engineResult _ (.refl _ _) <;> decide

theorem PolicyFixed.examine (h : PolicyFixed b) (number : Nat) (bits : List Bool) (q : Qualification) :
    PolicyFixed (examine number bits q b) := by
  unfold Machine.examine
  (repeat' split)
  · exact h
  · exact h.finishQual _
  · exact h.same ⟨rfl, rfl, rfl⟩

theorem PolicyFixed.takePattern (h : PolicyFixed b) (number : Nat) (bits : List Bool) :
    PolicyFixed (takePattern number bits b) := by
  unfold Machine.takePattern
  split
  · exact h.bump _
  · exact h.examine _ _ _

theorem PolicyFixed.takeTestLoop (h : PolicyFixed b) : PolicyFixed (takeTestLoop b) :=
  h.quiet (by apply Touches.takeTestLoop (.refl _ _); decide)

theorem PolicyFixed.qualifyTimeout (h : PolicyFixed b) : PolicyFixed (qualifyTimeout b) := by
  unfold Machine.qualifyTimeout
  (repeat' split)
  · exact h
  · exact h
  · exact h.finishQual _

theorem PolicyFixed.receiveValid (h : PolicyFixed b) : PolicyFixed (receiveValid b) := by
  have hcounted := h.bump .framesReceived
  unfold Machine.receiveValid countForState
  (repeat' split)
  · exact hcounted.same ⟨rfl, rfl, rfl⟩
  · have hup : PolicyFixed (Machine.notice .uplinkUp .line { Machine.bump .framesReceived b with
        line := { (Machine.bump .framesReceived b).line with up := true, loss := some lossPeriod, kept := [] } }) :=
      hcounted.same ⟨rfl, rfl, rfl⟩
    exact hup.quiet (by apply Touches.signalRoom (.refl _ _) <;> decide)
  · exact hcounted.same ⟨rfl, rfl, rfl⟩

theorem PolicyFixed.lossExpiry (h : PolicyFixed b) : PolicyFixed (lossExpiry b) := by
  have hdown : PolicyFixed (goDown b) := h.same ⟨rfl, rfl, rfl⟩
  have hdiscarded : PolicyFixed (revertSent (Machine.abortQual (discardResult (discardQueue (goDown b))))) := by
    refine hdown.quiet ?_
    refine Touches.revertSent (Touches.abortQual (Touches.discardResult (Touches.discardQueue (.refl _ _) ?_ ?_) ?_) ?_) ?_
      <;> decide
  unfold Machine.lossExpiry
  split
  · exact hdiscarded.abortExchange
  · exact h

theorem PolicyFixed.changeLoopback (h : PolicyFixed b) (l : Loopback) (timer : Option Nat) :
    PolicyFixed (changeLoopback l timer b) := by
  have habort {d : Block} (hd : PolicyFixed d) : PolicyFixed (abortForLoopback d) := by
    unfold abortForLoopback
    (repeat' split)
    · exact hd
    · exact hd.abortQual.abortExchange
    all_goals exact hd.abortQual
  refine PolicyFixed.notice (habort (h.same ?_)) _ _
  exact ⟨rfl, rfl, rfl⟩

theorem PolicyFixed.applyLoopback (h : PolicyFixed b) (l : Coded Loopback) (d : Option Nat) :
    PolicyFixed (applyLoopback l d b).1 := by
  have hloop (m : Loopback) : PolicyFixed (applyLoop m d b).1 := by
    unfold applyLoop setLoopback
    (repeat' split)
    · exact h.same ⟨rfl, rfl, rfl⟩
    · exact h.changeLoopback _ _
    · exact h
  unfold Machine.applyLoopback
  (repeat' split)
  · exact h
  · exact hloop _
  · exact hloop _
  · exact h
  · exact h.changeLoopback _ _

theorem PolicyFixed.loopbackExpiry (h : PolicyFixed b) : PolicyFixed (loopbackExpiry b) := by
  unfold Machine.loopbackExpiry
  split
  · exact h.changeLoopback _ _
  · exact h

/-! ## The restarts (R191) -/

/-- R190: the image after a restart is the flash image, or none. -/
theorem PolicyFixed.flashAfterRestart (h : PolicyFixed b) {x : StoredSettings}
    (hx : flashAfterRestart b.mgmt = some x) : FixedCells x.policy := by
  obtain ⟨-, hflash, -⟩ := h
  rw [flashAfterRestart_eq] at hx
  split at hx
  · exact hflash x hx
  · cases hx

theorem PolicyFixed.warmMgmt (h : PolicyFixed b) : PolicyFixed (warmMgmt b) :=
  ⟨h.1, fun _ hx => h.flashAfterRestart hx, fun _ hx => nomatch hx⟩

theorem PolicyFixed.warmRestart (h : PolicyFixed b) : PolicyFixed (warmRestart b) := by
  have hmode : PolicyFixed (modeRestarted b) := by
    unfold modeRestarted warmMode
    split
    · exact h.warmMgmt.becomeClosed
    · exact h.warmMgmt
    · exact h.warmMgmt
  have hlabels : PolicyFixed (directoryRestarted (modeRestarted b)) := by
    refine hmode.foldl _ fun id d hd => hd.withLabel id fun l => ?_
    split
    · exact (hd.becomeUncertain id).applyNext id
    · exact hd
  have hline : PolicyFixed (warmLine (warmGuest (warmForwarder (warmTill (labelsRestarted b))))) :=
    hlabels.same ⟨rfl, rfl, rfl⟩
  rw [warmRestart_eq]
  exact hline.abortExchange.same ⟨rfl, rfl, rfl⟩

/-- R140: the default matrix holds the fixed values. -/
theorem fixedCells_default : FixedCells defaultSettings.policy := by
  unfold FixedCells
  decide

theorem PolicyFixed.coldRestart (h : PolicyFixed b) : PolicyFixed (coldRestart b) := by
  refine ⟨?_, fun _ hx => h.flashAfterRestart hx, fun _ hx => nomatch hx⟩
  change FixedCells ((goodImage b.mgmt).getD defaultSettings).policy
  cases hg : goodImage b.mgmt with
  | none => exact fixedCells_default
  | some x =>
    unfold goodImage at hg
    split at hg
    · exact h.flashAfterRestart hg
    · cases hg

/-- R190: a save begins with a copy of the matrix in force. -/
theorem PolicyFixed.applySave (h : PolicyFixed b) : PolicyFixed (applySave b).1 := by
  unfold Machine.applySave
  split
  · exact h
  · obtain ⟨hpolicy, hflash, -⟩ := h
    refine ⟨hpolicy, hflash, fun x hx => ?_⟩
    cases hx
    exact hpolicy

/-- R190: the copy becomes the flash image. -/
theorem PolicyFixed.saveComplete (h : PolicyFixed b) : PolicyFixed (saveComplete b) := by
  unfold Machine.saveComplete
  split
  · exact h
  · next x hx =>
    obtain ⟨hpolicy, -, hsave⟩ := h
    refine ⟨hpolicy, fun y hy => ?_, fun _ hy => nomatch hy⟩
    cases hy
    exact hsave x hx

/-! ## Commands and record writes (R186, R188) -/

theorem PolicyFixed.applyCommand (h : PolicyFixed b) (m : MgmtCommand) : PolicyFixed (applyCommand m b).1 := by
  have hrequest {o : Option Block} {f : Block → ReplyBody} {r : ReplyBody} (ho : ∀ c, o = some c → PolicyFixed c) :
      PolicyFixed (match o with
        | some c => (c, f c)
        | none => (b, r)).1 := by
    cases o with
    | none => exact h
    | some c => exact ho c rfl
  cases m with
  | openStore => exact hrequest fun _ => h.openRequest
  | closeStore => exact hrequest fun _ => h.closeRequest
  | closeNow => exact hrequest fun _ => h.closeNowRequest
  | windowOpen => exact hrequest fun _ => h.windowOpenRequest
  | windowClose => exact hrequest fun _ => h.windowCloseRequest
  | setClock v => exact h.quiet (by apply Touches.applySetClock v (.refl _ _); decide)
  | release code => exact h.applyRelease code
  | forceLabel id => exact h.quiet (by apply Touches.applyForce id (.refl _ _); decide)
  | qualifyLine n k => exact h.quiet (by apply Touches.applyQualify n k (.refl _ _) <;> decide)
  | loopback l d => exact h.applyLoopback l d
  | endGuest hw => exact h.quiet (by apply Touches.applyEndGuest hw (.refl _ _); decide)
  | clearNotices => exact h.same ⟨rfl, rfl, rfl⟩
  | saveSettings => exact h.applySave
  | _ => exact h

/-- A change record of the item table or of the directory. -/
theorem PolicyFixed.applyStaged (h : PolicyFixed b) (r : StagedRecord) : PolicyFixed (applyStaged r b).1 := by
  cases r with
  | price r => exact h.applyPrice r
  | time v => exact h.quiet (by apply Touches.applyTime v (.refl _ _); decide)
  | description code t => exact h.quiet (by apply Touches.applyDescription code t (.refl _ _) <;> decide)
  | withdraw code => exact h.quiet (by apply Touches.applyWithdraw code (.refl _ _); decide)
  | label id k => exact h.quiet (by apply Touches.applyLabel id k (.refl _ _); decide)
  | bind id code t => exact h.quiet (by apply Touches.applyBind id code t (.refl _ _) <;> decide)
  | unbind id => exact h.quiet (by apply Touches.applyUnbindRecord id (.refl _ _) <;> decide)
  | templateChange id t => exact h.quiet (by apply Touches.applyTemplateRecord id t (.refl _ _) <;> decide)
  | _ => exact h

theorem PolicyFixed.writeAt (h : PolicyFixed b) (t : TableName) (n : Nat) (r : WriteRecord) :
    PolicyFixed (writeAt t n r b).1 := by
  cases t with
  | items =>
    cases r with
    | price p => exact h.applyPrice p
    | description code text => exact h.applyStaged (.description code text)
    | withdraw code => exact h.applyStaged (.withdraw code)
    | _ => exact h
  | labels => exact h.quiet (by apply Touches.writeLabels r (.refl _ _) <;> decide)
  | ports => exact h.writePorts n r
  | policy => exact h.writePolicy n r
  | schedule => exact h.quiet (by apply Touches.writeSchedule n r (.refl _ _); decide)
  | priceSettings => exact h.quiet (by apply Touches.writePriceSettings n r (.refl _ _) <;> decide)
  | templates => exact h.quiet (by apply Touches.writeTemplates n r (.refl _ _) <;> decide)
  | glyphs => exact h.quiet (by apply Touches.writeGlyphs n r (.refl _ _); decide)
  | radioSettings => exact h.quiet (by apply Touches.writeRadio n r (.refl _ _); decide)
  | guestProfile => exact h.quiet (by apply Touches.writeGuest n r (.refl _ _); decide)
  | _ => exact h

theorem PolicyFixed.setWindow (h : PolicyFixed b) (src : MgmtSource) (w : TableWindow) :
    PolicyFixed (setWindow src w b) := by
  cases src <;> exact h.same ⟨rfl, rfl, rfl⟩

theorem PolicyFixed.setWrites (h : PolicyFixed b) (l : List WriteProgress) : PolicyFixed (setWrites l b) :=
  h.same ⟨rfl, rfl, rfl⟩

theorem PolicyFixed.answerMgmt (h : PolicyFixed b) (src : MgmtSource) (tag : Nat) (r : ReplyBody) :
    PolicyFixed (answerMgmt src tag r b) := h.quiet (by apply Touches.answerMgmt src tag r (.refl _ _) <;> decide)

theorem PolicyFixed.writeFrom (h : PolicyFixed b) (src : MgmtSource) (index : Nat) (rs : List WriteRecord) :
    PolicyFixed (writeFrom src index rs b).1 := by
  induction rs generalizing index b with
  | nil =>
    unfold Machine.writeFrom
    split <;> exact h
  | cons r rest ih =>
    unfold Machine.writeFrom
    (repeat' split)
    · exact h
    · exact h.writeAt _ _ _
    · exact ih ((h.writeAt _ _ _).setWindow _ _) _

theorem PolicyFixed.applyWrite (h : PolicyFixed b) (src : MgmtSource) (rs : List WriteRecord) :
    PolicyFixed (applyWrite src rs b).1 := by
  have hrecords := h.writeFrom src 1 rs
  unfold Machine.applyWrite
  (repeat' split) <;> assumption

/-- R186: one record of a WRITE taken record by record, and what is due with it. -/
theorem PolicyFixed.answerPart (h : PolicyFixed b) (g : MgmtHeader) (index count : Nat) (r : WriteRecord)
    (others : List WriteProgress) (w : TableWindow) :
    PolicyFixed (answerWrite g (writePart g index count r others w b)) := by
  have hrecord := h.writeAt w.table w.cursor r
  rcases writePart_cases g index count r others w b with ⟨_, _, e⟩ | ⟨_, _, e⟩ | ⟨_, _, e⟩ <;> rw [e]
  · exact (hrecord.setWrites _).answerMgmt _ _ _
  · exact ((hrecord.setWindow _ _).setWrites _).answerMgmt _ _ _
  · exact (hrecord.setWindow _ _).setWrites _

theorem PolicyFixed.partOfWrite (h : PolicyFixed b) (g : MgmtHeader) (index count : Nat) (r : WriteRecord) :
    PolicyFixed (partOfWrite g index count r b) := by
  rcases partOfWrite_cases g index count r b with e | e | ⟨-, e⟩ | ⟨-, e⟩ <;> rw [e]
  · exact h
  · exact h.bump _
  · unfold writeFirst
    (repeat' split)
    · exact h.answerMgmt _ _ _
    · exact h.answerMgmt _ _ _
    · exact h.answerPart _ _ _ _ _ _
    · exact h.answerMgmt _ _ _
  · unfold writeLater
    (repeat' split)
    · exact h.setWrites _
    · exact h.answerPart _ _ _ _ _ _
    · exact h.setWrites _

/-! ## Messages and frames (R129 to R139, R159, R167, R168, R184) -/

theorem PolicyFixed.message (h : PolicyFixed b) (g : MgmtHeader) {f : Block → Block × ReplyBody}
    (hf : PolicyFixed (f b).1) : PolicyFixed (message g f b) := by
  rcases message_cases g f b with e | e | e <;> rw [e]
  · exact h
  · exact h.bump _
  · exact hf.answerMgmt _ _ _

theorem PolicyFixed.silentMessage (h : PolicyFixed b) (g : MgmtHeader) {f : Block → Block} (hf : PolicyFixed (f b)) :
    PolicyFixed (silentMessage g f b) := by
  rcases silentMessage_cases g f b with e | e | e <;> rw [e]
  · exact h
  · exact h.bump _
  · exact hf

theorem PolicyFixed.writeBy (h : PolicyFixed b) (via : Via) (t : TableName) (r : WriteRecord) :
    PolicyFixed (writeBy via t r b) := by
  cases via with
  | message g => exact h.message g (h.applyWrite _ _)
  | part g index count => exact h.partOfWrite _ _ _ _
  | event n => exact (h.writeAt t n r).emit _

theorem PolicyFixed.applyWindow (h : PolicyFixed b) (src : MgmtSource) (t : Coded TableName) (first last : Nat)
    (d : Coded Direction) : PolicyFixed (applyWindow src t first last d b).1 := by
  unfold Machine.applyWindow
  (repeat' split)
  · exact h
  · exact h
  · exact h
  · exact h.setWindow _ _

theorem PolicyFixed.applyRead (h : PolicyFixed b) (src : MgmtSource) (n : Nat) : PolicyFixed (applyRead src n b).1 := by
  unfold Machine.applyRead
  (repeat' split)
  · exact h
  · exact h.setWindow _ _
  · exact h

theorem PolicyFixed.takeMessage (h : PolicyFixed b) (src : MgmtSource) (m : MgmtMessage) :
    PolicyFixed (takeMessage src m b) := by
  unfold Machine.takeMessage forStation
  split
  · cases m.body with
    | window t first last d => exact (h.applyWindow src t first last d).answerMgmt _ _ _
    | write rs => exact (h.applyWrite src rs).answerMgmt _ _ _
    | read n => exact (h.applyRead src n).answerMgmt _ _ _
    | command k =>
      cases k with
      | warmRestart => exact h.warmRestart
      | coldRestart => exact h.coldRestart
      | _ => exact (h.applyCommand _).answerMgmt _ _ _
    | _ => exact h.answerMgmt _ _ _
  · exact h.bump _

theorem PolicyFixed.commitBatch (h : PolicyFixed b) (g : Staging) : PolicyFixed (commitBatch g b) := by
  have hrecords (rs : List StagedRecord) (k : Commit) (hk : PolicyFixed k.block) :
      PolicyFixed (rs.foldl commitOne k).block := by
    induction rs generalizing k with
    | nil => exact hk
    | cons r rest ih => exact ih _ (commitOne_block k r ▸ hk.applyStaged r)
  have hcommitted : PolicyFixed (commitRecords g.records b).block := hrecords g.records (Commit.mk b 1 0 []) h
  have hformed : PolicyFixed (formReply (.batchResult (resultOf g.n (commitRecords g.records b)))
      { (commitRecords g.records b).block with exch := { (commitRecords g.records b).block.exch with
          last := g.n
          stored := some (resultOf g.n (commitRecords g.records b))
          staging := none } }) :=
    hcommitted.quiet (by apply Touches.formReply _ (Touches.exch (.refl _ _) ?_) <;> decide)
  exact hformed.same ⟨rfl, rfl, rfl⟩

theorem PolicyFixed.takeExchange (h : PolicyFixed b) (f : ExchangeFrame) : PolicyFixed (takeExchange f b) := by
  have hrefused (k : Byte) (x : Code) : PolicyFixed (refuseExchange k x b) :=
    h.quiet (by apply Touches.refuseExchange _ _ (.refl _ _) <;> decide)
  have hrejected (g : Staging) (y : Bool) : PolicyFixed (rejectBatch g y b) :=
    h.quiet (by apply Touches.rejectBatch g y (.refl _ _) <;> decide)
  cases f with
  | batchEnd check =>
    simp only [Machine.takeExchange, takeEnd, endBatch]
    (repeat' split)
    · exact hrejected _ _
    · exact hrejected _ _
    · exact h.commitBatch _
    · exact hrefused _ _
    · exact hrefused _ _
  | exchangeOpen => exact h.quiet (by apply Touches.takeOpen (.refl _ _) <;> decide)
  | batchStart n k => exact h.quiet (by apply Touches.takeStart n k (.refl _ _) <;> decide)
  | exchangeRecords rs => exact h.quiet (by apply Touches.takeRecords rs (.refl _ _) <;> decide)
  | _ => exact hrefused _ _

theorem PolicyFixed.fromLine (h : PolicyFixed b) (f : ExchangeFrame) :
    PolicyFixed (fromLine (Machine.takeExchange f) b) := by
  unfold Machine.fromLine
  split
  · exact h.takeExchange f
  · exact h

theorem PolicyFixed.lanFrame (h : PolicyFixed b) (p : Port) (f : LanFrame) : PolicyFixed (lanFrame p f b) := by
  have hforwarded := h.forwardFrame p f
  unfold Machine.lanFrame serve
  split
  · exact hforwarded
  · exact hforwarded.tillFrame _ _
  · exact hforwarded.takeMessage _ _

theorem PolicyFixed.takeAck (h : PolicyFixed b) (n : Nat) : PolicyFixed (takeAck n b) :=
  h.quiet (by apply Touches.takeAck n (.refl _ _) <;> decide)

theorem PolicyFixed.passOn (h : PolicyFixed b) (k : LineContent) : PolicyFixed (passOn k b) := by
  cases k with
  | alive => exact h
  | data src dst content => exact h.quiet (by apply Touches.fromUplink src dst content (.refl _ _) <;> decide)
  | management m => exact h.takeMessage _ _
  | exchange f => exact h.takeExchange f
  | journalAck n => exact h.takeAck n
  | testLoop => exact h.takeTestLoop
  | testPattern number bits =>
    simp only [Machine.passOn]
    split
    · exact h.takePattern number bits
    · exact h.bump _
  | _ => exact h.bump _

theorem PolicyFixed.arriveFromLine (h : PolicyFixed b) (f : LineInput) : PolicyFixed (arriveFromLine f b) := by
  have hcrc := h.bump .crcError
  have hecho : PolicyFixed (Machine.bump .remoteEchoed (Machine.emit (.lineEcho f) b)) := (h.emit _).bump _
  unfold Machine.arriveFromLine receiveFrame damagedFrame validFrame echoFrame checkRemote
  (repeat' split)
  · exact h.bump _
  · exact hcrc.examine _ _ _
  · exact hcrc
  · exact hcrc
  · exact h.receiveValid.passOn _
  · exact h.receiveValid.bump _
  · exact h
  · exact hecho.bump _
  · exact hecho.bump _
  · exact hecho.receiveValid
  · exact hecho.receiveValid.bump _

theorem PolicyFixed.arriveReturned (h : PolicyFixed b) : PolicyFixed (arriveReturned b) := by
  unfold Machine.arriveReturned
  split
  · next f rest _ _ =>
    have htaken : PolicyFixed { b with line := { b.line with returning := rest } } := h.same ⟨rfl, rfl, rfl⟩
    have hvalid := htaken.receiveValid
    unfold takeReturned sortReturned
    (repeat' split)
    · exact htaken.bump _
    · exact hvalid.takeTestLoop
    · exact hvalid.bump _
    · exact hvalid.takePattern _ _
    · exact hvalid.bump _
    · exact hvalid.bump _
    · exact (hvalid.bump _).bump _
  · exact h

theorem PolicyFixed.noticeSend (h : PolicyFixed b) : PolicyFixed (noticeSend b) := by
  refine keeps_getD h fun c hc => ?_
  unfold noticeSend? at hc
  split at hc
  · next x e _ _ _ =>
    unfold sendHead at hc
    (repeat' split at hc)
    · obtain ⟨p, -, rfl⟩ := Option.map_eq_some_iff.1 hc
      have hsent : PolicyFixed (noticeToOffice x p e b) :=
        h.quiet (by apply Touches.noticeToOffice x p e (.refl _ _); decide)
      exact hsent.same ⟨rfl, rfl, rfl⟩
    · cases hc
    · cases hc
      exact h.same ⟨rfl, rfl, rfl⟩
    · cases hc
  · cases hc

/-! ## The step -/

theorem PolicyFixed.effect (h : PolicyFixed b) (i : Instr) : PolicyFixed (effect i b) := by
  cases i with
  | openCmd g => exact h.message g (h.applyCommand .openStore)
  | closeCmd g => exact h.message g (h.applyCommand .closeStore)
  | closeNow g => exact h.message g (h.applyCommand .closeNow)
  | windowOpen g => exact h.message g (h.applyCommand .windowOpen)
  | windowClose g => exact h.message g (h.applyCommand .windowClose)
  | setClock g v => exact h.message g (h.applyCommand (.setClock v))
  | release g code => exact h.message g (h.applyCommand (.release code))
  | forceLabel g id => exact h.message g (h.applyCommand (.forceLabel id))
  | qualifyLine g n k => exact h.message g (h.applyCommand (.qualifyLine n k))
  | loopback g l d => exact h.message g (h.applyCommand (.loopback l d))
  | endGuest g hw => exact h.message g (h.applyCommand (.endGuest hw))
  | clearNotices g => exact h.message g (h.applyCommand .clearNotices)
  | saveSettings g => exact h.message g (h.applyCommand .saveSettings)
  | window g t first last d => exact h.message g (h.applyWindow _ t first last d)
  | read g n => exact h.message g (h.applyRead _ n)
  | status g => exact h.message g h
  | readOnlyWrite g rs => exact h.message g (h.applyWrite _ rs)
  | warmRestart g => exact h.silentMessage g h.warmRestart
  | coldRestart g => exact h.silentMessage g h.coldRestart
  | resetLine retain =>
    have hpins : PolicyFixed { b with pins := { b.pins with retain := retain } } := h
    simp only [Machine.effect, resetBy]
    split
    · exact hpins.warmRestart
    · exact hpins.coldRestart
  | powerUp => exact h.coldRestart
  | drainTimerExpiry =>
    simp only [Machine.effect, drainExpiry]
    split
    · exact h.becomeClosed
    · exact h
  | clockAdvance => exact h.clockAdvance
  | beacon => exact h.beacon
  | replyWindowClose => exact h.replyWindowClose
  | checkIn k => exact h.radioCheckIn k
  | lanFrame p f => exact h.lanFrame p f
  | lineFrame x =>
    cases x with
    | fromLine f => exact h.arriveFromLine f
    | returned => exact h.arriveReturned
  | exchangeOpen => exact h.fromLine .exchangeOpen
  | batchStart n k => exact h.fromLine (.batchStart n k)
  | exchangeRecords rs => exact h.fromLine (.exchangeRecords rs)
  | batchEnd check => exact h.fromLine (.batchEnd check)
  | journalAck n =>
    simp only [Machine.effect]
    split
    · exact h.takeAck n
    · exact h
  | hello s n => exact h.tillFrame s (.hello n)
  | priceQuery s n k => exact h.tillFrame s (.priceQuery n k)
  | saleRecord s n q t l => exact h.tillFrame s (.saleRecord n q t l)
  | silenceTimerExpiry n => exact h.silenceExpiry n
  | lossTimerExpiry => exact h.lossExpiry
  | loopbackTimerExpiry => exact h.loopbackExpiry
  | qualifyTimeout => exact h.qualifyTimeout
  | noticeSend => exact h.noticeSend
  | saveComplete => exact h.saveComplete
  | linkUp p => exact h.same ⟨rfl, rfl, rfl⟩
  | linkDown p => exact h.same ⟨rfl, rfl, rfl⟩
  | addressAgingExpiry s hw => exact h.same ⟨rfl, rfl, rfl⟩
  | itemRetarget => exact h.quiet (by apply Touches.itemRetarget (.refl _ _); decide)
  | templateRetarget => exact h.quiet (by apply Touches.templateRetarget (.refl _ _); decide)
  | sweepVisit => exact h.quiet (by apply Touches.sweepVisit (.refl _ _); decide)
  | transmitStart => exact h.quiet (by apply Touches.transmitStart (.refl _ _) <;> decide)
  | timeLimitExpiry hw => exact h.quiet (by apply Touches.timeLimitExpiry hw (.refl _ _); decide)
  | idleLimitExpiry hw => exact h.quiet (by apply Touches.idleLimitExpiry hw (.refl _ _); decide)
  | cooldownEnd hw => exact h.quiet (by apply Touches.cooldownEnd hw (.refl _ _); decide)
  | governorReading => exact h.quiet (by apply Touches.governorReading (.refl _ _) <;> decide)
  | labelReply t => exact h.quiet (by apply Touches.labelReply t (.refl _ _) <;> decide)
  | journalBlock => exact h.quiet (by apply Touches.journalBlock (.refl _ _) <;> decide)
  | acknowledgementTimerExpiry => exact h.quiet (by apply Touches.ackTimerExpiry (.refl _ _) <;> decide)
  | aliveTimerExpiry => exact h.quiet (by apply Touches.aliveExpiry (.refl _ _); decide)
  | reopenHoldExpiry => exact h.quiet (by apply Touches.stopHold (.refl _ _); decide)
  | _ => exact h.writeBy _ _ _

/-- R190: a millisecond brings a running save nearer its end and leaves its copy. -/
theorem PolicyFixed.tick (h : PolicyFixed b) : PolicyFixed (tick b) := by
  obtain ⟨hpolicy, hflash, hsave⟩ := h
  refine ⟨hpolicy, hflash, fun x hx => ?_⟩
  obtain ⟨y, hy, rfl⟩ := Option.map_eq_some_iff.1 hx
  exact hsave y hy

/-- Settles O8: the fixed cells pass through the effect of every command, writes and restarts among them, and a tick. -/
theorem everyStepKeepsTheFixedPolicyCells : Obligations.EveryStepKeepsTheFixedPolicyCells := by
  unfold Obligations.EveryStepKeepsTheFixedPolicyCells
  intro s t hs h
  exact step_keeps (P := PolicyFixed) (fun i _ hb => hb.effect i) (fun _ hb => hb.tick) hs h

end PolicyKeptByAStep

end Sys2Proof.Machine

namespace Sys2Proof.Machine

/-! # LINK_UP, LINK_DOWN, ADDRESS_AGING_EXPIRY and the expiries of a guest session (R128, R129, R134, R150, R151) -/

section Expiries

variable {b : Block} {seg : Segment} {hw : HwAddr} {x : Session}

/-! ## Records kept by a test -/

theorem tableFind_filter_of_keep {α : Type} (t : Table α) {keep : Nat × α → Bool} {k : Nat}
    (hk : ∀ v, keep (k, v) = true) : tableFind (t.filter keep) k = tableFind t k := by
  induction t with
  | nil => rfl
  | cons p rest ih =>
    obtain ⟨j, w⟩ := p
    by_cases e : j = k
    · subst e
      simp [hk, tableFind]
    · by_cases hj : keep (j, w) = true
      · simp [hj, tableFind, e, ih]
      · simp [hj, tableFind, e, ih]

theorem key_ne_of_tableFind_none {α : Type} {t : Table α} {k : Nat} {p : Nat × α} (h : tableFind t k = none)
    (hp : p ∈ t) : p.1 ≠ k := by
  induction t with
  | nil => cases hp
  | cons q rest ih =>
    obtain ⟨j, w⟩ := q
    simp only [tableFind] at h
    split at h
    · cases h
    · next hj =>
      rcases List.mem_cons.1 hp with rfl | hp
      · exact hj
      · exact ih h hp

/-- R129, R134: where every entry is kept nothing changes. -/
theorem keepAddresses_of_all {keep : Nat × AddressEntry → Bool} (h : ∀ e ∈ b.fwd.addresses, keep e = true) :
    keepAddresses keep b = b := by
  simp [keepAddresses, List.filter_eq_self.2 h]

/-- R129, R134, R135: an entry removed clears the full flag. -/
theorem keepAddresses_full_of_removed {keep : Nat × AddressEntry → Bool} {e : Nat × AddressEntry}
    (he : e ∈ b.fwd.addresses) (hk : keep e = false) : (keepAddresses keep b).fwd.full = false := by
  have hshorter : (b.fwd.addresses.filter keep).length ≠ b.fwd.addresses.length := fun hlen => by
    have hall := List.length_filter_eq_length_iff.1 hlen e he
    rw [hk] at hall
    cases hall
  simp [hshorter]

/-! ## Links (R128, R129) -/

theorem linkDown_eq (p : Port) (b : Block) : linkDown p b = { b with fwd := { b.fwd with
    ports := b.fwd.ports.set p.val { b.fwd.ports.get p with up := false } p.isLt
    addresses := b.fwd.addresses.filter (fun e => decide (e.2.port ≠ p))
    full := b.fwd.full && decide (∀ e ∈ b.fwd.addresses, e.2.port ≠ p) } } := by
  simp only [linkDown, dropPortAddresses, keepAddresses_decide]
  rfl

/-! ## Aging (R134) -/

theorem addressAging_getAddress_other (b : Block) {s : Segment} {a : HwAddr} (h : ¬ (s = seg ∧ a = hw)) :
    getAddress (addressAging seg hw b) s a = getAddress b s a := by
  refine tableFind_filter_of_keep b.fwd.addresses fun v => ?_
  have hkey : addressKey s a ≠ addressKey seg hw := fun e => h (addressKey_injective e)
  simp [hkey]

/-- R134: a station without an entry has no such event. -/
theorem addressAging_of_absent (h : getAddress b seg hw = none) : addressAging seg hw b = b := by
  refine keepAddresses_of_all fun e he => ?_
  simp [key_ne_of_tableFind_none h he]

/-- R134: an entry younger than the aging time stays. -/
theorem addressAging_of_young {e : AddressEntry} (hs : tableSorted b.fwd.addresses) (he : getAddress b seg hw = some e)
    (hy : b.time.now - e.heardAt < b.fwd.aging * 1000) : addressAging seg hw b = b := by
  refine keepAddresses_of_all fun y hm => ?_
  by_cases hkey : y.1 = addressKey seg hw
  · have hfound := tableFind_of_mem hs (k := addressKey seg hw) (v := y.2) (by rw [← hkey]; exact hm)
    have heq : y.2 = e := Option.some.inj (hfound.symm.trans he)
    simp [overAge, addressAge, heq, hy]
  · simp [hkey]

/-- R134: an entry that has reached the aging time is removed. -/
theorem addressAging_of_old {e : AddressEntry} (hs : tableSorted b.fwd.addresses) (he : getAddress b seg hw = some e)
    (ho : b.fwd.aging * 1000 ≤ b.time.now - e.heardAt) :
    getAddress (addressAging seg hw b) seg hw = none ∧ (addressAging seg hw b).fwd.full = false := by
  have hdropped : (decide ((addressKey seg hw, e).1 ≠ addressKey seg hw) || !overAge b (addressKey seg hw, e).2) = false := by
    simp [overAge, addressAge, ho]
  refine ⟨Option.eq_none_iff_forall_ne_some.2 fun v hv => ?_, keepAddresses_full_of_removed (mem_of_tableFind he) hdropped⟩
  obtain ⟨hm, hkept⟩ := List.mem_filter.1 (mem_of_tableFind hv)
  have heq : v = e := Option.some.inj ((tableFind_of_mem hs hm).symm.trans he)
  rw [heq, hdropped] at hkept
  cases hkept

/-! ## The limits of a session (R150, R151) -/

theorem timeLimitExpiry_of_limited (hx : getSession b hw = some x) (hs : x.state = .active ∨ x.state = .exhausted) :
    timeLimitExpiry hw b = if overTime b.time.now b.guest.profile x then reachTimeLimit hw x b else b := by
  rcases hs with hs | hs <;> simp [timeLimitExpiry, hx, hs]

theorem timeLimitExpiry_of_cooldown (hx : getSession b hw = some x) (hs : x.state = .cooldown) :
    timeLimitExpiry hw b = b := by simp [timeLimitExpiry, hx, hs]

theorem idleLimitExpiry_of_active (hx : getSession b hw = some x) (hs : x.state = .active) :
    idleLimitExpiry hw b = if overIdle b.time.now b.guest.profile x then removeSession hw b else b := by
  simp [idleLimitExpiry, hx, hs]

theorem idleLimitExpiry_of_other (hx : getSession b hw = some x) (hs : x.state ≠ .active) :
    idleLimitExpiry hw b = b := by
  cases e : x.state with
  | active => exact absurd e hs
  | exhausted => simp [idleLimitExpiry, hx, e]
  | cooldown => simp [idleLimitExpiry, hx, e]

theorem cooldownEnd_of_cooldown (hx : getSession b hw = some x) (hs : x.state = .cooldown) :
    cooldownEnd hw b = if overCooldown b.time.now b.guest.profile x then removeSession hw b else b := by
  simp [cooldownEnd, hx, hs]

theorem cooldownEnd_of_limited (hx : getSession b hw = some x) (hs : x.state = .active ∨ x.state = .exhausted) :
    cooldownEnd hw b = b := by
  rcases hs with hs | hs <;> simp [cooldownEnd, hx, hs]

/-- Without a session none of the three is an event. -/
theorem expiries_of_no_session (h : getSession b hw = none) :
    timeLimitExpiry hw b = b ∧ idleLimitExpiry hw b = b ∧ cooldownEnd hw b = b := by
  simp [timeLimitExpiry, idleLimitExpiry, cooldownEnd, h]

/-- Settles O43: an equation for the expiry in each state of its session, and for aging the entries that its test
keeps. -/
theorem linksEntriesAndSessionsComeAndGo : Obligations.LinksEntriesAndSessionsComeAndGo := by
  unfold Obligations.LinksEntriesAndSessionsComeAndGo
  refine ⟨fun p s => ⟨rfl, ?_⟩, fun seg hw s => ?_, fun hw s => ⟨fun hn => ?_, fun x removed hx hr => ?_⟩⟩
  · exact (exec_eq_effect _ s).trans (congrArg s.becomes (linkDown_eq p s.block))
  · refine ⟨addressAging seg hw s.block, rfl, Touches.addressAging seg hw (.refl _ _) (by decide), rfl,
      fun _ _ h => addressAging_getAddress_other _ h, addressAging_of_absent, fun e hs he => ⟨?_, ?_⟩⟩
    · exact addressAging_of_old hs he
    · exact addressAging_of_young hs he
  · obtain ⟨htime, hidle, hcool⟩ := expiries_of_no_session hn
    exact ⟨congrArg s.becomes htime, congrArg s.becomes hidle, congrArg s.becomes hcool⟩
  · replace hr : removed = removeSession hw s.block := hr
    subst hr
    refine ⟨fun hs => ⟨?_, fun hlimit => ⟨fun hzero => ?_, fun hlong => ?_⟩, fun hyoung => ?_⟩,
      fun hs => ⟨fun hlimit => ?_, fun hyoung => ?_⟩, fun hs => ?_,
      fun hs => ⟨?_, fun t ht => ⟨fun hlimit => ?_, fun hyoung => ?_⟩⟩⟩
      <;> refine congrArg s.becomes ?_
    · exact cooldownEnd_of_limited hx hs
    · refine (timeLimitExpiry_of_limited hx hs).trans ?_
      simp [overTime, since, hlimit, reachTimeLimit, hzero]
    · refine (timeLimitExpiry_of_limited hx hs).trans ?_
      simp [overTime, since, hlimit, reachTimeLimit, hlong]
    · refine (timeLimitExpiry_of_limited hx hs).trans ?_
      simp [overTime, since, Nat.not_le.2 hyoung]
    · refine (idleLimitExpiry_of_active hx hs).trans ?_
      simp [overIdle, since, hlimit]
    · refine (idleLimitExpiry_of_active hx hs).trans ?_
      simp [overIdle, since, Nat.not_le.2 hyoung]
    · exact idleLimitExpiry_of_other hx hs
    · exact timeLimitExpiry_of_cooldown hx hs
    · refine (cooldownEnd_of_cooldown hx hs).trans ?_
      simp [overCooldown, since, ht, hlimit]
    · refine (cooldownEnd_of_cooldown hx hs).trans ?_
      simp [overCooldown, since, ht, Nat.not_le.2 hyoung]

end Expiries

end Sys2Proof.Machine

namespace Sys2Proof.Machine

/-! # The forwarder: paths, members, ranges and stations (R128, R130, R131, R136, R138, R140) -/

section ForwarderTerms

variable {b c : Block} {seg d : Segment}

/-! ## Paths of the policy matrix (R140) -/

theorem policyAllows_eq_get (b : Block) {src dst : Option Segment} {n : Fin 25}
    (hn : n.val = 5 * policyPlace src + policyPlace dst) : policyAllows b src dst = b.fwd.policy.get n := by
  rw [policyAllows, ← hn, List.getD_eq_getElem _ _ (by simp)]
  simp [Vector.get_eq_getElem]

theorem policyAllows_congr (h : c.fwd.policy = b.fwd.policy) (src dst : Option Segment) :
    policyAllows c src dst = policyAllows b src dst := by rw [policyAllows, policyAllows, h]

/-- R140: the GUEST row is denied but for the line. -/
theorem guest_policy_denied (h : FixedCells b.fwd.policy) (d : Segment) :
    policyAllows b (some .guest) (some d) = false := by
  obtain ⟨htill, hoffice, hstaff, hguest, -⟩ := h
  cases d with
  | till => exact (policyAllows_eq_get b (n := 15) rfl).trans htill
  | office => exact (policyAllows_eq_get b (n := 16) rfl).trans hoffice
  | staff => exact (policyAllows_eq_get b (n := 17) rfl).trans hstaff
  | guest => exact (policyAllows_eq_get b (n := 18) rfl).trans hguest

/-! ## Classification (R130) -/

theorem classify_eq_ok {r : PortSettings} {tag : Option Nat} (h : Classified r tag seg) : classify r tag = .ok seg := by
  rcases h with ⟨hr, rfl, rfl⟩ | ⟨hr, rfl, rfl⟩ | ⟨hr, rfl, rfl⟩ | ⟨hr, rfl, hne, rfl⟩
  · simp [classify, hr]
  · simp [classify, hr]
  · simp [classify, hr]
  · have hother : r.guestTag ≠ r.staffTag := fun e => hne (congrArg some e)
    simp [classify, hr, hother]

theorem classify_tagMismatch {r : PortSettings} {tag : Option Nat} (hr : r.role = .till ∨ r.role = .office)
    (ht : tag ≠ none) : classify r tag = .error .tagMismatch := by
  obtain ⟨t, rfl⟩ := Option.ne_none_iff_exists'.1 ht
  rcases hr with hr | hr <;> simp [classify, hr]

theorem classify_untagged {r : PortSettings} {tag : Option Nat} (hr : r.role = .accessPoint)
    (hs : tag ≠ some r.staffTag) (hg : tag ≠ some r.guestTag) : classify r tag = .error .untagged := by
  cases tag with
  | none => simp [classify, hr]
  | some t =>
    have hstaff : t ≠ r.staffTag := fun e => hs (congrArg some e)
    have hguest : t ≠ r.guestTag := fun e => hg (congrArg some e)
    simp [classify, hr, hstaff, hguest]

theorem classify_unused {r : PortSettings} (hr : r.role = .unused) (tag : Option Nat) :
    classify r tag = .error .unusedPort := by simp [classify, hr]

/-! ## Members and tags (R128, R130, R136) -/

theorem roleMember_iff (r : PortRole) (seg : Segment) : roleMember r seg = true ↔
    (r = .till ∧ seg = .till) ∨ (r = .office ∧ seg = .office) ∨ (r = .accessPoint ∧ (seg = .staff ∨ seg = .guest)) := by
  cases r <;> cases seg <;> decide

theorem portCarries_iff (b : Block) (p : Port) (seg : Segment) : portCarries b p seg = true ↔
    (b.fwd.ports.get p).up = true ∧ (((b.fwd.ports.get p).settings.role = .till ∧ seg = .till) ∨
      ((b.fwd.ports.get p).settings.role = .office ∧ seg = .office) ∨
      ((b.fwd.ports.get p).settings.role = .accessPoint ∧ (seg = .staff ∨ seg = .guest))) := by
  rw [portCarries, Bool.and_eq_true, roleMember_iff]
  exact and_comm

/-! ## Ranges (R131) -/

/-- Numbers agree after a shift exactly where their bits from there on do. -/
theorem div_pow_eq_iff_testBit (x y k : Nat) :
    x / 2 ^ k = y / 2 ^ k ↔ ∀ i, k ≤ i → x.testBit i = y.testBit i := by
  constructor
  · intro h i hi
    obtain ⟨j, rfl⟩ := Nat.exists_eq_add_of_le' hi
    rw [← Nat.testBit_div_two_pow, ← Nat.testBit_div_two_pow, h]
  · intro h
    refine Nat.eq_of_testBit_eq fun j => ?_
    rw [Nat.testBit_div_two_pow, Nat.testBit_div_two_pow]
    exact h _ (Nat.le_add_left _ _)

/-- R131: an address lies in a range exactly where its first bits agree with the gateway address. -/
theorem inRange_iff_prefix (g : Gateway) (a : NetAddr) (hg : g.prefixLength ≤ 32) :
    inRange g a = true ↔ ∀ i, i < g.prefixLength → a.getMsbD i = g.address.getMsbD i := by
  rw [inRange_iff, div_pow_eq_iff_testBit]
  have hbit (x : NetAddr) (i : Nat) (hi : i < 32) : x.getMsbD i = x.toNat.testBit (31 - i) := by
    simp [BitVec.getMsbD, hi, BitVec.getLsbD]
  constructor
  · intro h i hi
    rw [hbit a i (by omega), hbit _ i (by omega)]
    exact h _ (by omega)
  · intro h i hi
    by_cases hlarge : 32 ≤ i
    · have hzero (x : NetAddr) : x.toNat.testBit i = false :=
        Nat.testBit_eq_false_of_lt (x.isLt.trans_le (Nat.pow_le_pow_right (by decide) hlarge))
      rw [hzero, hzero]
    · have hprefix := h (31 - i) (by omega)
      rwa [hbit a _ (by omega), hbit _ _ (by omega), show 31 - (31 - i) = i by omega] at hprefix

/-- R131: the segment of an address that lies in one range alone. -/
theorem segmentOf_eq_some {a : NetAddr}
    (h : ∀ x y, inRange (gatewayOf b x) a = true → inRange (gatewayOf b y) a = true → x = y) :
    segmentOf b a = some d ↔ inRange (gatewayOf b d) a = true := by
  constructor
  · intro hd
    simpa using List.find?_some hd
  · intro hd
    obtain ⟨e, he⟩ := Option.isSome_iff_exists.1 (List.find?_isSome (p := fun s => inRange (gatewayOf b s) a).2
      ⟨d, mem_segments d, hd⟩)
    have hin : inRange (gatewayOf b e) a = true := by simpa using List.find?_some he
    rw [segmentOf, he, h e d hin hd]

theorem gateways_toList (b : Block) :
    [gatewayOf b .till, gatewayOf b .office, gatewayOf b .staff, gatewayOf b .guest] = b.fwd.gateways.toList := by
  refine List.ext_getElem (by simp) fun i hi _ => ?_
  simp only [List.length_cons, List.length_nil] at hi
  interval_cases i <;> rfl

theorem isGateway_iff (b : Block) (a : NetAddr) : isGateway b a = true ↔ ∃ d, (gatewayOf b d).address = a := by
  simp [isGateway, mem_segments]

/-! ## Stations (R132, R138) -/

theorem neighbour_some {a : NetAddr} {k : Nat} {e : AddressEntry} (h : neighbour b d a = some (k, e)) :
    (k, e) ∈ b.fwd.addresses ∧ keySegment k = d ∧ e.net = some a :=
  ⟨List.mem_of_find?_eq_some h, by simpa using List.find?_some h⟩

theorem neighbour_none {a : NetAddr} (h : neighbour b d a = none) {p : Nat × AddressEntry}
    (hp : p ∈ b.fwd.addresses) (hd : keySegment p.1 = d) : p.2.net ≠ some a := by
  have hno := List.find?_eq_none.1 h p hp
  simpa [hd] using hno

/-- The group bit is bit 40, the lowest of the first byte (log 14). -/
theorem isGroup_iff (hw : HwAddr) : isGroup hw = true ↔ hw.toNat / 1099511627776 % 2 = 1 := by
  rw [isGroup, BitVec.getLsbD, Nat.testBit_eq_decide_div_mod_eq, decide_eq_true_iff]

end ForwarderTerms

end Sys2Proof.Machine

namespace Sys2Proof.Machine

/-! # LAN_FRAME: a frame is classified, learned from and switched (R129, R130, R133, R135, R136) -/

section LanFrames

variable {b c : Block} {seg d : Segment} {p : Port} {f : LanFrame} {k : Counter}

/-! ## Learning (R133, R135) -/

theorem touchAddress_found {hw : HwAddr} {e : AddressEntry} (he : getAddress b seg hw = some e) :
    touchAddress seg hw p b = setAddresses (tableInsert b.fwd.addresses (addressKey seg hw)
      { e with port := p, heardAt := b.time.now }) b := by simp [touchAddress, he]

theorem touchAddress_new {hw : HwAddr} (he : getAddress b seg hw = none) (hr : b.fwd.addresses.length < 4096) :
    touchAddress seg hw p b = setAddresses (tableInsert b.fwd.addresses (addressKey seg hw)
      (AddressEntry.mk p none b.time.now)) b := by
  simp [touchAddress, he, Config.maxAddresses, hr]

theorem touchAddress_full {hw : HwAddr} (he : getAddress b seg hw = none) (hr : 4096 ≤ b.fwd.addresses.length) :
    touchAddress seg hw p b = refuseLearning b := by
  simp [touchAddress, he, Config.maxAddresses, Nat.not_lt.2 hr]

theorem learnNet_eq (s : Segment) (hw : HwAddr) (src : Option NetAddr) (b : Block) :
    learnNet s hw src b =
      match src.filter (fun a => inRange (gatewayOf b s) a && decide (a ≠ (gatewayOf b s).address)) with
      | none => b
      | some a => takeNet s hw a b := by
  unfold learnNet
  cases src with
  | none => rfl
  | some a =>
    simp only [Option.filter_some]
    split
    · rfl
    · rfl

theorem learnNet_of_absent {hw : HwAddr} (src : Option NetAddr) (he : getAddress b seg hw = none) :
    learnNet seg hw src b = b := by
  rw [learnNet_eq]
  split
  · rfl
  · simp [takeNet, he]

/-- R133: the entries of a segment once (h, S) has taken a network address, where it takes one. -/
theorem learnNet_addresses {hw : HwAddr} {e : AddressEntry} (src : Option NetAddr) (net : Option NetAddr)
    (he : getAddress b seg hw = some e)
    (hnet : src.filter (fun a => inRange (gatewayOf b seg) a && decide (a ≠ (gatewayOf b seg).address)) = net) :
    getAddress (learnNet seg hw src b) seg hw = some { e with net := net.orElse fun _ => e.net } ∧
    ∀ s a, ¬ (s = seg ∧ a = hw) → getAddress (learnNet seg hw src b) s a = (getAddress b s a).map (fun x =>
      if s = seg ∧ x.net ≠ none ∧ x.net = net then { x with net := none } else x) := by
  rw [learnNet_eq, hnet]
  cases net with
  | none =>
    refine ⟨he, fun s a _ => ?_⟩
    have hid : (fun x : AddressEntry => if s = seg ∧ x.net ≠ none ∧ x.net = none then { x with net := none } else x) =
        id := funext fun x => if_neg fun ⟨_, hx, hn⟩ => hx hn
    rw [hid]
    simp
  | some n =>
    simp only [takeNet, he]
    refine ⟨tableFind_insert_self _ _ _, fun s a hne => ?_⟩
    have hkey : addressKey s a ≠ addressKey seg hw := fun h => hne (addressKey_injective h)
    refine (tableFind_insert_other _ _ hkey).trans
      ((tableFind_map b.fwd.addresses (losesNet seg hw n) (addressKey s a)).trans ?_)
    refine congrArg (fun g => Option.map g (getAddress b s a)) (funext fun x => ?_)
    simp only [losesNet, keySegment_addressKey]
    refine if_congr ?_ rfl rfl
    constructor
    · exact fun ⟨hs, _, hx⟩ => ⟨hs, by simp [hx], hx⟩
    · exact fun ⟨hs, _, hx⟩ => ⟨hs, hkey, hx⟩

/-- R133: learning from a frame changes, of the forwarder, the address table and its full flag alone. -/
theorem learn_fwd (seg : Segment) (p : Port) (f : LanFrame) (b : Block) :
    (learn seg p f b).fwd =
      { b.fwd with addresses := (learn seg p f b).fwd.addresses, full := (learn seg p f b).fwd.full } := by
  have htouched (hw : HwAddr) : (touchAddress seg hw p b).fwd = { b.fwd with
      addresses := (touchAddress seg hw p b).fwd.addresses, full := (touchAddress seg hw p b).fwd.full } := by
    unfold touchAddress refuseLearning
    (repeat' split) <;> rfl
  have hnet (hw : HwAddr) (src : Option NetAddr) (d : Block) : (learnNet seg hw src d).fwd = { d.fwd with
      addresses := (learnNet seg hw src d).fwd.addresses } := by
    unfold learnNet takeNet
    (repeat' split) <;> rfl
  unfold learn
  rw [hnet, htouched]

theorem learnNet_keeps (s : Segment) (hw : HwAddr) (src : Option NetAddr) (b : Block) :
    (learnNet s hw src b).fwd.full = b.fwd.full ∧ (learnNet s hw src b).mgmt = b.mgmt ∧
      (learnNet s hw src b).counts = b.counts := by
  unfold learnNet takeNet
  (repeat' split) <;> exact ⟨rfl, rfl, rfl⟩

@[simp] theorem gatewayOf_learn (seg d : Segment) (p : Port) (f : LanFrame) (b : Block) :
    gatewayOf (learn seg p f b) d = gatewayOf b d := by rw [gatewayOf, gatewayOf, learn_fwd]

theorem learn_touches (seg : Segment) (p : Port) (f : LanFrame) (b : Block) :
    Touches [.fwd, .mgmt, .counts] b (learn seg p f b) := by
  apply Touches.learn seg p f (.refl _ b) <;> decide

/-- R133: what learning leaves once the station has an entry `x` touched. -/
theorem learn_of_touched {x : AddressEntry} (ht : touchAddress seg f.src p b =
      setAddresses (tableInsert b.fwd.addresses (addressKey seg f.src) x) b) :
    (learn seg p f b).fwd.full = b.fwd.full ∧ (learn seg p f b).mgmt = b.mgmt ∧ (learn seg p f b).counts = b.counts ∧
    getAddress (learn seg p f b) seg f.src = some { x with net := (learnedNet b seg f).orElse fun _ => x.net } ∧
    ∀ s a, ¬ (s = seg ∧ a = f.src) → getAddress (learn seg p f b) s a = (getAddress b s a).map (fun e =>
      if s = seg ∧ e.net ≠ none ∧ e.net = learnedNet b seg f then { e with net := none } else e) := by
  have hfound : getAddress (touchAddress seg f.src p b) seg f.src = some x := by
    rw [ht]
    exact tableFind_insert_self _ _ _
  have hother (s : Segment) (a : HwAddr) (hne : ¬ (s = seg ∧ a = f.src)) :
      getAddress (touchAddress seg f.src p b) s a = getAddress b s a := by
    rw [ht]
    exact tableFind_insert_other _ _ fun h => hne (addressKey_injective h)
  have hnet : (payloadSource f.payload).filter (fun a => inRange (gatewayOf (touchAddress seg f.src p b) seg) a &&
      decide (a ≠ (gatewayOf (touchAddress seg f.src p b) seg).address)) = learnedNet b seg f := by
    rw [ht]
    rfl
  obtain ⟨hself, hrest⟩ := learnNet_addresses (payloadSource f.payload) _ hfound hnet
  obtain ⟨hfull, hmgmt, hcounts⟩ := learnNet_keeps seg f.src (payloadSource f.payload) (touchAddress seg f.src p b)
  refine ⟨hfull.trans (by rw [ht]; rfl), hmgmt.trans (by rw [ht]; rfl), hcounts.trans (by rw [ht]; rfl), hself,
    fun s a hne => ?_⟩
  rw [← hother s a hne]
  exact hrest s a hne

/-- R135: at 4,096 entries a new station is only counted, and noted while the full flag is clear. -/
theorem learn_refused (hn : getAddress b seg f.src = none) (hr : 4096 ≤ b.fwd.addresses.length) :
    learn seg p f b = refuseLearning b := by
  rw [learn, touchAddress_full hn hr]
  refine learnNet_of_absent _ ?_
  unfold refuseLearning
  split <;> exact hn

theorem refuseLearning_keeps (b : Block) : (refuseLearning b).fwd.addresses = b.fwd.addresses ∧
    (refuseLearning b).fwd.full = true ∧ (refuseLearning b).counts = (bump .learnRefused b).counts ∧
    (refuseLearning b).mgmt = (if b.fwd.full then b else notice .addressTableFull .addressTable b).mgmt := by
  unfold refuseLearning
  split
  · next h => exact ⟨rfl, h, rfl, rfl⟩
  · exact ⟨rfl, rfl, rfl, rfl⟩

/-! ## A frame taken at a port (R129, R130) -/

theorem forwardFrame_down (h : (b.fwd.ports.get p).up = false) (f : LanFrame) :
    forwardFrame p f b = (b, .nothing) := by simp [forwardFrame, h]

theorem forwardFrame_refused (h : (b.fwd.ports.get p).up = true)
    (hk : classify (b.fwd.ports.get p).settings f.tag = .error k) : forwardFrame p f b = (bump k b, .nothing) := by
  simp [forwardFrame, h, hk]

theorem forwardFrame_classified (h : (b.fwd.ports.get p).up = true)
    (hc : Classified (b.fwd.ports.get p).settings f.tag seg) : forwardFrame p f b = deliver seg p f b := by
  simp [forwardFrame, h, classify_eq_ok hc]

/-- R129, R137: a frame that the forwarder hands to no service. -/
theorem lanFrame_of_unserved (h : forwardFrame p f b = (c, .nothing)) : lanFrame p f b = c := by
  simp [lanFrame, serve, h]

theorem deliver_badSource (h : isGroup f.src = true ∨ f.src = b.fwd.hwAddress) :
    deliver seg p f b = (bump .badSource b, .nothing) := by
  have hbad : badHwSource b f = true := by simpa [badHwSource] using h
  simp [deliver, hbad]

theorem deliver_switched (hg : isGroup f.src = false) (ho : f.src ≠ b.fwd.hwAddress) (hd : f.dst ≠ b.fwd.hwAddress) :
    deliver seg p f b = (switchFrame seg p f (learn seg p f b), .nothing) := by
  have hgood : badHwSource b f = false := by simp [badHwSource, hg, ho]
  simp [deliver, hgood, hd]

theorem deliver_gateway (hg : isGroup f.src = false) (ho : f.src ≠ b.fwd.hwAddress) (hd : f.dst = b.fwd.hwAddress) :
    deliver seg p f b = gatewayFrame seg p f (learn seg p f b) := by
  have hgood : badHwSource b f = false := by simp [badHwSource, hg, ho]
  simp [deliver, hgood, hd]

/-! ## Delivery within a segment (R136) -/

/-- R136: the copies of a flooded frame among some ports. -/
def floodCopies (seg : Segment) (p : Port) (f : LanFrame) (b : Block) (l : List Port) : List Output :=
  (l.filter (fun q => decide (q ≠ p) && portCarries b q seg)).map
    (fun q => .lan q f.dst f.src (sendTag b q seg) (.switched f.payload))

/-- R136: a frame flooded leaves through every other member port that is UP. -/
theorem flood_eq (seg : Segment) (p : Port) (f : LanFrame) (b : Block) :
    flood seg p f b = { b with out := b.out ++ floodCopies seg p f b ports } := by
  unfold flood
  generalize ports = l
  suffices h : ∀ o, l.foldl (fun acc q => if q ≠ p ∧ portCarries acc q seg = true then
      sendLan q seg f.dst f.src (.switched f.payload) acc else acc) { b with out := o } =
      { b with out := o ++ floodCopies seg p f b l } from h b.out
  induction l with
  | nil => simp [floodCopies]
  | cons q rest ih =>
    intro o
    rw [List.foldl_cons]
    by_cases hq : q ≠ p ∧ portCarries b q seg = true
    · obtain ⟨hne, hcarries⟩ := hq
      have hup : (b.fwd.ports.get q).up = true := ((portCarries_iff b q seg).1 hcarries).1
      have hsent : (if q ≠ p ∧ portCarries { b with out := o } q seg = true then
          sendLan q seg f.dst f.src (.switched f.payload) { b with out := o } else { b with out := o }) =
          { b with out := o ++ [.lan q f.dst f.src (sendTag b q seg) (.switched f.payload)] } := by
        rw [if_pos ⟨hne, hcarries⟩, sendLan, if_pos hup]
        rfl
      rw [hsent, ih]
      simp [floodCopies, hne, hcarries]
    · have hkept : (if q ≠ p ∧ portCarries { b with out := o } q seg = true then
          sendLan q seg f.dst f.src (.switched f.payload) { b with out := o } else { b with out := o }) =
          { b with out := o } := if_neg hq
      have hskip : ¬ (decide (q ≠ p) && portCarries b q seg) = true := by
        rw [Bool.and_eq_true, decide_eq_true_iff]
        exact hq
      have hcopies : floodCopies seg p f b (q :: rest) = floodCopies seg p f b rest :=
        congrArg (List.map _) (List.filter_cons_of_neg hskip)
      rw [hkept, ih, hcopies]

theorem switchFrame_denied (h : policyAllows b (some seg) (some seg) = false) :
    switchFrame seg p f b = bump .policyDenied b := by simp [switchFrame, h]

theorem switchFrame_found {e : AddressEntry} (h : policyAllows b (some seg) (some seg) = true)
    (hg : isGroup f.dst = false) (he : getAddress b seg f.dst = some e) :
    switchFrame seg p f b = if e.port ≠ p ∧ (b.fwd.ports.get e.port).up = true then
      emit (.lan e.port f.dst f.src (sendTag b e.port seg) (.switched f.payload)) b else b := by
  by_cases hp : e.port = p
  · simp [switchFrame, h, hg, he, hp]
  · simp [switchFrame, h, hg, he, hp, sendLan]

theorem switchFrame_flooded (h : policyAllows b (some seg) (some seg) = true)
    (hd : isGroup f.dst = true ∨ getAddress b seg f.dst = none) : switchFrame seg p f b = flood seg p f b := by
  by_cases hg : isGroup f.dst = true
  · simp [switchFrame, h, hg]
  · simp [switchFrame, h, hg, hd.resolve_left hg]

/-- Settles O41: classification by the port's role and the tag, learning by the entry found, delivery by the destination;
and the shared terms one by one. -/
theorem aFrameIsClassifiedLearnedFromAndSwitched : Obligations.AFrameIsClassifiedLearnedFromAndSwitched := by
  unfold Obligations.AFrameIsClassifiedLearnedFromAndSwitched
  refine ⟨fun p f s r hr => ?_, fun seg p f b c hc => ?_, fun b => ?_⟩
  · subst hr
    have hframe {c : Block} (h : forwardFrame p f s.block = (c, .nothing)) : exec (.lanFrame p f) s = s.becomes c :=
      (exec_eq_effect _ s).trans (congrArg s.becomes (lanFrame_of_unserved h))
    refine ⟨fun hdown => hframe (forwardFrame_down hdown f), fun hup => ⟨fun hrole htag => ?_,
      fun hrole hstaff hguest => ?_, fun hrole => ?_, fun seg c hcl hc => ⟨fun hbad => ?_, fun hg ho hd =>
        ⟨fun hdenied => ?_, fun hallowed => ⟨fun e hgd he => ?_, fun hflood => ?_⟩⟩⟩⟩⟩
    · exact hframe (forwardFrame_refused hup (classify_tagMismatch hrole htag))
    · exact hframe (forwardFrame_refused hup (classify_untagged hrole hstaff hguest))
    · exact hframe (forwardFrame_refused hup (classify_unused hrole _))
    · exact hframe ((forwardFrame_classified hup hcl).trans (deliver_badSource hbad))
    all_goals
      subst hc
      have hswitched := (forwardFrame_classified hup hcl).trans (deliver_switched hg ho hd)
      have hpolicy : policyAllows (learn seg p f s.block) (some seg) (some seg) =
          policyAllows s.block (some seg) (some seg) := policyAllows_congr (by rw [learn_fwd]) _ _
    · exact (hframe hswitched).trans (congrArg s.becomes (switchFrame_denied (hpolicy.trans hdenied)))
    · exact (hframe hswitched).trans (congrArg s.becomes (switchFrame_found (hpolicy.trans hallowed) hgd he))
    · refine (hframe hswitched).trans (congrArg s.becomes ?_)
      exact (switchFrame_flooded (hpolicy.trans hallowed) hflood).trans (flood_eq seg p f _)
  · subst hc
    refine ⟨learn_touches seg p f b, learn_fwd seg p f b, fun e he => ?_, fun hn hroom => ?_,
      fun hn hfull => ?_, fun hroom => ?_⟩
    · obtain ⟨hfull, -, -, hself, -⟩ := learn_of_touched (touchAddress_found (p := p) he)
      exact ⟨hfull, hself⟩
    · obtain ⟨hfull, -, -, hself, -⟩ := learn_of_touched (touchAddress_new (p := p) hn hroom)
      exact ⟨hfull, hself.trans (by cases learnedNet b seg f <;> rfl)⟩
    · rw [learn_refused hn hfull]
      exact refuseLearning_keeps b
    · cases he : getAddress b seg f.src with
      | some e =>
        obtain ⟨-, hmgmt, hcounts, -, hrest⟩ := learn_of_touched (touchAddress_found (p := p) he)
        exact ⟨hmgmt, hcounts, hrest⟩
      | none =>
        have hroom : b.fwd.addresses.length < 4096 := hroom.resolve_left fun h => h he
        obtain ⟨-, hmgmt, hcounts, -, hrest⟩ := learn_of_touched (touchAddress_new (p := p) he hroom)
        exact ⟨hmgmt, hcounts, hrest⟩
  · refine ⟨fun src dst place n hplace hn => ?_, fun p r hr => ?_, gateways_toList b, inRange_iff_prefix,
      fun a d => segmentOf_eq_some, fun d a k e => neighbour_some, fun d a h p hp => neighbour_none h hp,
      fun d hw => ⟨keySegment_addressKey d hw, by simp⟩, isGroup_iff⟩
    · have hsame (x : Option Segment) : place x = policyPlace x := by
        rw [hplace]
        cases x with
        | none => rfl
        | some x => cases x <;> rfl
      exact policyAllows_eq_get b (by rw [hn, hsame, hsame])
    · subst hr
      exact ⟨portCarries_iff b p, rfl, rfl, rfl, rfl⟩

end LanFrames

end Sys2Proof.Machine

namespace Sys2Proof.Machine

/-! # Guest frames at a port: what they can reach (R136 to R141, R146) -/

section GuestFrames

variable {b c : Block} {p : Port} {f : LanFrame}

/-! ## The way into the line (R146, R147) -/

/-- R146, R147: a guest frame from `hw` may enter the line: from an ACTIVE session, or on admission in TRADING. -/
def GuestAdmitted (b : Block) (hw : HwAddr) : Prop :=
  b.line.up = true ∧ b.mode.mode ≠ .closed ∧ ((∃ x, getSession b hw = some x ∧ x.state = .active) ∨
    (getSession b hw = none ∧ b.mode.mode = .trading))

theorem checkGuest_passed {up : Bool} {n : Nat} {x : Session} (h : checkGuest up n x = .passed) :
    x.state = .active ∧ up = true := by
  unfold checkGuest at h
  split at h
  · next ha =>
    cases up with
    | true => exact ⟨ha, rfl⟩
    | false => exact GuestCheck.noConfusion h
  · exact GuestCheck.noConfusion h
  · exact GuestCheck.noConfusion h

theorem offer_line (k : UplinkClass) (g : UplinkContent) (b : Block) :
    (offer k g b).line = b.line ∨ (offer k g b).line = (admitFrame k g b).line := by
  rcases offer_cases k g b with ⟨-, -, h⟩ | ⟨-, -, h⟩ | ⟨-, h⟩ <;> rw [h]
  · exact Or.inr rfl
  · exact Or.inl rfl
  · exact Or.inl rfl

/-- R147: a frame with a session leaves the line as it was, or is admitted from the ACTIVE session over a line UP. -/
theorem guestToLine_line (hw : HwAddr) (src dst : NetAddr) (content : List Byte) (x : Session) (b : Block) :
    (guestToLine hw src dst content x b).line = b.line ∨
      ((guestToLine hw src dst content x b).line = (admitFrame .guest (.data src dst content) b).line ∧
        x.state = .active ∧ b.line.up = true) := by
  unfold guestToLine
  split
  · next h => exact (offer_line _ _ _).imp_right fun hline => ⟨hline, checkGuest_passed h⟩
  · exact Or.inl rfl
  · exact Or.inl rfl
  · exact Or.inl rfl

theorem noteGuestFull_line (b : Block) : (noteGuestFull b).line = b.line := by
  unfold noteGuestFull
  split <;> rfl

/-- R146, R147: a guest frame bound for the line leaves it as it was, or is admitted from a sender that may enter. -/
theorem guestUplink_line (h : GuestRules b) (hw : HwAddr) (src dst : NetAddr) (content : List Byte) :
    (guestUplink hw src dst content b).line = b.line ∨
      ((guestUplink hw src dst content b).line = (admitFrame .guest (.data src dst content) b).line ∧
        GuestAdmitted b hw) := by
  unfold guestUplink
  split
  · next x hx =>
    exact (guestToLine_line hw src dst content x b).imp_right fun ⟨hline, hactive, hup⟩ =>
      ⟨hline, hup, h.not_closed_of_session hx, Or.inl ⟨x, hx, hactive⟩⟩
  · next hx =>
    unfold requestAdmission
    split
    · next ht =>
      obtain ⟨htrading, hup⟩ := ht
      split
      · exact (guestToLine_line hw src dst content _ _).imp_right fun ⟨hline, _⟩ =>
          ⟨hline, hup, by simp [htrading], Or.inr ⟨hx, htrading⟩⟩
      · exact Or.inl (noteGuestFull_line _)
    · exact Or.inl rfl

/-! ## Delivery of a frame of the GUEST segment (R136 to R141) -/

/-- What becomes of a guest frame: it is counted and goes no further, or it is bound for the line. -/
def GuestOutcome (f : LanFrame) (b c : Block) : Prop :=
  (∃ k, c = bump k b) ∨
    ∃ src dst content, f.payload = .network src dst content ∧ c = guestUplink f.src src dst content b

/-- R137 to R141: a network frame from GUEST to the 4860 is bound for the line, or counted only: no path of the GUEST
row leads to a segment. -/
theorem gatewayNetwork_guest (h : FixedCells b.fwd.policy) (hw : HwAddr) (src dst : NetAddr) (content : List Byte) :
    (∃ k, gatewayNetwork .guest hw src dst content b = bump k b) ∨
      gatewayNetwork .guest hw src dst content b = guestUplink hw src dst content b := by
  unfold gatewayNetwork
  split
  · exact Or.inl ⟨_, rfl⟩
  · split
    · exact Or.inl ⟨_, rfl⟩
    · split
      · next d _ => exact Or.inl ⟨.policyDenied, by simp [route, guest_policy_denied h d]⟩
      · unfold towardUplink
        split
        · exact Or.inr rfl
        · exact Or.inl ⟨_, rfl⟩

/-- R137: no service takes a frame from GUEST. -/
theorem gatewayFrame_guest (h : FixedCells b.fwd.policy) (p : Port) (f : LanFrame) :
    ∃ c, gatewayFrame .guest p f b = (c, .nothing) ∧ GuestOutcome f b c := by
  unfold gatewayFrame
  split
  · exact ⟨_, rfl, Or.inl ⟨_, rfl⟩⟩
  · unfold serviceFrame
    split
    · exact ⟨_, rfl, Or.inl ⟨_, rfl⟩⟩
    · exact ⟨_, rfl, Or.inl ⟨_, rfl⟩⟩
  · next src dst content hpayload =>
    exact ⟨_, rfl, (gatewayNetwork_guest h f.src src dst content).imp_right fun hc => ⟨src, dst, content, hpayload, hc⟩⟩

theorem learn_policy (seg : Segment) (p : Port) (f : LanFrame) (b : Block) :
    (learn seg p f b).fwd.policy = b.fwd.policy := by rw [learn_fwd]

/-- R136, R137, R141: a frame of GUEST is handed to no service; it is counted before or after its source is learned, or
bound for the line. -/
theorem deliver_guest (h : FixedCells b.fwd.policy) (p : Port) (f : LanFrame) :
    ∃ d c, (d = b ∨ d = learn .guest p f b) ∧ deliver .guest p f b = (c, .nothing) ∧ GuestOutcome f d c := by
  by_cases hbad : isGroup f.src = true ∨ f.src = b.fwd.hwAddress
  · exact ⟨b, _, Or.inl rfl, deliver_badSource hbad, Or.inl ⟨_, rfl⟩⟩
  · obtain ⟨hgroup, hown⟩ := not_or.1 hbad
    rw [Bool.not_eq_true] at hgroup
    have hlearned : FixedCells (learn .guest p f b).fwd.policy := by rwa [learn_policy]
    by_cases hdst : f.dst = b.fwd.hwAddress
    · obtain ⟨c, hc, hout⟩ := gatewayFrame_guest hlearned p f
      exact ⟨_, c, Or.inr rfl, (deliver_gateway hgroup hown hdst).trans hc, hout⟩
    · have hdenied := switchFrame_denied (p := p) (f := f) (guest_policy_denied hlearned .guest)
      exact ⟨_, _, Or.inr rfl, deliver_switched hgroup hown hdst, Or.inl ⟨_, hdenied⟩⟩

/-! ## The outcome of a guest frame -/

theorem GuestOutcome.touches (h : GuestOutcome f b c) : Touches [.guest, .line, .mgmt, .counts] b c := by
  rcases h with ⟨k, rfl⟩ | ⟨src, dst, content, -, rfl⟩
  · exact Touches.bump k (.refl _ b) (by decide)
  · exact Touches.guestUplink _ _ _ _ (.refl _ b) (by decide) (by decide) (by decide) (by decide)

/-- R146, R147: of the line a guest frame leaves all as it was, but for itself admitted to the GUEST class. -/
theorem GuestOutcome.line (h : GuestOutcome f b c) (hrules : GuestRules b) : c.line = b.line ∨
    ∃ src dst content, f.payload = .network src dst content ∧
      c.line = (admitFrame .guest (.data src dst content) b).line ∧ GuestAdmitted b f.src := by
  rcases h with ⟨k, rfl⟩ | ⟨src, dst, content, hpayload, rfl⟩
  · exact Or.inl rfl
  · exact (guestUplink_line hrules f.src src dst content).imp_right fun hadmitted =>
      ⟨src, dst, content, hpayload, hadmitted⟩

/-- Settles O44: the GUEST row of the policy leaves a guest frame the line alone, and the guest service lets it in only
from an ACTIVE session or on admission. -/
theorem noGuestFrameReachesAnotherSegmentOrAService : Obligations.NoGuestFrameReachesAnotherSegmentOrAService := by
  unfold Obligations.NoGuestFrameReachesAnotherSegmentOrAService
  intro p f s hfixed hrules hup hclass
  obtain ⟨d, c, hd, hdeliver, hout⟩ := deliver_guest hfixed p f
  have hlearn : Touches [.fwd, .mgmt, .counts] s.block d := by
    rcases hd with rfl | rfl
    · exact .refl _ _
    · exact learn_touches _ _ _ _
  have hmode : s.block.mode = d.mode := hlearn .mode (by decide)
  have hguest : s.block.guest = d.guest := hlearn .guest (by decide)
  have hline : s.block.line = d.line := hlearn .line (by decide)
  have hkept : Touches [.fwd, .guest, .line, .mgmt, .counts] s.block c :=
    (hlearn.mono (by decide)).trans (hout.touches.mono (by decide))
  have hrulesLearned : GuestRules d := by
    unfold GuestRules at *
    rwa [← hmode, ← hguest]
  have hforwarded : forwardFrame p f s.block = (c, .nothing) := (forwardFrame_classified hup hclass).trans hdeliver
  refine ⟨c, (exec_eq_effect _ s).trans (congrArg s.becomes (lanFrame_of_unserved hforwarded)), hkept,
     (hkept .out (by decide)).symm, (hkept .till (by decide)).symm, ?_⟩
  have hframes (k : UplinkClass) : classFrames s.block k = classFrames d k := by rw [classFrames, hline]; rfl
  rcases hout.line hrulesLearned with hsame | ⟨src, dst, content, hpayload, hadmitted, hmay⟩
  · have hsameFrames (k : UplinkClass) : classFrames c k = classFrames s.block k := by
      rw [classFrames, hsame, ← hline]; rfl
    exact ⟨by rw [hsame, ← hline], fun k _ => hsameFrames k, Or.inl (hsameFrames _)⟩
  · have hnow (k : UplinkClass) : classFrames c k = classFrames (admitFrame .guest (.data src dst content) d) k := by
      rw [classFrames, hadmitted]; rfl
    refine ⟨?_, fun k hk => ?_, Or.inr ⟨src, dst, content, hpayload, ?_, ?_⟩⟩
    · rw [hadmitted, hline]; rfl
    · rw [hnow, hframes]
      exact classFrames_setClass_other _ _ hk
    · rw [hnow, hframes]
      exact classFrames_setClass_self _ _ _
    · unfold GuestAdmitted getSession at hmay
      rwa [← hline, ← hmode, ← hguest] at hmay

end GuestFrames

end Sys2Proof.Machine

namespace Sys2Proof.Machine

/-! # Room signalled over a line UP: the held replies and the TEST frames (R164, R169, R174) -/

section RoomSignalled

variable {a b c : Block} {l m taken taken' : List UplinkContent} {f : UplinkContent} {x y : ExchangeSender}

/-! ## Frames offered to the EXCHANGE class one after another (R164) -/

/-- R163, R164: frames `l` offered to a class that holds `held` bytes, behind the waiting frames `wait`: `taken` are
admitted, and `waiting` wait. -/
def TakenInOrder (held : Nat) (wait l taken waiting : List UplinkContent) : Prop :=
  (wait = [] → AdmittedInOrder 32768 held l taken waiting) ∧ (wait ≠ [] → taken = [] ∧ waiting = wait ++ l)

theorem TakenInOrder.nil (held : Nat) (wait : List UplinkContent) : TakenInOrder held wait [] [] wait :=
  ⟨fun h => ⟨by simp [h], Or.inl rfl, by simp [h]⟩, fun _ => ⟨rfl, by simp⟩⟩

theorem TakenInOrder.append {held : Nat} {wait waiting waiting' : List UplinkContent}
    (h : TakenInOrder held wait l taken waiting)
    (g : TakenInOrder (held + (taken.map uplinkBytes).sum) waiting m taken' waiting') :
    TakenInOrder held wait (l ++ m) (taken ++ taken') waiting' := by
  obtain ⟨hfree, hbehind⟩ := h
  obtain ⟨gfree, gbehind⟩ := g
  constructor
  · intro hwait
    obtain ⟨hsplit, hroom, hhead⟩ := hfree hwait
    by_cases hw : waiting = []
    · obtain ⟨gsplit, groom, ghead⟩ := gfree hw
      refine ⟨by rw [hsplit, gsplit, hw]; simp, ?_, ?_⟩
      · rcases groom with rfl | groom
        · rwa [List.append_nil]
        · exact Or.inr (by simpa [Nat.add_assoc] using groom)
      · simpa [Nat.add_assoc] using ghead
    · obtain ⟨rfl, rfl⟩ := gbehind hw
      refine ⟨by simp [hsplit], by rwa [List.append_nil], ?_⟩
      rw [List.append_nil, List.head?_append_of_ne_nil _ hw]
      exact hhead
  · intro hwait
    obtain ⟨rfl, rfl⟩ := hbehind hwait
    obtain ⟨rfl, rfl⟩ := gbehind (by simp [hwait])
    exact ⟨rfl, by simp⟩

/-- R164: from `a` to `b` the frames `l` were offered to the EXCHANGE class and none was refused; of the rest only what
the senders note of their own offers may differ. -/
structure Offered (a : Block) (l : List UplinkContent) (b : Block) : Prop where
  line : b.line = { a.line with
    classes := b.line.classes, wait := b.line.wait, refused := b.line.refused, qual := b.line.qual }
  counts : b.counts = a.counts
  others : ∀ k, k ≠ .exchange → classFrames b k = classFrames a k
  admitted : ∃ taken, classFrames b .exchange = classFrames a .exchange ++ taken ∧
    TakenInOrder (classBytes a .exchange) a.line.wait l taken b.line.wait

/-- What a sender notes of its own offers none. -/
theorem Offered.of_noted (hline : b.line = { a.line with refused := b.line.refused, qual := b.line.qual })
    (hcounts : b.counts = a.counts) : Offered a [] b := by
  have hclasses : b.line.classes = a.line.classes := by rw [hline]
  have hwait : b.line.wait = a.line.wait := by rw [hline]
  have hframes (k : UplinkClass) : classFrames b k = classFrames a k := by rw [classFrames, classFrames, hclasses]
  refine ⟨?_, hcounts, fun k _ => hframes k, [], by simp [hframes], ?_⟩
  · rw [hclasses, hwait]
    exact hline
  · rw [hwait]
    exact .nil _ _

theorem Offered.trans (h : Offered a l b) (g : Offered b m c) : Offered a (l ++ m) c := by
  obtain ⟨taken, hframes, htaken⟩ := h.admitted
  obtain ⟨taken', gframes, gtaken⟩ := g.admitted
  refine ⟨g.line.trans (by rw [h.line]), g.counts.trans h.counts, fun k hk => (g.others k hk).trans (h.others k hk),
    taken ++ taken', by rw [gframes, hframes, List.append_assoc], htaken.append ?_⟩
  have hbytes : classBytes b .exchange = classBytes a .exchange + (taken.map uplinkBytes).sum := by
    simp [classBytes, framesBytes, hframes]
  rwa [← hbytes]

theorem Offered.up (h : Offered a l b) : b.line.up = a.line.up := by rw [h.line]

/-- Offers only lengthen the wait list. -/
theorem Offered.wait_le (h : Offered a l b) : a.line.wait.length ≤ b.line.wait.length := by
  obtain ⟨taken, -, -, hbehind⟩ := h.admitted
  by_cases hw : a.line.wait = []
  · simp [hw]
  · obtain ⟨-, hwait⟩ := hbehind hw
    simp [hwait]

/-- R164: over a line UP a frame is refused exactly where the wait list is full. -/
theorem exchangeRefuses_iff (hup : a.line.up = true) (f : UplinkContent) :
    exchangeRefuses a f = true ↔ 64 ≤ a.line.wait.length := by
  unfold exchangeRefuses
  cases hw : a.line.wait with
  | nil => simp [Config.maxWaiting]
  | cons g rest => simp [hup, Config.maxWaiting]

theorem classBytes_add_le_iff (a : Block) (f : UplinkContent) :
    classFits a .exchange f = true ↔ classBytes a .exchange + uplinkBytes f ≤ 32768 := by
  rw [classFits, decide_eq_true_iff, classLimit]

/-- R164: a frame taken over a line UP. -/
theorem exchangeTake_offered (hup : a.line.up = true) (f : UplinkContent) : Offered a [f] (exchangeTake f a) := by
  unfold exchangeTake
  rw [if_pos hup]
  split
  · next h =>
    obtain ⟨hempty, hfits⟩ := Bool.and_eq_true_iff.1 h
    rw [List.isEmpty_iff] at hempty
    rw [classBytes_add_le_iff] at hfits
    refine ⟨rfl, rfl, fun k hk => classFrames_setClass_other _ _ hk, [f], classFrames_setClass_self _ _ _, ?_, ?_⟩
    · exact fun _ => ⟨by simp [hempty], Or.inr (by simpa using hfits), by simp [hempty]⟩
    · exact fun h => absurd hempty h
  · next h =>
    refine ⟨rfl, rfl, fun k _ => rfl, [], by simp; rfl, fun hempty => ?_, fun _ => ⟨rfl, rfl⟩⟩
    rw [hempty, List.isEmpty_nil, Bool.true_and, classBytes_add_le_iff, Nat.not_le] at h
    refine ⟨by simp [hempty], Or.inl rfl, ?_⟩
    simpa [hempty] using h

theorem exchangeTake_exch (f : UplinkContent) (a : Block) : (exchangeTake f a).exch = a.exch := by
  unfold exchangeTake
  (repeat' split) <;> rfl

theorem exchangeTake_noted (f : UplinkContent) (a : Block) :
    (exchangeTake f a).line.refused = a.line.refused ∧ (exchangeTake f a).line.qual = a.line.qual := by
  unfold exchangeTake
  (repeat' split) <;> exact ⟨rfl, rfl⟩

/-! ## The senders' refused frames -/

theorem mem_refused_senderServed (x y : ExchangeSender) (a : Block) :
    y ∈ (senderServed x a).line.refused ↔ y ∈ a.line.refused ∧ y ≠ x := by simp [senderServed]

theorem senderServed_eq_self (h : x ∉ a.line.refused) : senderServed x a = a := by
  have hkept : a.line.refused.filter (fun y => decide (y ≠ x)) = a.line.refused :=
    List.filter_eq_self.2 fun y hy => decide_eq_true fun e => h (e ▸ hy)
  unfold senderServed
  rw [hkept]

theorem mem_refused_senderRefused (x y : ExchangeSender) (a : Block) :
    y ∈ (senderRefused x a).line.refused ↔ y ∈ a.line.refused ∨ y = x := by
  unfold senderRefused
  split
  · next h =>
    rw [List.contains_iff_mem] at h
    exact ⟨Or.inl, fun hy => hy.elim id fun e => e ▸ h⟩
  · simp

theorem senderRefused_eq_self (h : x ∈ a.line.refused) : senderRefused x a = a := by simp [senderRefused, h]

theorem senderRefused_noted (x : ExchangeSender) (a : Block) :
    (senderRefused x a).line = { a.line with refused := (senderRefused x a).line.refused } ∧
      (senderRefused x a).counts = a.counts ∧ (senderRefused x a).exch = a.exch := by
  unfold senderRefused
  split <;> exact ⟨rfl, rfl, rfl⟩

/-! ## The engine offers its held replies (R174) -/

/-- R174: from `a` to `b` the exchange engine offered its held replies: `replies` are taken, `later` stay held. -/
structure RepliesOffered (a b : Block) (replies later : List ExchangeReply) : Prop where
  offered : Offered a (replies.map .exchange) b
  held : a.exch.held = replies ++ later
  exch : b.exch = { a.exch with held := later }
  stops : later ≠ [] → 64 ≤ b.line.wait.length
  room : 64 ≤ a.line.wait.length → replies = []
  engine : .engine ∈ b.line.refused ↔ .engine ∈ a.line.refused ∧ later ≠ []
  pattern : .pattern ∈ b.line.refused ↔ .pattern ∈ a.line.refused
  qual : b.line.qual = a.line.qual

theorem offerHeldFrom_offered (held : List ExchangeReply) (hup : a.line.up = true) : ∃ replies later,
    RepliesOffered { a with exch := { a.exch with held := held } } (offerHeldFrom held a) replies later := by
  induction held generalizing a with
  | nil =>
    refine ⟨[], [], .of_noted rfl rfl, rfl, rfl, fun h => absurd rfl h, fun _ => rfl, ?_, ?_, rfl⟩
    · rw [offerHeldFrom, mem_refused_senderServed]
      simp
    · rw [offerHeldFrom, mem_refused_senderServed]
      simp
  | cons r rest ih =>
    rw [offerHeldFrom]
    by_cases hfull : 64 ≤ a.line.wait.length
    · rw [if_pos ((exchangeRefuses_iff hup _).2 hfull)]
      exact ⟨[], r :: rest, .of_noted rfl rfl, rfl, rfl, fun _ => hfull, fun _ => rfl, by simp, Iff.rfl, rfl⟩
    · rw [if_neg (mt (exchangeRefuses_iff hup _).1 hfull)]
      have htaken := exchangeTake_offered hup (.exchange r)
      obtain ⟨hrefused, hqual⟩ := exchangeTake_noted (.exchange r) a
      obtain ⟨replies, later, h⟩ := ih (htaken.up.trans hup)
      have hhead : Offered { a with exch := { a.exch with held := r :: rest } } [.exchange r]
          { exchangeTake (.exchange r) a with exch := { (exchangeTake (.exchange r) a).exch with held := rest } } :=
        ⟨htaken.line, htaken.counts, htaken.others, htaken.admitted⟩
      refine ⟨r :: replies, later, hhead.trans h.offered, ?_, ?_, h.stops,
        fun hno => absurd hno hfull, ?_, ?_, h.qual.trans hqual⟩
      · exact congrArg (r :: ·) h.held
      · rw [h.exch, exchangeTake_exch]
      · rw [h.engine, hrefused]
      · rw [h.pattern, hrefused]

theorem offerHeld_offered (hup : a.line.up = true) :
    ∃ replies later, RepliesOffered a (serveSender .engine a) replies later :=
  offerHeldFrom_offered a.exch.held hup

/-- R174: the engine has no more to offer now: nothing is held, or the wait list is full. -/
def EngineSettled (b : Block) : Prop :=
  (b.exch.held = [] ∧ .engine ∉ b.line.refused) ∨ (b.exch.held ≠ [] ∧ 64 ≤ b.line.wait.length)

theorem EngineSettled.serve (hup : a.line.up = true) (h : EngineSettled a) : serveSender .engine a = a := by
  rw [serveSender, offerHeld]
  rcases h with ⟨hheld, hserved⟩ | ⟨hheld, hfull⟩
  · have hself : { a with exch := { a.exch with held := [] } } = a := by rw [← hheld]
    rw [hheld, offerHeldFrom, hself, senderServed_eq_self hserved]
  · obtain ⟨r, rest, hcons⟩ := List.exists_cons_of_ne_nil hheld
    have hself : { a with exch := { a.exch with held := r :: rest } } = a := by rw [← hcons]
    rw [hcons, offerHeldFrom, if_pos ((exchangeRefuses_iff hup _).2 hfull), hself]

theorem RepliesOffered.settled {replies later : List ExchangeReply} (h : RepliesOffered a b replies later) :
    EngineSettled b := by
  have hheld : b.exch.held = later := by rw [h.exch]
  by_cases hl : later = []
  · exact Or.inl ⟨hheld.trans hl, fun he => (h.engine.1 he).2 hl⟩
  · exact Or.inr ⟨by rwa [hheld], h.stops hl⟩

/-! ## The qualification engine offers its frames (R169) -/

/-- R169: the qualification engine has no more to offer now: its frames are all offered, or the wait list is full. -/
def PatternSettled (b : Block) : Prop :=
  (b.line.qual = none ∧ .pattern ∉ b.line.refused) ∨ ∃ q, b.line.qual = some q ∧
    (patternFrames q.length + 1 < q.nextOffer ∨
      (q.nextOffer = patternFrames q.length + 1 ∧ .pattern ∉ b.line.refused) ∨
      (q.nextOffer ≤ patternFrames q.length ∧ .pattern ∈ b.line.refused ∧ 64 ≤ b.line.wait.length))

/-- The qualification after `n` more of its frames were offered. -/
def advanceOffer (n : Nat) (q : Qualification) : Qualification := { q with nextOffer := q.nextOffer + n }

theorem advanceOffer_succ (n : Nat) (q : Qualification) :
    advanceOffer n (advanceOffer 1 q) = advanceOffer (n + 1) q := by
  simp only [advanceOffer, Nat.add_assoc, Nat.add_comm 1]

/-- R169: from `a` to `b` the qualification engine offered its frames: `tests` are taken. -/
structure TestsOffered (a b : Block) (tests : List UplinkContent) : Prop where
  offered : Offered a tests b
  exch : b.exch = a.exch
  qual : b.line.qual = a.line.qual.map (advanceOffer tests.length)
  none : a.line.qual = none → tests = []
  content : ∀ q, a.line.qual = some q → ∀ k x, tests[k]? = some x → x = patternContent (advanceOffer k q)
  within : ∀ q, a.line.qual = some q → q.nextOffer ≤ patternFrames q.length + 1 →
    q.nextOffer + tests.length ≤ patternFrames q.length + 1
  room : 64 ≤ a.line.wait.length → tests = []
  engine : .engine ∈ b.line.refused ↔ .engine ∈ a.line.refused
  settled : PatternSettled b

/-- A qualification engine that offers none. -/
theorem TestsOffered.of_none (hline : b.line = { a.line with refused := b.line.refused })
    (hcounts : b.counts = a.counts) (hexch : b.exch = a.exch)
    (hengine : .engine ∈ b.line.refused ↔ .engine ∈ a.line.refused) (hsettled : PatternSettled b) :
    TestsOffered a b [] := by
  have hqual : b.line.qual = a.line.qual := by rw [hline]
  refine ⟨.of_noted (by rw [hqual]; exact hline) hcounts, hexch, ?_, fun _ => rfl, by simp, fun _ _ h => h,
    fun _ => rfl, hengine, hsettled⟩
  rw [hqual]
  exact (Option.map_id' ).symm

theorem offerPatternFrom_offered {fuel : Nat} {q : Qualification} (hup : a.line.up = true) (hq : a.line.qual = some q)
    (hfuel : q.nextOffer + fuel = patternFrames q.length + 1) :
    ∃ tests, TestsOffered a (offerPatternFrom (fuel + 1) a) tests := by
  induction fuel generalizing a q with
  | zero =>
    have hdone : ¬ q.nextOffer ≤ patternFrames q.length := by omega
    refine ⟨[], ?_⟩
    rw [offerPatternFrom, hq]
    simp only [if_neg hdone]
    refine .of_none rfl rfl rfl ?_ (Or.inr ⟨q, hq, Or.inr (Or.inl ⟨by omega, ?_⟩)⟩)
    · simp
    · simp
  | succ fuel ih =>
    have hmore : q.nextOffer ≤ patternFrames q.length := by omega
    rw [offerPatternFrom, hq]
    simp only [if_pos hmore]
    by_cases hfull : 64 ≤ a.line.wait.length
    · rw [if_pos ((exchangeRefuses_iff hup _).2 hfull)]
      obtain ⟨hline, hcounts, hexch⟩ := senderRefused_noted .pattern a
      have hqual : (senderRefused .pattern a).line.qual = some q := by rw [hline, hq]
      have hwait : (senderRefused .pattern a).line.wait = a.line.wait := by rw [hline]
      refine ⟨[], .of_none hline hcounts hexch (by simp [mem_refused_senderRefused])
        (Or.inr ⟨q, hqual, Or.inr (Or.inr ?_)⟩)⟩
      exact ⟨hmore, (mem_refused_senderRefused _ _ _).2 (Or.inr rfl), by rwa [hwait]⟩
    · rw [if_neg (mt (exchangeRefuses_iff hup _).1 hfull)]
      have hoffered : Offered a [patternContent q] (offeredOne q (exchangeTake (patternContent q) a)) :=
        (exchangeTake_offered hup _).trans (.of_noted rfl rfl)
      have hrefused : (offeredOne q (exchangeTake (patternContent q) a)).line.refused = a.line.refused :=
        (exchangeTake_noted (patternContent q) a).1
      obtain ⟨tests, h⟩ := ih (q := advanceOffer 1 q) (hoffered.up.trans hup) rfl (by simp only [advanceOffer]; omega)
      refine ⟨patternContent q :: tests, hoffered.trans h.offered, h.exch.trans (exchangeTake_exch _ a), ?_, ?_, ?_, ?_,
        fun hno => absurd hno hfull, ?_, h.settled⟩
      · rw [h.qual, hq]
        exact congrArg some (advanceOffer_succ _ q)
      · simp [hq]
      · intro q' hq' k x hx
        obtain rfl : q = q' := Option.some.inj (hq.symm.trans hq')
        cases k with
        | zero => exact (Option.some.inj hx).symm
        | succ k =>
          rw [← advanceOffer_succ]
          exact h.content _ rfl k x hx
      · intro q' hq' _
        obtain rfl : q = q' := Option.some.inj (hq.symm.trans hq')
        have hrest := h.within _ rfl
        simp only [List.length_cons] at hrest ⊢
        omega
      · rw [h.engine, hrefused]

theorem offerPattern_offered (hup : a.line.up = true) : ∃ tests, TestsOffered a (serveSender .pattern a) tests := by
  rw [serveSender, offerPattern]
  cases hq : a.line.qual with
  | none => exact ⟨[], .of_none rfl rfl rfl (by simp)
      (Or.inl ⟨hq, by simp⟩)⟩
  | some q =>
    by_cases hover : patternFrames q.length + 1 < q.nextOffer
    · have hfuel : patternFrames q.length + 2 - q.nextOffer = 0 := by omega
      simp only [hfuel, offerPatternFrom]
      exact ⟨[], .of_none rfl rfl rfl Iff.rfl (Or.inr ⟨q, hq, Or.inl hover⟩)⟩
    · have hfuel : patternFrames q.length + 2 - q.nextOffer = patternFrames q.length + 1 - q.nextOffer + 1 := by omega
      simp only [hfuel]
      exact offerPatternFrom_offered hup hq (by omega)

theorem PatternSettled.serve (hup : a.line.up = true) (h : PatternSettled a) : serveSender .pattern a = a := by
  rw [serveSender, offerPattern]
  rcases h with ⟨hq, hserved⟩ | ⟨q, hq, hover | ⟨hdone, hserved⟩ | ⟨hmore, hrefused, hfull⟩⟩
  · simp only [hq, senderServed_eq_self hserved]
  · have hfuel : patternFrames q.length + 2 - q.nextOffer = 0 := by omega
    simp only [hq, hfuel, offerPatternFrom]
  · have hfuel : patternFrames q.length + 2 - q.nextOffer = 1 := by omega
    have hnot : ¬ q.nextOffer ≤ patternFrames q.length := by omega
    simp only [hq, hfuel, offerPatternFrom, if_neg hnot, senderServed_eq_self hserved]
  · have hfuel : patternFrames q.length + 2 - q.nextOffer = patternFrames q.length + 1 - q.nextOffer + 1 := by omega
    simp only [hq, hfuel, offerPatternFrom, if_pos hmore, if_pos ((exchangeRefuses_iff hup _).2 hfull),
      senderRefused_eq_self hrefused]

/-! ## One sender after the other (R164) -/

/-- R164: a sender has no more to offer now. -/
def Settled (b : Block) : ExchangeSender → Prop
  | .engine => EngineSettled b
  | .pattern => PatternSettled b

theorem EngineSettled.after_tests {tests : List UplinkContent} (h : EngineSettled a) (g : TestsOffered a b tests) :
    EngineSettled b := by
  rw [EngineSettled, g.exch, g.engine]
  exact h.imp_right fun ⟨hheld, hfull⟩ => ⟨hheld, hfull.trans g.offered.wait_le⟩

theorem PatternSettled.after_replies {replies later : List ExchangeReply} (h : PatternSettled a)
    (g : RepliesOffered a b replies later) : PatternSettled b := by
  rw [PatternSettled, g.qual, g.pattern]
  exact h.imp_right fun ⟨q, hq, hstate⟩ => ⟨q, hq, hstate.imp_right fun hstate =>
    hstate.imp_right fun ⟨hmore, hrefused, hfull⟩ => ⟨hmore, hrefused, hfull.trans g.offered.wait_le⟩⟩

theorem serveSender_up (hup : a.line.up = true) (x : ExchangeSender) : (serveSender x a).line.up = true := by
  cases x with
  | engine =>
    obtain ⟨_, _, h⟩ := offerHeld_offered hup
    exact h.offered.up.trans hup
  | pattern =>
    obtain ⟨_, h⟩ := offerPattern_offered hup
    exact h.offered.up.trans hup

theorem settled_serveSender_self (hup : a.line.up = true) (x : ExchangeSender) : Settled (serveSender x a) x := by
  cases x with
  | engine =>
    obtain ⟨_, _, h⟩ := offerHeld_offered hup
    exact h.settled
  | pattern =>
    obtain ⟨_, h⟩ := offerPattern_offered hup
    exact h.settled

theorem serveSender_of_settled (hup : a.line.up = true) (h : Settled a x) : serveSender x a = a := by
  cases x with
  | engine => exact EngineSettled.serve hup h
  | pattern => exact PatternSettled.serve hup h

theorem Settled.serveSender (hup : a.line.up = true) (h : Settled a x) (y : ExchangeSender) :
    Settled (serveSender y a) x := by
  by_cases hxy : y = x
  · exact hxy ▸ settled_serveSender_self hup y
  · cases x with
    | engine =>
      obtain rfl : y = .pattern := by cases y <;> simp_all
      obtain ⟨_, g⟩ := offerPattern_offered hup
      exact EngineSettled.after_tests h g
    | pattern =>
      obtain rfl : y = .engine := by cases y <;> simp_all
      obtain ⟨_, _, g⟩ := offerHeld_offered hup
      exact PatternSettled.after_replies h g

/-- R164: once one sender has offered, the other offers where it stands in the list, and a repeated name changes
nothing. -/
theorem foldl_serveSender_of_settled (l : List ExchangeSender) (hup : a.line.up = true) (hxy : x ≠ y)
    (h : Settled a x) : l.foldl (fun c z => serveSender z c) a = if y ∈ l then serveSender y a else a := by
  induction l generalizing a with
  | nil => rfl
  | cons z rest ih =>
    rw [List.foldl_cons]
    by_cases hz : z = x
    · rw [hz, serveSender_of_settled hup h, ih hup h]
      simp [hxy.symm]
    · obtain rfl : z = y := by cases x <;> cases y <;> cases z <;> simp_all
      rw [ih (serveSender_up hup z) (h.serveSender hup z), if_pos List.mem_cons_self]
      split
      · exact serveSender_of_settled (serveSender_up hup z) (settled_serveSender_self hup z)
      · rfl

/-- R164: room signalled: the sender that was refused first offers first, then the other where it was refused too. -/
theorem signalRoom_of_head (hup : a.line.up = true) (hx : a.line.refused.head? = some x) (hxy : x ≠ y) :
    signalRoom a = if y ∈ a.line.refused then serveSender y (serveSender x a) else serveSender x a := by
  obtain ⟨rest, hrest⟩ := List.head?_eq_some_iff.1 hx
  rw [signalRoom, hrest, List.foldl_cons, foldl_serveSender_of_settled rest (serveSender_up hup x) hxy
    (settled_serveSender_self hup x)]
  simp [hxy.symm]

/-! ## What each sender had taken (R169, R174) -/

/-- R174: the engine's part in a signalling of room. -/
def EngineShare (a b : Block) (replies later : List ExchangeReply) : Prop :=
  (.engine ∉ a.line.refused → replies = [] ∧ b.exch = a.exch ∧ .engine ∉ b.line.refused) ∧
  (.engine ∈ a.line.refused → a.exch.held = replies ++ later ∧ b.exch = { a.exch with held := later } ∧
    (later ≠ [] → 64 ≤ b.line.wait.length) ∧ (.engine ∈ b.line.refused ↔ later ≠ []))

/-- R169: the qualification engine's part in a signalling of room. -/
def PatternShare (a b : Block) (tests : List UplinkContent) : Prop :=
  (.pattern ∉ a.line.refused → tests = [] ∧ .pattern ∉ b.line.refused) ∧ (a.line.qual = none → tests = []) ∧
  b.line.qual = a.line.qual.map (advanceOffer tests.length) ∧
  ∀ q, a.line.qual = some q →
    (∀ k x, tests[k]? = some x → x = patternContent (advanceOffer k q)) ∧
    (.pattern ∈ a.line.refused → q.nextOffer ≤ patternFrames q.length + 1 →
      q.nextOffer + tests.length ≤ patternFrames q.length + 1 ∧
      (q.nextOffer + tests.length < patternFrames q.length + 1 → 64 ≤ b.line.wait.length) ∧
      (.pattern ∈ b.line.refused ↔ q.nextOffer + tests.length < patternFrames q.length + 1))

section Shares

variable {replies later : List ExchangeReply} {tests : List UplinkContent}

theorem EngineShare.idle (h : .engine ∉ a.line.refused) : EngineShare a a [] [] :=
  ⟨fun _ => ⟨rfl, rfl, h⟩, fun hin => absurd hin h⟩

theorem PatternShare.idle (h : .pattern ∉ a.line.refused) : PatternShare a a [] :=
  ⟨fun _ => ⟨rfl, h⟩, fun _ => rfl, (Option.map_id').symm, fun _ _ => ⟨by simp, fun hin => absurd hin h⟩⟩

theorem RepliesOffered.share (h : RepliesOffered a b replies later) (hin : .engine ∈ a.line.refused) :
    EngineShare a b replies later :=
  ⟨fun hno => absurd hin hno, fun _ => ⟨h.held, h.exch, h.stops, h.engine.trans (and_iff_right hin)⟩⟩

/-- R169: where the qualification engine stops short, the wait list is full. -/
theorem TestsOffered.stops {q : Qualification} (h : TestsOffered a b tests) (hq : a.line.qual = some q)
    (hmore : q.nextOffer + tests.length < patternFrames q.length + 1) :
    .pattern ∈ b.line.refused ∧ 64 ≤ b.line.wait.length := by
  have hqual : b.line.qual = some (advanceOffer tests.length q) := by rw [h.qual, hq]; rfl
  rcases h.settled with ⟨hnone, -⟩ | ⟨q', hq', hstate⟩
  · rw [hqual] at hnone
    cases hnone
  · obtain rfl : advanceOffer tests.length q = q' := Option.some.inj (hqual.symm.trans hq')
    simp only [advanceOffer] at hstate
    rcases hstate with hover | ⟨hdone, -⟩ | ⟨-, hrefused, hfull⟩
    · omega
    · omega
    · exact ⟨hrefused, hfull⟩

theorem TestsOffered.share (h : TestsOffered a b tests) (hin : .pattern ∈ a.line.refused) : PatternShare a b tests := by
  refine ⟨fun hno => absurd hin hno, h.none, h.qual, fun q hq => ⟨h.content q hq, fun _ hle => ?_⟩⟩
  refine ⟨h.within q hq hle, fun hmore => (h.stops hq hmore).2, fun hrefused => ?_, fun hmore => (h.stops hq hmore).1⟩
  have hqual : b.line.qual = some (advanceOffer tests.length q) := by rw [h.qual, hq]; rfl
  have hle' := h.within q hq hle
  rcases h.settled with ⟨-, hserved⟩ | ⟨q', hq', hstate⟩
  · exact absurd hrefused hserved
  · obtain rfl : advanceOffer tests.length q = q' := Option.some.inj (hqual.symm.trans hq')
    simp only [advanceOffer] at hstate
    rcases hstate with hover | ⟨-, hserved⟩ | ⟨hmore, -⟩
    · omega
    · exact absurd hrefused hserved
    · omega

theorem EngineShare.then_tests (h : EngineShare a b replies later) (g : TestsOffered b c tests) :
    EngineShare a c replies later := by
  obtain ⟨hidle, hserved⟩ := h
  rw [EngineShare, g.exch, g.engine]
  refine ⟨hidle, fun hin => ?_⟩
  obtain ⟨hheld, hexch, hstops, hmem⟩ := hserved hin
  exact ⟨hheld, hexch, fun hl => (hstops hl).trans g.offered.wait_le, hmem⟩

theorem EngineShare.of_tests (g : TestsOffered a b tests) (h : EngineShare b c replies later) :
    EngineShare a c replies later := by
  rwa [EngineShare, g.exch, g.engine] at h

theorem PatternShare.then_replies (h : PatternShare a b tests) (g : RepliesOffered b c replies later) :
    PatternShare a c tests := by
  obtain ⟨hidle, hnone, hqual, hserved⟩ := h
  rw [PatternShare, g.qual, g.pattern]
  refine ⟨hidle, hnone, hqual, fun q hq => ⟨(hserved q hq).1, fun hin hle => ?_⟩⟩
  obtain ⟨hwithin, hstops, hmem⟩ := (hserved q hq).2 hin hle
  exact ⟨hwithin, fun hmore => (hstops hmore).trans g.offered.wait_le, hmem⟩

theorem PatternShare.of_replies (g : RepliesOffered a b replies later) (h : PatternShare b c tests) :
    PatternShare a c tests := by
  rwa [PatternShare, g.qual, g.pattern] at h

/-- R164: room was signalled once both parts are known, and the sender that was refused first and stopped short kept the
other from offering. -/
theorem roomTaken_of_shares (he : EngineShare a b replies later) (hp : PatternShare a b tests)
    (hengine : later ≠ [] → a.line.refused.head? = some .engine → tests = [])
    (hpattern : ∀ q, a.line.qual = some q → q.nextOffer + tests.length < patternFrames q.length + 1 →
      a.line.refused.head? = some .pattern → replies = []) : RoomTaken a b replies later tests := by
  obtain ⟨heidle, heserved⟩ := he
  obtain ⟨hpidle, hpnone, hpqual, hpserved⟩ := hp
  refine ⟨?_, heidle, fun hin => ?_, hpidle, fun hq => ⟨hpnone hq, by rw [hpqual, hq]; rfl⟩,
    fun q total hq htotal => ?_⟩
  · by_cases hin : .engine ∈ a.line.refused
    · obtain ⟨-, hexch, -⟩ := heserved hin
      rw [hexch]
    · rw [(heidle hin).2.1]
  · obtain ⟨hheld, hexch, hstops, hmem⟩ := heserved hin
    exact ⟨hheld, by rw [hexch], hstops, hmem, hengine⟩
  · subst htotal
    obtain ⟨hcontent, hserved⟩ := hpserved q hq
    refine ⟨⟨q.timer, by rw [hpqual, hq]; rfl⟩, hcontent, fun hin hle => ?_⟩
    obtain ⟨hwithin, hstops, hmem⟩ := hserved hin hle
    exact ⟨hwithin, hstops, hmem, hpattern q hq⟩

end Shares

/-- R164, R169, R174: from `a` to `b` room was signalled over a line UP. -/
def RoomServed (a b : Block) : Prop :=
  ∃ replies later tests, RoomTaken a b replies later tests ∧
    b.line.qual = a.line.qual.map (advanceOffer tests.length) ∧ Offered a (offeredInOrder a replies tests) b

/-- R164: what the two senders had taken, where neither the order nor a full wait list kept one of them out. -/
theorem roomServed_of_shares {replies later : List ExchangeReply} {tests : List UplinkContent}
    (he : EngineShare a b replies later) (hp : PatternShare a b tests)
    (ho : Offered a (offeredInOrder a replies tests) b)
    (hengine : later ≠ [] → a.line.refused.head? = some .engine → tests = [])
    (hpattern : ∀ q, a.line.qual = some q → q.nextOffer + tests.length < patternFrames q.length + 1 →
      a.line.refused.head? = some .pattern → replies = []) : RoomServed a b := by
  obtain ⟨-, -, hqual, -⟩ := id hp
  exact ⟨replies, later, tests, roomTaken_of_shares he hp hengine hpattern, hqual, ho⟩

theorem signalRoom_engineFirst (hup : a.line.up = true) (hhead : a.line.refused.head? = some .engine) :
    RoomServed a (signalRoom a) := by
  have hin : .engine ∈ a.line.refused := List.mem_of_head? hhead
  have horder (replies : List ExchangeReply) (tests : List UplinkContent) :
      offeredInOrder a replies tests = replies.map .exchange ++ tests := by simp [offeredInOrder, hhead]
  have hnot : a.line.refused.head? ≠ some .pattern := by simp [hhead]
  rw [signalRoom_of_head hup hhead (y := .pattern) (by decide)]
  obtain ⟨replies, later, hreplies⟩ := offerHeld_offered hup
  split
  · next hpattern =>
    obtain ⟨tests, htests⟩ := offerPattern_offered (serveSender_up hup .engine)
    refine roomServed_of_shares ((hreplies.share hin).then_tests htests)
      (.of_replies hreplies (htests.share (hreplies.pattern.2 hpattern))) ?_
      (fun hl _ => htests.room (hreplies.stops hl)) fun _ _ _ h => absurd h hnot
    rw [horder]
    exact hreplies.offered.trans htests.offered
  · next hpattern =>
    refine roomServed_of_shares (hreplies.share hin) ((PatternShare.idle hpattern).then_replies hreplies) ?_
      (fun _ _ => rfl) fun _ _ _ h => absurd h hnot
    rw [horder, List.append_nil]
    exact hreplies.offered

theorem signalRoom_patternFirst (hup : a.line.up = true) (hhead : a.line.refused.head? = some .pattern) :
    RoomServed a (signalRoom a) := by
  have hin : .pattern ∈ a.line.refused := List.mem_of_head? hhead
  have horder (replies : List ExchangeReply) (tests : List UplinkContent) :
      offeredInOrder a replies tests = tests ++ replies.map .exchange := by simp [offeredInOrder, hhead]
  have hnot : a.line.refused.head? ≠ some .engine := by simp [hhead]
  rw [signalRoom_of_head hup hhead (y := .engine) (by decide)]
  obtain ⟨tests, htests⟩ := offerPattern_offered hup
  split
  · next hengine =>
    obtain ⟨replies, later, hreplies⟩ := offerHeld_offered (serveSender_up hup .pattern)
    refine roomServed_of_shares (.of_tests htests (hreplies.share (htests.engine.2 hengine)))
      ((htests.share hin).then_replies hreplies) ?_ (fun _ h => absurd h hnot)
      fun q hq hmore _ => hreplies.room (htests.stops hq hmore).2
    rw [horder]
    exact htests.offered.trans hreplies.offered
  · next hengine =>
    refine roomServed_of_shares ((EngineShare.idle hengine).then_tests htests) (htests.share hin) ?_
      (fun _ h => absurd h hnot) fun _ _ _ _ => rfl
    rw [horder, List.map_nil, List.append_nil]
    exact htests.offered

/-- R164, R169, R174: room signalled over a line UP. -/
theorem signalRoom_served (hup : a.line.up = true) : RoomServed a (signalRoom a) := by
  cases hhead : a.line.refused.head? with
  | none =>
    have hnone : a.line.refused = [] := List.head?_eq_none_iff.1 hhead
    have hself : signalRoom a = a := by rw [signalRoom, hnone]; rfl
    rw [hself]
    refine roomServed_of_shares (.idle (by simp [hnone])) (.idle (by simp [hnone])) ?_ (fun _ _ => rfl)
      fun _ _ _ _ => rfl
    simp only [offeredInOrder, hnone]
    exact .of_noted rfl rfl
  | some x =>
    cases x with
    | engine => exact signalRoom_engineFirst hup hhead
    | pattern => exact signalRoom_patternFirst hup hhead

end RoomSignalled

end Sys2Proof.Machine

namespace Sys2Proof.Machine

/-! # LINE_FRAME: a frame of the line is checked, counted and passed on (R138, R139, R159, R161, R167, R168, R170) -/

section LineFrames

variable {a b c : Block} {f : LineInput} {s : State}

/-! ## The line state (R161) -/

theorem receiveValid_of_up (hup : b.line.up = true) :
    receiveValid b = bump .framesReceived { b with line := { b.line with loss := some 3000 } } := by
  have hcounted : (bump .framesReceived b).line.up = true := hup
  rw [receiveValid, countForState, if_pos hcounted]
  rfl

/-- R161: the block as the third frame takes its line UP, before the senders offer what they hold. -/
def lineRaised (b : Block) : Block :=
  notice .uplinkUp .line (bump .framesReceived
    { b with line := { b.line with up := true, loss := some 3000, kept := [] } })

theorem receiveValid_third {x y : Nat} {rest : List Nat} (hdown : b.line.up = false) (hk : b.line.kept = x :: y :: rest)
    (hnow : b.time.now ≤ x + 4000) : receiveValid b = signalRoom (lineRaised b) := by
  have hcounted : ¬ (bump .framesReceived b).line.up = true := by
    rw [bump_line, hdown]
    exact Bool.false_ne_true
  have hthird : thirdWithin (bump .framesReceived b).time.now (bump .framesReceived b).line.kept = true := by
    rw [bump_line, bump_time, hk]
    exact decide_eq_true hnow
  rw [receiveValid, countForState, if_neg hcounted, if_pos hthird]
  rfl

theorem receiveValid_of_down (hdown : b.line.up = false)
    (hk : ∀ x y rest, b.line.kept = x :: y :: rest → x + 4000 < b.time.now) : receiveValid b =
      bump .framesReceived { b with line := { b.line with kept := keptAfter b.time.now b.line.kept } } := by
  have hcounted : ¬ (bump .framesReceived b).line.up = true := by
    rw [bump_line, hdown]
    exact Bool.false_ne_true
  have hthird : ¬ thirdWithin (bump .framesReceived b).time.now (bump .framesReceived b).line.kept = true := by
    rw [bump_line, bump_time]
    unfold thirdWithin
    split
    · next x y rest h =>
      have hlate := hk x y rest h
      simpa using hlate
    · exact Bool.false_ne_true
  rw [receiveValid, countForState, if_neg hcounted, if_neg hthird]
  rfl

theorem keptAfter_spec (now : Nat) (kept : List Nat) :
    (keptAfter now kept).length ≤ 2 ∧ keptAfter now kept <:+ kept ++ [now] ∧ now ∈ keptAfter now kept := by
  refine ⟨by simp [keptAfter]; omega, List.drop_suffix _ _, ?_⟩
  rw [keptAfter, List.drop_append_of_le_length (by simp)]
  simp

theorem lineRaised_served (b : Block) : RoomServed (lineRaised b) (signalRoom (lineRaised b)) := signalRoom_served rfl

theorem receiveValid_touches (b : Block) : Touches [.line, .exch, .mgmt, .counts] b (receiveValid b) := by
  apply Touches.countForState (Touches.bump _ (.refl _ b) (by decide)) <;> decide

theorem receiveValid_loopback (b : Block) : (receiveValid b).line.loopback = b.line.loopback := by
  unfold receiveValid countForState
  split
  · rfl
  · split
    · obtain ⟨_, _, _, -, -, hoffered⟩ := lineRaised_served b
      exact (congrArg LineBlock.loopback hoffered.line :)
    · rfl

/-! ## The frame check (R159, R168) -/

theorem checkFrame_badFrame (h : 4608 < f.length ∨ f.complete = false) : checkFrame f = .badFrame := if_pos h

theorem checkFrame_of_whole (hlen : f.length ≤ 4608) (hwhole : f.complete = true) :
    checkFrame f = if f.crcOk then .valid else .badCrc := by
  have hnot : ¬ (maxContent < f.length ∨ f.complete = false) := by simp [maxContent, hlen, hwhole]
  rw [checkFrame, if_neg hnot]

theorem damagedFrame_counted {x : LineContent} (h : (∀ n bits, x ≠ .testPattern n bits) ∨ b.line.qual = none) :
    damagedFrame x b = bump .crcError b := by
  unfold damagedFrame
  split
  · next n bits q hq =>
    rcases h with hno | hnone
    · exact absurd rfl (hno n bits)
    · rw [hq] at hnone
      cases hnone
  · rfl

theorem damagedFrame_pattern {q : Qualification} (n : Nat) (bits : List Bool) (hq : b.line.qual = some q) :
    damagedFrame (.testPattern n bits) b =
      if bits.length = 256 then examine n bits q (bump .crcError b) else bump .crcError b := by
  simp [damagedFrame, hq]

/-! ## Frames passed on (R159, R170, R174, R184) -/

theorem takeTestLoop_none (h : b.line.qual = none) : takeTestLoop b = bump .unexpectedKind b := by
  simp [takeTestLoop, h]

theorem takeTestLoop_running (h : b.line.qual ≠ none) : takeTestLoop b = b := by
  obtain ⟨q, hq⟩ := Option.ne_none_iff_exists'.1 h
  simp [takeTestLoop, hq]

theorem takePattern_none (n : Nat) (bits : List Bool) (h : b.line.qual = none) :
    takePattern n bits b = bump .unexpectedKind b := by simp [takePattern, h]

theorem takePattern_running {q : Qualification} (n : Nat) (bits : List Bool) (h : b.line.qual = some q) :
    takePattern n bits b = examine n bits q b := by simp [takePattern, h]

/-- R159: a frame that has no business here. -/
theorem passOn_unexpected {x : LineContent} (h : x = .journalBlock ∨ x = .unknownKind ∨ x = .malformed ∨
    (x = .testLoop ∧ b.line.qual = none) ∨
    (∃ n bits, x = .testPattern n bits ∧ (bits.length ≠ 256 ∨ b.line.qual = none))) :
    passOn x b = bump .unexpectedKind b := by
  rcases h with rfl | rfl | rfl | ⟨rfl, hnone⟩ | ⟨n, bits, rfl, hbits⟩
  · rfl
  · rfl
  · rfl
  · exact takeTestLoop_none hnone
  · by_cases hlen : bits.length = 256
    · exact (if_pos hlen).trans (takePattern_none n bits (hbits.resolve_left (not_not_intro hlen)))
    · exact if_neg hlen

theorem passOn_pattern {q : Qualification} {bits : List Bool} (n : Nat) (hlen : bits.length = 256)
    (hq : b.line.qual = some q) : passOn (.testPattern n bits) b = examine n bits q b :=
  (if_pos hlen).trans (takePattern_running n bits hq)

theorem message_of_sourceTakes {h : MgmtHeader} (g : Block → Block × ReplyBody) (hs : sourceTakes b h.source = true) :
    message h g b = forStation h (answered h g) b := if_pos hs

theorem silentMessage_of_sourceTakes {h : MgmtHeader} (g : Block → Block) (hs : sourceTakes b h.source = true) :
    silentMessage h g b = forStation h g b := if_pos hs

/-- R184: the row of a message is the message taken. -/
theorem takeMessage_of_row {src : MgmtSource} {m : MgmtMessage} {i : Instr} (hs : sourceTakes b src = true)
    (hr : messageRow (MgmtHeader.mk src m.station m.tag) m.body = some i) : takeMessage src m b = effect i b := by
  unfold takeMessage
  generalize hh : MgmtHeader.mk src m.station m.tag = h at hr ⊢
  have htakes : sourceTakes b h.source = true := by rwa [← hh]
  generalize m.body = body at hr ⊢
  cases body with
  | window table first last direction => cases hr; exact (message_of_sourceTakes _ htakes).symm
  | write rs => cases hr; exact (message_of_sourceTakes _ htakes).symm
  | read count => cases hr; exact (message_of_sourceTakes _ htakes).symm
  | status => cases hr; exact (message_of_sourceTakes _ htakes).symm
  | unknownKind => cases hr
  | malformed => cases hr
  | command k =>
    cases k with
    | warmRestart => cases hr; exact (silentMessage_of_sourceTakes _ htakes).symm
    | coldRestart => cases hr; exact (silentMessage_of_sourceTakes _ htakes).symm
    | unknown => cases hr
    | _ => cases hr; exact (message_of_sourceTakes _ htakes).symm

theorem takeMessage_otherStation {m : MgmtMessage} (src : MgmtSource) (h : m.station ≠ b.pins.straps.val) :
    takeMessage src m b = bump .mgmtIgnored b := if_neg h

/-- R184, R188: a message of no known kind or command is refused. -/
theorem takeMessage_unknown {m : MgmtMessage} (src : MgmtSource) (h : m.station = b.pins.straps.val)
    (hbody : m.body = .unknownKind ∨ m.body = .command .unknown) :
    takeMessage src m b = answerMgmt src m.tag (.refusal .unknownKind none) b := by
  rw [takeMessage, forStation, if_pos h]
  rcases hbody with hbody | hbody <;> rw [hbody] <;> rfl

theorem takeMessage_malformed {m : MgmtMessage} (src : MgmtSource) (h : m.station = b.pins.straps.val)
    (hbody : m.body = .malformed) : takeMessage src m b = answerMgmt src m.tag (.refusal .fieldRange none) b := by
  rw [takeMessage, forStation, if_pos h, hbody]
  rfl

theorem takeExchange_of_row {x : ExchangeFrame} {i : Instr} (hup : b.line.up = true) (hoff : b.line.loopback = .off)
    (hr : exchangeRow x = some i) : takeExchange x b = effect i b := by
  cases x with
  | empty => cases hr
  | unknown kind => cases hr
  | malformed kind => cases hr
  | _ => cases hr; exact (fromLine_taken _ hup hoff).symm

/-- R174, R192: a frame of no known kind is refused for its kind, one malformed otherwise for its fields (log 48). -/
theorem takeExchange_refused {x : ExchangeFrame} {kind : Byte} {code : Code}
    (h : (x = .unknown kind ∧ code = .unknownKind) ∨
    (x = .malformed kind ∧ code = (if 1 ≤ kind.toNat ∧ kind.toNat ≤ 4 then .fieldRange else .unknownKind)) ∨
    (x = .empty ∧ kind = 0#8 ∧ code = .fieldRange)) :
    takeExchange x b = formReply (.refused kind code) (bump .exchangeRefusals b) := by
  rcases h with ⟨rfl, rfl⟩ | ⟨rfl, rfl⟩ | ⟨rfl, rfl, rfl⟩
  · rfl
  · have hkind : headOfficeKind kind = true ↔ 1 ≤ kind.toNat ∧ kind.toNat ≤ 4 := within_iff _ _ _
    simp only [takeExchange, refuseExchange, hkind]
  · rfl

/-! ## DATA frames of the line (R138, R139, R148) -/

section LineData

variable {src dst : NetAddr} {content : List Byte} {d : Segment}

theorem fromUplink_badSource (h : ∃ d, inRange (gatewayOf b d) src = true) :
    fromUplink src dst content b = bump .badSource b := by
  have hown : (segmentOf b src).isSome = true := by
    rw [← Option.ne_none_iff_isSome, Ne, segmentOf_eq_none]
    rintro hall
    obtain ⟨d, hd⟩ := h
    exact absurd hd (by simp [hall d])
  rw [fromUplink, if_pos hown]

theorem not_segmentOf_isSome (h : ∀ d, inRange (gatewayOf b d) src = false) : ¬ (segmentOf b src).isSome = true := by
  simp [(segmentOf_eq_none b src).2 h]

theorem not_isGateway (h : ∀ d, (gatewayOf b d).address ≠ dst) : ¬ isGateway b dst = true := fun hg => by
  obtain ⟨d, hd⟩ := (isGateway_iff b dst).1 hg
  exact h d hd

theorem fromUplink_gateway (h : ∀ d, inRange (gatewayOf b d) src = false) (hg : ∃ d, (gatewayOf b d).address = dst) :
    fromUplink src dst content b = bump .gatewayDiscard b := by
  rw [fromUplink, if_neg (not_segmentOf_isSome h), if_pos ((isGateway_iff b dst).2 hg)]

theorem fromUplink_noRoute (h : ∀ d, inRange (gatewayOf b d) src = false) (hg : ∀ d, (gatewayOf b d).address ≠ dst)
    (hd : ∀ d, inRange (gatewayOf b d) dst = false) : fromUplink src dst content b = bump .noRoute b := by
  rw [fromUplink, if_neg (not_segmentOf_isSome h), if_neg (not_isGateway hg), (segmentOf_eq_none b dst).2 hd]

theorem fromUplink_routed (h : ∀ d, inRange (gatewayOf b d) src = false) (hg : ∀ d, (gatewayOf b d).address ≠ dst)
    (hd : segmentOf b dst = some d) : fromUplink src dst content b = route none d src dst content b := by
  rw [fromUplink, if_neg (not_segmentOf_isSome h), if_neg (not_isGateway hg), hd]

theorem route_denied {x : Option Segment} (h : policyAllows b x (some d) = false) :
    route x d src dst content b = bump .policyDenied b := by simp [route, h]

theorem route_noNeighbour {x : Option Segment} (h : policyAllows b x (some d) = true) (hn : neighbour b d dst = none) :
    route x d src dst content b = bump .noNeighbour b := by simp [route, h, hn]

/-- R138: a frame routed to a segment other than GUEST leaves by its neighbour's port, where that is UP. -/
theorem route_sent {x : Option Segment} {e : Nat × AddressEntry} (h : policyAllows b x (some d) = true)
    (hn : neighbour b d dst = some e) (hd : d ≠ .guest) : route x d src dst content b =
      if (b.fwd.ports.get e.2.port).up = true then
        emit (.lan e.2.port (BitVec.ofNat 48 (keyHw e.1)) b.fwd.hwAddress (sendTag b e.2.port d)
          (.network src dst content)) b
      else b := by
  cases d with
  | guest => exact absurd rfl hd
  | _ => simp only [route, h, hn, if_true]; rfl

theorem guestDownlink_fwd (hw : HwAddr) (content : List Byte) (b : Block) :
    (guestDownlink hw content b).1.fwd = b.fwd := by
  have hkept : Touches [.guest, .counts] b (guestDownlink hw content b).1 := by
    apply Touches.guestDownlink hw content (.refl _ b) <;> decide
  exact (hkept .fwd (by decide)).symm

/-- R138, R148: a frame routed to GUEST leaves where the guest service passes it. -/
theorem route_toGuest {x : Option Segment} {e : Nat × AddressEntry} (h : policyAllows b x (some .guest) = true)
    (hn : neighbour b .guest dst = some e) {g : Block × Bool}
    (hg : g = guestDownlink (BitVec.ofNat 48 (keyHw e.1)) content b) : route x .guest src dst content b =
      if g.2 = true ∧ (b.fwd.ports.get e.2.port).up = true then
        emit (.lan e.2.port (BitVec.ofNat 48 (keyHw e.1)) b.fwd.hwAddress
          (some (b.fwd.ports.get e.2.port).settings.guestTag) (.network src dst content)) g.1
      else g.1 := by
  have hfwd : g.1.fwd = b.fwd := by rw [hg, guestDownlink_fwd]
  simp only [route, h, hn, if_true, sendToGuest, ← hg, sendRouted, sendLan, sendTag, hfwd, ite_and]

end LineData

/-! ## LINE_FRAME in each loopback state (R159, R167, R168) -/

theorem exec_lineFrame (h : arriveFromLine f s.block = c) : exec (.lineFrame (.fromLine f)) s = s.becomes c :=
  (exec_eq_effect _ s).trans (congrArg s.becomes h)

/-- A frame from the line that is the row of another event. -/
theorem exec_lineFrame_row {i : Instr} (h : arriveFromLine f s.block = effect i c) :
    exec (.lineFrame (.fromLine f)) s = exec i { s with block := c } :=
  (exec_lineFrame h).trans (exec_eq_effect i { s with block := c }).symm

theorem arriveFromLine_local (h : b.line.loopback = .localLoop) (f : LineInput) : arriveFromLine f b = b := by
  simp [arriveFromLine, h]

theorem arriveFromLine_off (h : b.line.loopback = .off) (f : LineInput) : arriveFromLine f b = receiveFrame f b := by
  simp [arriveFromLine, h]

theorem arriveFromLine_remote (h : b.line.loopback = .remoteLoop) (f : LineInput) :
    arriveFromLine f b = checkRemote f (bump .remoteEchoed (emit (.lineEcho f) b)) := by
  simp [arriveFromLine, h, echoFrame]

theorem receiveFrame_badFrame (h : 4608 < f.length ∨ f.complete = false) : receiveFrame f b = bump .frameError b := by
  simp [receiveFrame, checkFrame_badFrame h]

section WholeFrame

variable (hlen : f.length ≤ 4608) (hwhole : f.complete = true)
include hlen hwhole

theorem receiveFrame_badCrc (hcrc : f.crcOk = false) : receiveFrame f b = damagedFrame f.content b := by
  simp [receiveFrame, checkFrame_of_whole hlen hwhole, hcrc]

theorem receiveFrame_valid (hcrc : f.crcOk = true) : receiveFrame f b = validFrame f.content b := by
  simp [receiveFrame, checkFrame_of_whole hlen hwhole, hcrc]

theorem checkRemote_badCrc (hcrc : f.crcOk = false) : checkRemote f b = bump .crcError b := by
  simp [checkRemote, checkFrame_of_whole hlen hwhole, hcrc]

theorem checkRemote_valid (hcrc : f.crcOk = true) : checkRemote f b =
    if (receiveValid b).line.up then receiveValid b else bump .receivedWhileDown (receiveValid b) := by
  simp [checkRemote, checkFrame_of_whole hlen hwhole, hcrc]

end WholeFrame

theorem checkRemote_badFrame (h : 4608 < f.length ∨ f.complete = false) : checkRemote f b = bump .frameError b := by
  simp [checkRemote, checkFrame_badFrame h]

theorem validFrame_up {x : LineContent} (h : (receiveValid b).line.up = true) :
    validFrame x b = passOn x (receiveValid b) := if_pos h

theorem validFrame_down {x : LineContent} (h : (receiveValid b).line.up = false) :
    validFrame x b = bump .receivedWhileDown (receiveValid b) := by simp [validFrame, h]

/-! ## Returned frames (R167) -/

theorem exec_returned {x : SentFrame} {rest : List SentFrame} (hl : s.block.line.loopback = .localLoop)
    (hr : s.block.line.returning = x :: rest) : exec (.lineFrame .returned) s =
      s.becomes (takeReturned x { s.block with line := { s.block.line with returning := rest } }) := by
  refine (exec_eq_effect _ s).trans (congrArg s.becomes ?_)
  simp only [effect, lineFrame, arriveReturned, hl, hr]

theorem takeReturned_tooLong {x : SentFrame} (h : 4608 < sentLength x) :
    takeReturned x b = bump .frameError b := if_pos h

theorem takeReturned_sorted {x : SentFrame} (h : sentLength x ≤ 4608) :
    takeReturned x b = sortReturned x (receiveValid b) := if_neg (Nat.not_lt.2 h)

/-- R163, R169: a TEST frame is never too long for the line. -/
theorem sentLength_test {x : SentFrame} (h : x = .queued .testLoop ∨ ∃ run n k, x = .queued (.testPattern run n k)) :
    sentLength x ≤ 4608 := by
  rcases h with rfl | ⟨run, n, k, rfl⟩
  · exact Nat.lt_succ_iff.1 Config.testLoopBytes.isLt
  · simp [sentLength, uplinkBytes]

theorem sortReturned_test {x : SentFrame} (h : x = .queued .testLoop ∨ ∃ run n k, x = .queued (.testPattern run n k)) :
    (b.line.up = false → sortReturned x b = bump .receivedWhileDown b) ∧
    (b.line.up = true → b.line.qual = none → sortReturned x b = bump .unexpectedKind b) := by
  rcases h with rfl | ⟨run, n, k, rfl⟩
  · exact ⟨fun hd => by simp [sortReturned, hd], fun hu hq => (if_pos hu).trans (takeTestLoop_none hq)⟩
  · exact ⟨fun hd => by simp [sortReturned, hd], fun hu hq => (if_pos hu).trans (takePattern_none _ _ hq)⟩

theorem sortReturned_discarded {y : UplinkContent} (hloop : y ≠ .testLoop)
    (hpattern : ∀ run n k, y ≠ .testPattern run n k) :
    sortReturned (.queued y) b = bump .loopedBack (if b.line.up then b else bump .receivedWhileDown b) := by
  cases y with
  | testLoop => exact absurd rfl hloop
  | testPattern run n k => exact absurd rfl (hpattern run n k)
  | _ => rfl

/-! ## The obligation -/

/-- R161, R164, log 38: what the third frame in DOWN leaves. -/
theorem receiveValid_raises {x y : Nat} {rest : List Nat} (hdown : b.line.up = false)
    (hk : b.line.kept = x :: y :: rest) (hnow : b.time.now ≤ x + 4000) :
    (receiveValid b).line.up = true ∧ (receiveValid b).line.loss = some 3000 ∧ (receiveValid b).line.kept = [] ∧
    (b.line.refused = [] → receiveValid b = lineRaised b) ∧ (receiveValid b).mgmt = (lineRaised b).mgmt ∧
    (receiveValid b).counts = (bump .framesReceived b).counts ∧ RoomServed (lineRaised b) (receiveValid b) := by
  have hserved := lineRaised_served b
  have hquiet : Touches [.line, .exch, .counts] (lineRaised b) (signalRoom (lineRaised b)) := by
    apply Touches.signalRoom (.refl _ _) <;> decide
  rw [← receiveValid_third hdown hk hnow] at hserved hquiet
  obtain ⟨replies, later, tests, -, -, hoffered⟩ := id hserved
  have hline := hoffered.line
  refine ⟨(congrArg LineBlock.up hline :), (congrArg LineBlock.loss hline :), (congrArg LineBlock.kept hline :),
    fun hnone => ?_, (hquiet .mgmt (by decide)).symm, hoffered.counts, hserved⟩
  rw [receiveValid_third hdown hk hnow, signalRoom, show (lineRaised b).line.refused = [] from hnone]
  rfl

/-- Settles O47: an arriving frame by its check and the loopback state, a valid one by its kind; the third one in DOWN by
what the senders have taken as room is signalled; a returned one by its kind. -/
theorem lineFrameIsCheckedCountedAndPassedOn : Obligations.LineFrameIsCheckedCountedAndPassedOn := by
  unfold Obligations.LineFrameIsCheckedCountedAndPassedOn
  refine ⟨fun f s => ⟨fun hl => exec_lineFrame (arriveFromLine_local hl f), fun hoff => ?_, fun hl => ?_⟩,
    fun b => ⟨receiveValid_of_up, fun x y rest hdown hk hnow => ?_, fun hdown hk => ?_⟩, fun s x rest c hl hr hc => ?_⟩
  · have hframe {c : Block} (h : receiveFrame f s.block = c) : exec (.lineFrame (.fromLine f)) s = s.becomes c :=
      exec_lineFrame ((arriveFromLine_off hoff f).trans h)
    refine ⟨fun h => hframe (receiveFrame_badFrame h), fun hlen hwhole hcrc hx => ?_,
      fun n bits q hlen hwhole hcrc hx hq => ?_, fun c hlen hwhole hcrc hc => ?_⟩
    · exact hframe ((receiveFrame_badCrc hlen hwhole hcrc).trans (damagedFrame_counted hx))
    · refine hframe ((receiveFrame_badCrc hlen hwhole hcrc).trans ?_)
      rw [hx]
      exact damagedFrame_pattern n bits hq
    · have hvalid := receiveFrame_valid hlen hwhole hcrc (b := s.block)
      refine ⟨fun hdown => hframe (hvalid.trans ?_), fun hup => ?_⟩
      · rw [validFrame_down (hc ▸ hdown), hc]
      · have hpassed : receiveFrame f s.block = passOn f.content c := by
          rw [hvalid, validFrame_up (hc ▸ hup), hc]
        have hkind {x : LineContent} {d : Block} (hx : f.content = x) (h : passOn x c = d) :
            exec (.lineFrame (.fromLine f)) s = s.becomes d := hframe (hpassed.trans (by rw [hx, h]))
        have hrow {x : LineContent} {i : Instr} (hx : f.content = x) (h : passOn x c = effect i c) :
            exec (.lineFrame (.fromLine f)) s = exec i { s with block := c } :=
          exec_lineFrame_row ((arriveFromLine_off hoff f).trans (hpassed.trans (by rw [hx, h])))
        have hloop : c.line.loopback = .off := by rw [hc, receiveValid_loopback, hoff]
        have htakes : lineTakes c = true := (lineTakes_iff c).2 ⟨hup, hloop⟩
        have hpins : c.pins = s.block.pins := by rw [hc]; exact (receiveValid_touches s.block .pins (by decide)).symm
        refine ⟨fun hx => hkind hx rfl, fun hx => hframe (hpassed.trans (passOn_unexpected hx)),
          fun hx hq => hkind hx (takeTestLoop_running hq),
          fun n bits q hx hlen hq => hkind hx (passOn_pattern n hlen hq),
          fun n hx => hrow hx (if_pos htakes).symm,
          fun m i hx hr => hrow hx (takeMessage_of_row htakes hr), fun m hx => ?_,
          fun x i hx hr => hrow hx (takeExchange_of_row hup hloop hr), fun kind code hx => ?_,
          fun src dst content hx => ?_⟩
        · rw [← hpins]
          exact ⟨fun hother => hkind hx (takeMessage_otherStation _ hother), fun hst =>
            ⟨fun hbody => hkind hx (takeMessage_unknown _ hst hbody),
              fun hbody => hkind hx (takeMessage_malformed _ hst hbody)⟩⟩
        · rcases hx with ⟨hx, h⟩ | ⟨hx, h⟩ | ⟨hx, h⟩
          · exact hkind hx (takeExchange_refused (Or.inl ⟨rfl, h⟩))
          · exact hkind hx (takeExchange_refused (Or.inr (Or.inl ⟨rfl, h⟩)))
          · exact hkind hx (takeExchange_refused (Or.inr (Or.inr ⟨rfl, h⟩)))
        · refine ⟨fun h => hkind hx (fromUplink_badSource h), fun h => ⟨fun hg => hkind hx (fromUplink_gateway h hg),
            fun hg => ⟨fun hd => hkind hx (fromUplink_noRoute h hg hd), fun d hd => ?_⟩⟩⟩
          have hrouted {e : Block} (hroute : route none d src dst content c = e) :
              exec (.lineFrame (.fromLine f)) s = s.becomes e := hkind hx ((fromUplink_routed h hg hd).trans hroute)
          refine ⟨fun hno => hrouted (route_denied hno), fun hyes => ⟨fun hn => hrouted (route_noNeighbour hyes hn),
            fun e hn => ⟨fun hguest => hrouted (route_sent hyes hn hguest), fun x hguest hpass => ?_⟩⟩⟩
          subst hguest
          exact hrouted (route_toGuest hyes hn hpass)
  · have hframe {c : Block} (h : checkRemote f (bump .remoteEchoed (emit (.lineEcho f) s.block)) = c) :
        exec (.lineFrame (.fromLine f)) s = s.becomes c := exec_lineFrame ((arriveFromLine_remote hl f).trans h)
    exact ⟨_, rfl, fun h => hframe (checkRemote_badFrame h),
      fun hlen hwhole hcrc => hframe (checkRemote_badCrc hlen hwhole hcrc),
      fun hlen hwhole hcrc => hframe (checkRemote_valid hlen hwhole hcrc)⟩
  · obtain ⟨hup, hloss, hkept, hquiet, hmgmt, hcounts, replies, later, tests, htaken, hqual, hoffered⟩ :=
      receiveValid_raises hdown hk hnow
    obtain ⟨taken, hframes, hfree, hbehind⟩ := hoffered.admitted
    exact ⟨hup, hloss, hkept, hquiet, receiveValid_touches b, hmgmt, hcounts, replies, later, tests, taken, htaken,
      hqual, hoffered.others, hframes, hfree, hbehind⟩
  · exact ⟨_, receiveValid_of_down hdown hk, keptAfter_spec _ _⟩
  · have hreturned {d : Block} (hlen : sentLength x ≤ 4608) (h : sortReturned x c = d) :
        exec (.lineFrame .returned) s = s.becomes d := by
      rw [exec_returned hl hr, takeReturned_sorted hlen, ← hc, h]
    have hother (y : UplinkContent) (hx : x = .queued y) (hloop : y ≠ .testLoop)
        (hpattern : ∀ run n k, y ≠ .testPattern run n k) (hlen : uplinkBytes y ≤ 4608) :
        exec (.lineFrame .returned) s =
          s.becomes (bump .loopedBack (if c.line.up then c else bump .receivedWhileDown c)) :=
      hreturned (by rwa [hx]) (by rw [hx]; exact sortReturned_discarded hloop hpattern)
    refine ⟨fun hx => hreturned (by rw [hx]; exact Nat.zero_le _) (by rw [hx]; rfl),
      fun h hd => hreturned (sentLength_test h) ((sortReturned_test h).1 hd),
      fun h hu hq => hreturned (sentLength_test h) ((sortReturned_test h).2 hu hq),
      fun hx hu hq => ?_, fun run n k q hx hu hq => ?_,
      fun src dst content hx hlen => ?_, fun y hx hloop hpattern => ⟨hother y hx hloop hpattern, fun hlong => ?_⟩⟩
    · refine hreturned (sentLength_test (Or.inl hx)) ?_
      rw [hx]
      exact (if_pos hu).trans (takeTestLoop_running hq)
    · refine hreturned (sentLength_test (Or.inr ⟨run, n, k, hx⟩)) ?_
      rw [hx]
      exact (if_pos hu).trans (takePattern_running n _ hq)
    · exact hother _ hx (by simp) (by simp) (by simp only [uplinkBytes]; omega)
    · rw [exec_returned hl hr, takeReturned_tooLong (by rw [hx]; exact hlong)]

end LineFrames

end Sys2Proof.Machine
